-- ==== Sys2Proof/Word.lean ====
section
/-! DEFINITION. The number types of the FA48: bytes of the host link, and the index types of its tables.
Index types are `Fin` types: the bound is part of the type, so a number outside the table cannot be written. -/

namespace Sys2Proof

/-- One byte of a host frame or of a lane record. -/
abbrev Byte := BitVec 8

/-- A crosspoint of the 16 by 16 matrix: drive line × 16 + sense line (spec 00, Conventions; R1). -/
abbrev Crosspoint := Fin 256

/-- A slot of the Voice Table; it is also the voice id (R59). -/
abbrev Slot := Fin 48

/-- One of the four voice lanes (R143). -/
abbrev LaneNo := Fin 4

/-- A scene of the library (R37). -/
abbrev SceneNo := Fin 16

/-- A layer position of a scene or of the Live Copy (R37, R45). -/
abbrev LayerPos := Fin 8

/-- A register number (R45). -/
abbrev RegNo := Fin 16

/-- A pitch, 0..127 (spec 00, Conventions). -/
abbrev Pitch := Fin 128

/-- A program number, 0..16383 (R38). -/
abbrev Program := Fin 16384

/-- A tier code, 0..15 (R37, R111). -/
abbrev TierCode := Fin 16

/-- A set of lanes; bit n stands for lane n, the coding of the messages (R40, R84). -/
abbrev LaneSet := BitVec 4

/-- The readings of one scan pass: bit x is 1 when crosspoint x reads "pressed" (R1). -/
abbrev Readings := BitVec 256

/-- One byte completed on RXD, and whether its stop bit was there (R167, broken byte). -/
structure RxByte where
  value : Byte
  stopBit : Bool
  /-- it was in the middle of reception when the RESET pin was released (R181); DESIGN CHOICE (log entry 18): the event
  says so -/
  overReset : Bool
  deriving DecidableEq, Repr

/-- A table given entry by entry. It is irreducible so that no unification unrolls its entries; its one lemma,
`get_tabulate`, reads it. -/
@[irreducible] def tabulate {α : Type} {n : Nat} (f : Fin n → α) : Vector α n := Vector.ofFn f

end Sys2Proof
end

