-- ==== Sys2Proof/Config.lean ====
section
/-! DEFINITION. What the spec leaves free. One value is left open: which of several timers that run out at
the same tick of the timebase is taken first (spec 00, Conventions, "Events"). -/

namespace Sys2Proof

/-- DESIGN CHOICE (log entry 3). The n-th free choice between timers that are due at the same tick: no body,
so nothing can be proved of which one is taken. The step applies it to the model's own counter
`State.freeDraws`, and takes the result modulo the number of due timers. -/
opaque Config.expiryPick : Nat → Nat

end Sys2Proof
end

