-- ==== Sys2Proof/Syntax.lean ====
section
/-! DEFINITION. The commands of the FA48: one constructor for each row of spec/opcode_table.json.
An event of a line, a timer or a converter carries what arrives with it. A host request carries its tag and its
payload bytes AS THEY ARE in the frame, of any length and with any values, so that the checks of R169 are part of
its meaning. -/

namespace Sys2Proof

/-- A command: an event that reaches the part, or a good request frame of one kind. -/
inductive Instr where
  /-- POWER_ON_RESET: power is applied or the RESET pin is released (R17, R36, R45, R85, R104, R123, R141, R163,
  R181, R186, R191). The levels of the CUE line and of the ready lines are those of the pins. -/
  | powerOnReset
  /-- SCAN_PASS: the pass timer expires; `readings` is what the sense lines show in this pass (R1 to R12). -/
  | scanPass (readings : Readings)
  /-- SAMPLE_ARRIVAL: a bellows sample word completes; `r` is the 16-bit word (R87). -/
  | sampleArrival (r : BitVec 16)
  /-- STREAM_LOSS_TIMEOUT: the stream-loss timer expires (R99). -/
  | streamLossTimeout
  /-- CUE_LINE_RISE: the CUE line rises (R55). -/
  | cueLineRise
  /-- CUE_LINE_FALL: the CUE line falls (R55). -/
  | cueLineFall
  /-- CUE_QUALIFICATION_EXPIRY: the qualification timer expires (R55). -/
  | cueQualificationExpiry
  /-- READY_RISE: the ready line of lane `n` rises (R151). -/
  | readyRise (n : LaneNo)
  /-- READY_FALL: the ready line of lane `n` falls (R154). -/
  | readyFall (n : LaneNo)
  /-- RECORD_COMPLETION: the last byte of the record being sent on lane `n` leaves LTXn (R152). -/
  | recordCompletion (n : LaneNo)
  /-- STALL_EXPIRY: the stall timer of lane `n` expires (R155). -/
  | stallExpiry (n : LaneNo)
  /-- METER_EXPIRY: the meter timer expires (R188). -/
  | meterExpiry
  /-- RECEIVE_BAD_FRAME: these bytes complete on RXD; the receiver takes them one by one (R166, R167). -/
  | receiveBadFrame (bytes : List RxByte)
  /-- GAP_TIMEOUT: these bytes complete on RXD and then the inter-byte gap timer expires (R167). -/
  | gapTimeout (bytes : List RxByte)
  /-- FRAME_DISCARD: a good frame of any kind completes its check while the reply slot is occupied (R168). -/
  | frameDiscard (kind tag : Byte) (payload : List Byte)
  /-- UNKNOWN_KIND_REQUEST: a good frame whose kind is no request kind (R169, R170). -/
  | unknownKindRequest (kind tag : Byte) (payload : List Byte)
  /-- HOST_FRAME_COMPLETION: the last byte of the frame being sent leaves TXD (R173). -/
  | hostFrameCompletion
  /-- GET_IDENTITY, kind 0x01 (R175). -/
  | getIdentity (tag : Byte) (payload : List Byte)
  /-- GET_STATUS, kind 0x02 (R177, R178). -/
  | getStatus (tag : Byte) (payload : List Byte)
  /-- RESTART, kind 0x03 (R179, R180). -/
  | restart (tag : Byte) (payload : List Byte)
  /-- SET_NOTICE_MASK, kind 0x04 (R185). -/
  | setNoticeMask (tag : Byte) (payload : List Byte)
  /-- SET_METER, kind 0x05 (R187). -/
  | setMeter (tag : Byte) (payload : List Byte)
  /-- READ_METER, kind 0x06 (R190). -/
  | readMeter (tag : Byte) (payload : List Byte)
  /-- SET_SCAN, kind 0x08 (R15). -/
  | setScan (tag : Byte) (payload : List Byte)
  /-- LOAD_ROLES, kind 0x09 (R13). -/
  | loadRoles (tag : Byte) (payload : List Byte)
  /-- READ_BUTTONS, kind 0x0A (R16). -/
  | readButtons (tag : Byte) (payload : List Byte)
  /-- LOAD_TREBLE_PITCHES, kind 0x0C (R29). -/
  | loadTreblePitches (tag : Byte) (payload : List Byte)
  /-- LOAD_BASS_ROOTS, kind 0x0D (R30). -/
  | loadBassRoots (tag : Byte) (payload : List Byte)
  /-- LOAD_CHORD_FORM, kind 0x0E (R31). -/
  | loadChordForm (tag : Byte) (payload : List Byte)
  /-- SET_ROW_FORMS, kind 0x0F (R32). -/
  | setRowForms (tag : Byte) (payload : List Byte)
  /-- SET_SECTION_MODES, kind 0x10 (R34). -/
  | setSectionModes (tag : Byte) (payload : List Byte)
  /-- SET_TRANSPOSE, kind 0x11 (R35). -/
  | setTranspose (tag : Byte) (payload : List Byte)
  /-- BEGIN_SCENE, kind 0x14 (R39). -/
  | beginScene (tag : Byte) (payload : List Byte)
  /-- LOAD_LAYER, kind 0x15 (R40). -/
  | loadLayer (tag : Byte) (payload : List Byte)
  /-- SET_SCENE_DEFAULTS, kind 0x16 (R41). -/
  | setSceneDefaults (tag : Byte) (payload : List Byte)
  /-- FINISH_SCENE, kind 0x17 (R42). -/
  | finishScene (tag : Byte) (payload : List Byte)
  /-- ERASE_SCENE, kind 0x18 (R43). -/
  | eraseScene (tag : Byte) (payload : List Byte)
  /-- ARM_CUE, kind 0x19 (R50). -/
  | armCue (tag : Byte) (payload : List Byte)
  /-- CANCEL_CUE, kind 0x1A (R51). -/
  | cancelCue (tag : Byte) (payload : List Byte)
  /-- FIRE_CUE, kind 0x1B (R53). -/
  | fireCue (tag : Byte) (payload : List Byte)
  /-- TAKE_SCENE, kind 0x1C (R49). -/
  | takeScene (tag : Byte) (payload : List Byte)
  /-- SELECT_REGISTER, kind 0x1D (R57). -/
  | selectRegister (tag : Byte) (payload : List Byte)
  /-- LOAD_OVERRIDE, kind 0x1E (R58). -/
  | loadOverride (tag : Byte) (payload : List Byte)
  /-- READ_VOICES, kind 0x20 (R84). -/
  | readVoices (tag : Byte) (payload : List Byte)
  /-- SET_BELLOWS, kind 0x22 (R102). -/
  | setBellows (tag : Byte) (payload : List Byte)
  /-- SET_DYNAMICS, kind 0x23 (R118, R119). -/
  | setDynamics (tag : Byte) (payload : List Byte)
  /-- SET_EXPRESSION, kind 0x24 (R120). -/
  | setExpression (tag : Byte) (payload : List Byte)
  /-- LOAD_TIER_MAP, kind 0x25 (R121). -/
  | loadTierMap (tag : Byte) (payload : List Byte)
  /-- SET_LEVEL, kind 0x26 (R122). -/
  | setLevel (tag : Byte) (payload : List Byte)
  /-- PUSH_OVERRIDE, kind 0x28 (R131). -/
  | pushOverride (tag : Byte) (payload : List Byte)
  /-- POP_OVERRIDE, kind 0x29 (R132). -/
  | popOverride (tag : Byte) (payload : List Byte)
  /-- MUTE, kind 0x2A (R135). -/
  | mute (tag : Byte) (payload : List Byte)
  /-- UNMUTE, kind 0x2B (R135). -/
  | unmute (tag : Byte) (payload : List Byte)
  /-- HUSH, kind 0x2C (R135). -/
  | hush (tag : Byte) (payload : List Byte)
  /-- UNHUSH, kind 0x2D (R135). -/
  | unhush (tag : Byte) (payload : List Byte)
  /-- PANIC, kind 0x2E (R136). -/
  | panic (tag : Byte) (payload : List Byte)
  /-- SET_LANE, kind 0x30 (R157, R158). -/
  | setLane (tag : Byte) (payload : List Byte)
  /-- RESET_LANE, kind 0x31 (R159). -/
  | resetLane (tag : Byte) (payload : List Byte)
  /-- READ_LANES, kind 0x32 (R160). -/
  | readLanes (tag : Byte) (payload : List Byte)
  deriving DecidableEq, Repr

end Sys2Proof
end

