-- ==== Sys2Proof/Decode.lean ====
section
/-! DEFINITION. What a word and what a good frame spell. The opcode table gives no bits to any row, so a bare word
spells no command. A good request frame does: its kind byte names the request (the summary table of spec 09, 9.3). -/

namespace Sys2Proof

/-- No row of spec/opcode_table.json gives bits, so no word of the table's bits spells a command. -/
def decodeTableWord (_nbits _w : Nat) : Option Instr := none

/-- The command a good frame stands for, by its kind byte (spec 09, table of request kinds; R169 check 1). -/
def requestOfFrame (kind tag : Byte) (payload : List Byte) : Instr :=
  match kind.toNat with
  | 0x01 => .getIdentity tag payload
  | 0x02 => .getStatus tag payload
  | 0x03 => .restart tag payload
  | 0x04 => .setNoticeMask tag payload
  | 0x05 => .setMeter tag payload
  | 0x06 => .readMeter tag payload
  | 0x08 => .setScan tag payload
  | 0x09 => .loadRoles tag payload
  | 0x0A => .readButtons tag payload
  | 0x0C => .loadTreblePitches tag payload
  | 0x0D => .loadBassRoots tag payload
  | 0x0E => .loadChordForm tag payload
  | 0x0F => .setRowForms tag payload
  | 0x10 => .setSectionModes tag payload
  | 0x11 => .setTranspose tag payload
  | 0x14 => .beginScene tag payload
  | 0x15 => .loadLayer tag payload
  | 0x16 => .setSceneDefaults tag payload
  | 0x17 => .finishScene tag payload
  | 0x18 => .eraseScene tag payload
  | 0x19 => .armCue tag payload
  | 0x1A => .cancelCue tag payload
  | 0x1B => .fireCue tag payload
  | 0x1C => .takeScene tag payload
  | 0x1D => .selectRegister tag payload
  | 0x1E => .loadOverride tag payload
  | 0x20 => .readVoices tag payload
  | 0x22 => .setBellows tag payload
  | 0x23 => .setDynamics tag payload
  | 0x24 => .setExpression tag payload
  | 0x25 => .loadTierMap tag payload
  | 0x26 => .setLevel tag payload
  | 0x28 => .pushOverride tag payload
  | 0x29 => .popOverride tag payload
  | 0x2A => .mute tag payload
  | 0x2B => .unmute tag payload
  | 0x2C => .hush tag payload
  | 0x2D => .unhush tag payload
  | 0x2E => .panic tag payload
  | 0x30 => .setLane tag payload
  | 0x31 => .resetLane tag payload
  | 0x32 => .readLanes tag payload
  | _ => .unknownKindRequest kind tag payload

/-- The kind, tag and payload of the frame that carries a command, for the commands that are good request frames;
the events of lines, timers and converters, and a run of received bytes, are carried by no one frame. -/
def frameOfRequest : Instr → Option (Byte × Byte × List Byte)
  | .powerOnReset | .scanPass _ | .sampleArrival _ | .streamLossTimeout | .cueLineRise | .cueLineFall
  | .cueQualificationExpiry | .readyRise _ | .readyFall _ | .recordCompletion _ | .stallExpiry _ | .meterExpiry
  | .receiveBadFrame _ | .gapTimeout _ | .hostFrameCompletion => none
  | .frameDiscard k t p => some (k, t, p)
  | .unknownKindRequest k t p => some (k, t, p)
  | .getIdentity t p => some (0x01, t, p)
  | .getStatus t p => some (0x02, t, p)
  | .restart t p => some (0x03, t, p)
  | .setNoticeMask t p => some (0x04, t, p)
  | .setMeter t p => some (0x05, t, p)
  | .readMeter t p => some (0x06, t, p)
  | .setScan t p => some (0x08, t, p)
  | .loadRoles t p => some (0x09, t, p)
  | .readButtons t p => some (0x0A, t, p)
  | .loadTreblePitches t p => some (0x0C, t, p)
  | .loadBassRoots t p => some (0x0D, t, p)
  | .loadChordForm t p => some (0x0E, t, p)
  | .setRowForms t p => some (0x0F, t, p)
  | .setSectionModes t p => some (0x10, t, p)
  | .setTranspose t p => some (0x11, t, p)
  | .beginScene t p => some (0x14, t, p)
  | .loadLayer t p => some (0x15, t, p)
  | .setSceneDefaults t p => some (0x16, t, p)
  | .finishScene t p => some (0x17, t, p)
  | .eraseScene t p => some (0x18, t, p)
  | .armCue t p => some (0x19, t, p)
  | .cancelCue t p => some (0x1A, t, p)
  | .fireCue t p => some (0x1B, t, p)
  | .takeScene t p => some (0x1C, t, p)
  | .selectRegister t p => some (0x1D, t, p)
  | .loadOverride t p => some (0x1E, t, p)
  | .readVoices t p => some (0x20, t, p)
  | .setBellows t p => some (0x22, t, p)
  | .setDynamics t p => some (0x23, t, p)
  | .setExpression t p => some (0x24, t, p)
  | .loadTierMap t p => some (0x25, t, p)
  | .setLevel t p => some (0x26, t, p)
  | .pushOverride t p => some (0x28, t, p)
  | .popOverride t p => some (0x29, t, p)
  | .mute t p => some (0x2A, t, p)
  | .unmute t p => some (0x2B, t, p)
  | .hush t p => some (0x2C, t, p)
  | .unhush t p => some (0x2D, t, p)
  | .panic t p => some (0x2E, t, p)
  | .setLane t p => some (0x30, t, p)
  | .resetLane t p => some (0x31, t, p)
  | .readLanes t p => some (0x32, t, p)

/-- Whether the command is the frame of an unknown kind that `requestOfFrame` answers. -/
def isUnknownKind : Instr → Bool
  | .unknownKindRequest _ _ _ => true
  | _ => false

/-- The kinds of the summary table of spec 09, 9.3: those that `requestOfFrame` knows. -/
def knownKind (kind : Byte) : Bool := !isUnknownKind (requestOfFrame kind 0 [])

end Sys2Proof
end

