-- ==== Sys2Proof/Machine/State.lean ====
section
/-! DEFINITION. The state of the FA48, block by block as spec 00 lists them, the reasons a step can stop, and the
state right after reset. Every field is plain data. -/

namespace Sys2Proof.Machine

/-! ## Why a step can stop -/

/-- Why a command stops the machine. The spec gives every command of the table an effect and names no event that
stops the part (HALTED is a state in which it goes on, R139), so no command faults and there is no constructor. -/
inductive Fault
  deriving DecidableEq, Repr

/-- Why a command has no meaning. -/
inductive Refusal where
  /-- Raised by an arm of `exec` whose command has no meaning yet; safe (the machine stops). No arm raises it. -/
  | notModelled (mnemonic : String)
  deriving DecidableEq, Repr

/-! ## Timers -/

/-- A timer of the millisecond timebase (spec 00, "Time"): stopped, or running with the quarter milliseconds that
have passed since it was last started from zero. -/
abbrev Timer := Option Nat

/-! ## Directions, sections, modes -/

/-- A bellows direction (R92): the values of BD and of a voiced-as entry. -/
inductive Dir | push | pull
  deriving DecidableEq, Repr

/-- The class of a corrected sample (R89). -/
inductive SampleClass | still | push | pull
  deriving DecidableEq, Repr

/-- A section mode (R24, R37). -/
inductive Mode | unisonoric | bisonoric
  deriving DecidableEq, Repr

/-- A half of the instrument. -/
inductive Sect | treble | bass
  deriving DecidableEq, Repr

/-! ## Button Scanner (BSC) -/

/-- An entry of the Role Table (R4). -/
inductive Role where
  | none
  | treble (key : Fin 96)
  | bass (column : Fin 20) (row : Fin 6)
  | trebleRegister (n : RegNo)
  | bassRegister (n : RegNo)
  | override (n : Fin 4)
  | hush
  | cue
  deriving DecidableEq, Repr

/-- Debounced state and debounce count of one crosspoint (R2). -/
structure Button where
  pressed : Bool
  count : Nat
  deriving DecidableEq, Repr

/-- The Button Scanner's state (spec 01). -/
structure Scanner where
  /-- debounced state and count of each crosspoint (R2) -/
  buttons : Vector Button 256
  /-- the Role Table (R4) -/
  roles : Vector Role 256
  /-- the held count, 0..256 (R5) -/
  held : Nat
  /-- occupancy of each override group (R8) -/
  groupOcc : Vector Nat 4
  /-- occupancy of the hush group (R9) -/
  hushOcc : Nat
  /-- scan interval, 1..16, in quarter milliseconds (R1) -/
  interval : Nat
  /-- debounce depth D, 1..15 (R2) -/
  depth : Nat
  /-- the pass timer (R1) -/
  passTimer : Timer
  deriving DecidableEq, Repr

/-! ## Note Expander (NEX) -/

/-- A push pitch and a pull pitch, or a push root and a pull root (R19, R20). -/
structure PitchPair where
  push : Pitch
  pull : Pitch
  deriving DecidableEq, Repr

/-- The Note Expander's four tables (R19 to R22). -/
structure Expander where
  trebleTable : Vector PitchPair 96
  bassTable : Vector PitchPair 20
  /-- the Chord Form Table: each form a list of 1 to 4 intervals of 0..36 semitones (R21) -/
  forms : Vector (List (Fin 37)) 8
  rowForms : Vector (Fin 8) 6
  deriving DecidableEq, Repr

/-! ## Scene Store (SST) -/

/-- A layer record (R38). -/
structure Layer where
  sect : Sect
  rowMask : BitVec 6
  regMask : BitVec 16
  program : Program
  laneMask : LaneSet
  /-- −48..+48 -/
  transpose : Int
  keyLow : Pitch
  keyHigh : Pitch
  priority : Fin 4
  carry : Bool
  deriving DecidableEq, Repr

/-- Registers, transpose and section modes: a scene's defaults, the Live Copy's settings, a saved context
(R37, R45, R125). The transpose is −24..+24. -/
structure Settings where
  trebleReg : RegNo
  bassReg : RegNo
  transpose : Int
  trebleMode : Mode
  bassMode : Mode
  deriving DecidableEq, Repr

/-- State of a scene record (R37). -/
inductive SceneState | empty | loading | valid
  deriving DecidableEq, Repr

/-- A scene record (R37). `loading` is the spec's PARTIAL. -/
structure Scene where
  state : SceneState
  layers : Vector (Option Layer) 8
  defaults : Settings
  tierMap : Vector TierCode 8
  deriving DecidableEq, Repr

/-- The Live Copy (R45). -/
structure LiveCopy where
  /-- the origin, or `none` for NONE -/
  origin : Option SceneNo
  layers : Vector (Option Layer) 8
  settings : Settings
  tierMap : Vector TierCode 8
  deriving DecidableEq, Repr

/-- The armed cue (R50). Trigger bits: 0 HOST, 1 CUE_LINE, 2 CUE_BUTTON, 3 REVERSAL.
Item bits: 0 LAYERS, 1 SETTINGS, 2 TIERMAP. -/
structure Cue where
  target : SceneNo
  triggers : BitVec 4
  items : BitVec 3
  deriving DecidableEq, Repr

/-- An override definition; `none` stands for keep (R58). The delta is −24..+24. -/
structure OverrideDef where
  target : Option SceneNo
  trebleReg : Option RegNo
  bassReg : Option RegNo
  delta : Int
  trebleMode : Option Mode
  bassMode : Option Mode
  deriving DecidableEq, Repr

/-- State of the cue line detector (R55). -/
inductive Detector | waitRise | qualifying | waitFall
  deriving DecidableEq, Repr

/-- The Scene Store's state (spec 03). -/
structure SceneStore where
  library : Vector Scene 16
  live : LiveCopy
  armed : Option Cue
  overrides : Vector OverrideDef 4
  detector : Detector
  /-- the qualification timer (R55) -/
  qualTimer : Timer
  /-- the level of the CUE pin, 1 for high; a pin, set from outside -/
  cuePin : Bool
  deriving DecidableEq, Repr

/-! ## Voice Table (VTB) -/

/-- State of a voice (R60). -/
inductive VoiceState | free | sounding | owed
  deriving DecidableEq, Repr

/-- Origin of a voice (R59). -/
inductive Origin | live | orphan
  deriving DecidableEq, Repr

/-- A voice record (R59). -/
structure Voice where
  state : VoiceState
  origin : Origin
  layer : LayerPos
  priority : Fin 4
  program : Program
  pitch : Pitch
  lanes : LaneSet
  owed : LaneSet
  /-- in the order they joined (R62) -/
  holders : List Crosspoint
  startSeq : BitVec 32
  deriving DecidableEq, Repr

/-- The Voice Table's state (spec 04). -/
structure VoiceTable where
  voices : Vector Voice 48
  /-- the voiced-as table; `none` for NONE (R63) -/
  voicedAs : Vector (Option Dir) 256
  /-- the start sequence counter (R61) -/
  seqCounter : BitVec 32
  deriving DecidableEq, Repr

/-! ## Bellows Front End (BFE) -/

/-- Offset mode (R101). -/
inductive OffsetMode | track | fixed
  deriving DecidableEq, Repr

/-- Tracking speed k: 4, 6 or 8 (R101). -/
inductive Speed | k4 | k6 | k8
  deriving DecidableEq, Repr

/-- The settings written by Set Bellows (R101). -/
structure BellowsSettings where
  mode : OffsetMode
  fixedOffset : Int
  speed : Speed
  /-- still threshold Ts, 0..32767 -/
  still : Nat
  /-- confirmation Nr, 1..64 -/
  confirm : Nat
  /-- hold length Hr, 0..255 -/
  hold : Nat
  deriving DecidableEq, Repr

/-- The Bellows Front End's state (spec 05). -/
structure Bellows where
  /-- the offset accumulator A (R90) -/
  acc : Int
  /-- the bellows direction BD (R92) -/
  bd : Dir
  /-- the confirmation run (R92) -/
  run : Nat
  /-- the hold counter h (R92) -/
  holdLeft : Nat
  lastClass : SampleClass
  /-- the rail fault flag and its two counters (R98) -/
  railFault : Bool
  railRun : Nat
  clearRun : Nat
  /-- the stream-lost condition (R99) -/
  lost : Bool
  lossTimer : Timer
  /-- the bits of a sample word only partly received (R87, R179); DESIGN CHOICE (log entry 11): no command adds one -/
  partialWord : List Bool
  settings : BellowsSettings
  deriving DecidableEq, Repr

/-! ## Dynamics Unit (DYN) -/

/-- The settings of the Dynamics Unit (R118). -/
structure DynSettings where
  /-- w, 1..12; the window length is 2^w -/
  winShift : Nat
  tu : Nat
  td : Nat
  rise : Nat
  fall : Nat
  drift : Int
  tsurge : Nat
  surge : Nat
  /-- H -/
  holdOff : Nat
  floor : Fin 65536
  ceil : Fin 65536
  /-- s, 0..7 -/
  smooth : Nat
  /-- G -/
  gain : Nat
  /-- Xdelta, 1..32 -/
  swellStep : Nat
  deriving DecidableEq, Repr

/-- The Dynamics Unit's state (R106). -/
structure Dynamics where
  level : Fin 65536
  /-- the surge hold-off u (R108) -/
  holdOffLeft : Nat
  /-- the window sum S (R109) -/
  winSum : Nat
  /-- the window position j (R109) -/
  winPos : Nat
  /-- the last average a (R110) -/
  average : Nat
  /-- the last code posted; `none` for NONE (R112) -/
  lastCode : Option TierCode
  /-- the smoothed pressure F16 (R113) -/
  f16 : Nat
  /-- the expression X (R114) -/
  expr : Fin 128
  /-- the last-posted swell of each lane (R115) -/
  lastSwell : Vector (Fin 128) 4
  settings : DynSettings
  deriving DecidableEq, Repr

/-! ## Override Stack (OVS) and Silencing Control (SLC) -/

/-- An entry of the override stack (R125). -/
structure StackEntry where
  tag : Fin 8
  released : Bool
  sceneReplaced : Bool
  origin : Option SceneNo
  saved : Settings
  deriving DecidableEq, Repr

/-- The part state (R134). -/
inductive PartState | playing | halted
  deriving DecidableEq, Repr

/-- Silencing Control's state (spec 07). -/
structure Silencing where
  /-- E -/
  enable : Bool
  /-- S -/
  shadow : Bool
  part : PartState
  /-- the silence-pending set (R137) -/
  pending : LaneSet
  /-- the lanes whose Silence now being sent was already being sent when the lane last joined the set: its
  completion does not count (R137; DEDUCED, log entry 9) -/
  stale : LaneSet
  deriving DecidableEq, Repr

/-! ## Voice Lanes (LN0..LN3) -/

/-- A lane record (R145, R162). -/
inductive LaneRecord where
  | start (v : Slot) (program : Program) (pitch : Pitch) (code : TierCode)
  | stop (v : Slot)
  | swell (x : Fin 128)
  | tier (code : TierCode)
  | silence
  deriving DecidableEq, Repr

/-- State of a lane (R144). -/
inductive LaneState | off | live | closing | dead
  deriving DecidableEq, Repr

/-- A voice lane (R143). -/
structure Lane where
  state : LaneState
  /-- oldest first; includes the record being sent -/
  queue : List LaneRecord
  /-- the in-transmission mark of the head record -/
  sending : Bool
  /-- the owed-stop list, oldest first -/
  owed : List Slot
  /-- the stall timeout T, 0..255 -/
  timeout : Nat
  stall : Timer
  /-- the level of the ready line LRDYn, 1 for asserted; a pin, set from outside -/
  ready : Bool
  deriving DecidableEq, Repr

/-! ## Notice Unit and Meter (NTU) -/

/-- What the last reset was (R174). -/
inductive ResetCause | power | restart
  deriving DecidableEq, Repr

/-- The sensor state (R100). -/
inductive SensorState | ok | rail | lost
  deriving DecidableEq, Repr

/-- Cause of a VOICE_LOSS notice (R183). -/
inductive LossCause | stolen | dropped | holderFull
  deriving DecidableEq, Repr

/-- Cause of an OVERRIDE notice (R183). -/
inductive OverrideCause | full | pushFailed | fallback
  deriving DecidableEq, Repr

/-- A trigger of the armed cue (R52). -/
inductive Trigger | host | cueLine | cueButton | reversal
  deriving DecidableEq, Repr

/-- A notice with its detail (R183). -/
inductive Notice where
  | identity (cause : ResetCause)
  | halted
  | laneDead (n : LaneNo)
  | sensor (st : SensorState)
  | silenceDone
  | cue (done : Bool) (target : SceneNo) (t : Trigger)
  | override (cause : OverrideCause) (tag : Fin 8)
  | laneOverrun (n : LaneNo) (v : Slot)
  | voiceLoss (cause : LossCause) (v : Option Slot) (x : Crosspoint)
  | reversal (bd : Dir)
  | tier (code : TierCode)
  | button (x : Crosspoint) (pressed : Bool)
  | meter (snapshot : List Byte)
  deriving DecidableEq, Repr

/-- A pending notice: its detail and its repeat count, 0..255 (R182). -/
structure Pending where
  notice : Notice
  repeats : Nat
  deriving DecidableEq, Repr

/-- A meter item, by its code (R189). -/
abbrev MeterItem := Fin 10

/-- The Notice Unit's and the meter's state (spec 10). -/
structure NoticeUnit where
  /-- the pending slot of kind 0x60 + i, for i = 0..12 (R182) -/
  slots : Vector (Option Pending) 13
  /-- the notice mask: bit i masks kind 0x60 + i (R184, R185) -/
  mask : BitVec 16
  /-- the meter interval in ms: 0, or 10..10000 (R187) -/
  interval : Nat
  items : List MeterItem
  meterTimer : Timer
  deriving DecidableEq, Repr

/-! ## Message Link (MLK) -/

/-- A frame of the host link, less marker, length and check (R165). -/
structure Frame where
  kind : Byte
  tag : Byte
  payload : List Byte
  deriving DecidableEq, Repr

/-- State of the receiver (R166); `body n` and `check n` have stored the length n. -/
inductive RxState where
  | hunt
  | length
  | body (n : Nat)
  | check (n : Nat)
  deriving DecidableEq, Repr

/-- The transmit side (R171): idle, or sending one frame. -/
inductive Output where
  | idle
  | sendingReply (f : Frame)
  | sendingNotice (f : Frame)
  deriving DecidableEq, Repr

/-- The Message Link's state (spec 09). -/
structure Link where
  rx : RxState
  /-- the receive frame buffer: the body bytes gathered so far (R166) -/
  buffer : List Byte
  gapTimer : Timer
  /-- the reply slot (R168) -/
  reply : Option Frame
  badFrames : Nat
  discards : Nat
  output : Output
  cause : ResetCause
  deriving DecidableEq, Repr

/-! ## The whole part -/

/-- The state of the FA48: its ten blocks, the queue of commands that wait, and one counter of the model's own. -/
structure State where
  bsc : Scanner
  nex : Expander
  sst : SceneStore
  vtb : VoiceTable
  bfe : Bellows
  dyn : Dynamics
  /-- the override stack, TOP ENTRY FIRST (R125; DEDUCED, log entry 16) -/
  stack : List StackEntry
  slc : Silencing
  lanes : Vector Lane 4
  ntu : NoticeUnit
  mlk : Link
  /-- the commands that wait, first in first out; DESIGN CHOICE (log entry 12): placed from outside -/
  pending : List Instr
  /-- the MODEL's own counter: how many free choices between due timers have been made (log entry 3) -/
  freeDraws : Nat
  deriving DecidableEq, Repr

/-! ## State right after reset -/

/-- Registers 0, transpose 0, both sections UNISONORIC: the cleared defaults of a scene (R37) and the power-on
settings of the Live Copy (R45). -/
def Settings.cleared : Settings :=
  { trebleReg := 0, bassReg := 0, transpose := 0, trebleMode := .unisonoric, bassMode := .unisonoric }

/-- The identity tier map (R37, R45). -/
def identityMap : Vector TierCode 8 := ⟨#[0, 1, 2, 3, 4, 5, 6, 7], rfl⟩

/-- An EMPTY, cleared scene (R37). -/
def Scene.blank : Scene :=
  { state := .empty, layers := Vector.replicate 8 none, defaults := .cleared, tierMap := identityMap }

/-- A definition whose every field is keep and whose delta is 0 (R58). -/
def OverrideDef.keepAll : OverrideDef :=
  { target := none, trebleReg := none, bassReg := none, delta := 0, trebleMode := none, bassMode := none }

/-- A FREE slot (R85). The fields that R85 gives no value (origin, layer index, priority, program, pitch, start
sequence) have no effect while the slot is FREE (R59); DESIGN CHOICE (log entry 1): LIVE and zeros. -/
def Voice.blank : Voice :=
  { state := .free, origin := .live, layer := 0, priority := 0, program := 0, pitch := 0, lanes := 0, owed := 0,
    holders := [], startSeq := 0 }

/-- A lane after power-on (R163). DESIGN CHOICE (log entry 2): the ready pin is deasserted. -/
def Lane.powerOn : Lane :=
  { state := .off, queue := [], sending := false, owed := [], timeout := 20, stall := none, ready := false }

/-- The power-on tables of the Note Expander (R36, R19 to R22). -/
def Expander.powerOn : Expander :=
  { trebleTable := tabulate fun k => ⟨⟨32 + k.val, by omega⟩, ⟨32 + k.val, by omega⟩⟩
    bassTable := tabulate fun c => ⟨⟨36 + 7 * c.val % 12, by omega⟩, ⟨36 + 7 * c.val % 12, by omega⟩⟩
    forms := ⟨#[[4], [0], [12, 16, 19], [12, 15, 19], [12, 16, 22], [12, 15, 21], [0], [0]], rfl⟩
    rowForms := ⟨#[0, 1, 2, 3, 4, 5], rfl⟩ }

/-- The power-on settings of Set Bellows (R101). -/
def BellowsSettings.powerOn : BellowsSettings :=
  { mode := .track, fixedOffset := 0, speed := .k6, still := 600, confirm := 4, hold := 40 }

/-- The power-on settings of the Dynamics Unit (R118). -/
def DynSettings.powerOn : DynSettings :=
  { winShift := 4, tu := 6000, td := 1500, rise := 1024, fall := 512, drift := 0, tsurge := 32767, surge := 0,
    holdOff := 0, floor := 0, ceil := 65535, smooth := 3, gain := 256, swellStep := 2 }

/-- The IDENTITY notice frame of a reset by power or pin (R174, R176, R183): repeat count 0, then the record. -/
def powerIdentityFrame : Frame :=
  { kind := 0x60, tag := 0, payload := [0, 0x5A, 0x48, 1, 48, 16, 8, 4, 4, 0x01, 0x00, 8, 0] }

/-- The part right after power-on or the RESET pin, when reset has ended: every field at the value its rule gives,
IDENTITY raised and chosen at once by the idle output (R17, R36, R37, R45, R50, R55, R58, R85, R104, R123, R141,
R163, R176, R181, R186, R191). The pins are low (log entry 2), and no byte is in the middle of reception on RXD (log
entry 18). -/
def State.reset : State :=
  { bsc :=
      { buttons := Vector.replicate 256 { pressed := false, count := 0 }
        roles := Vector.replicate 256 .none
        held := 0, groupOcc := Vector.replicate 4 0, hushOcc := 0, interval := 4, depth := 3, passTimer := some 0 }
    nex := .powerOn
    sst :=
      { library := Vector.replicate 16 .blank
        live := { origin := none, layers := Vector.replicate 8 none, settings := .cleared, tierMap := identityMap }
        armed := none, overrides := Vector.replicate 4 .keepAll
        detector := .waitRise, qualTimer := none, cuePin := false }
    vtb := { voices := Vector.replicate 48 .blank, voicedAs := Vector.replicate 256 none, seqCounter := 0 }
    bfe :=
      { acc := 0, bd := .push, run := 0, holdLeft := 0, lastClass := .still, railFault := false, railRun := 0,
        clearRun := 0, lost := false, lossTimer := some 0, partialWord := [], settings := .powerOn }
    dyn :=
      { level := 16384, holdOffLeft := 0, winSum := 0, winPos := 0, average := 0, lastCode := some 2, f16 := 0,
        expr := 0, lastSwell := Vector.replicate 4 0, settings := .powerOn }
    stack := []
    slc := { enable := true, shadow := true, part := .playing, pending := 0, stale := 0 }
    lanes := Vector.replicate 4 .powerOn
    ntu :=
      { slots := Vector.replicate 13 none, mask := 0x0E00, interval := 0, items := [0], meterTimer := none }
    mlk :=
      { rx := .hunt, buffer := [], gapTimer := none, reply := none, badFrames := 0, discards := 0,
        output := .sendingNotice powerIdentityFrame, cause := .power }
    pending := []
    freeDraws := 0 }

end Sys2Proof.Machine
end

