-- ==== Sys2Proof/Machine/Bytes.lean ====
section
/-! DEFINITION. Byte order, signed bytes and the codes of the messages: how numbers and named values stand in a
payload (spec 00, "Message fields"; R50, R58, R162, R170, R177, R183). -/

namespace Sys2Proof.Machine

/-! ## Numbers -/

/-- A number as one byte. -/
def byte (n : Nat) : Byte := BitVec.ofNat 8 n

/-- A number as two bytes, high byte first (spec 00). -/
def bytes16 (n : Nat) : List Byte := [byte (n / 256), byte n]

/-- A signed number as two bytes, two's complement, high byte first (spec 00). -/
def bytes16s (i : Int) : List Byte := bytes16 (BitVec.ofInt 16 i).toNat

/-- The number two bytes stand for, high byte first. -/
def word16 (hi lo : Byte) : Nat := hi.toNat * 256 + lo.toNat

/-- The signed number two bytes stand for, two's complement, high byte first. -/
def word16s (hi lo : Byte) : Int := (BitVec.ofNat 16 (word16 hi lo)).toInt

/-- A flag as a byte: 1 for true. -/
def byteOfBool (b : Bool) : Byte := if b then 1 else 0

/-! ## Codes of named values -/

/-- 0 = PUSH, 1 = PULL (R183). -/
def Dir.code : Dir → Nat
  | .push => 0
  | .pull => 1

/-- 0 = OFF, 1 = LIVE, 2 = CLOSING, 3 = DEAD (R157, R160, R177). -/
def LaneState.code : LaneState → Nat
  | .off => 0
  | .live => 1
  | .closing => 2
  | .dead => 3

/-- 0 = PLAYING, 1 = HALTED (R177). -/
def PartState.code : PartState → Nat
  | .playing => 0
  | .halted => 1

/-- 0 = OK, 1 = RAIL, 2 = LOST (R177, R183). -/
def SensorState.code : SensorState → Nat
  | .ok => 0
  | .rail => 1
  | .lost => 2

/-- 0 = POWER, 1 = RESTART (R174). -/
def ResetCause.code : ResetCause → Nat
  | .power => 0
  | .restart => 1

/-- 0 = stolen, 1 = dropped, 2 = holder-full (R183). -/
def LossCause.code : LossCause → Nat
  | .stolen => 0
  | .dropped => 1
  | .holderFull => 2

/-- 0 = full, 1 = push-failed, 2 = fallback (R183). -/
def OverrideCause.code : OverrideCause → Nat
  | .full => 0
  | .pushFailed => 1
  | .fallback => 2

/-- The place of a trigger's bit in a trigger set (R50). -/
def Trigger.bit : Trigger → Nat
  | .host => 0
  | .cueLine => 1
  | .cueButton => 2
  | .reversal => 3

/-- 1 HOST, 2 CUE_LINE, 4 CUE_BUTTON, 8 REVERSAL (R50, R183). -/
def Trigger.code (t : Trigger) : Nat := 2 ^ t.bit

/-! ## Status codes -/

/-- The status of a reply (R170). -/
inductive Status
  | ok | unknownKind | badLength | outOfRange | wrongState | tagMismatch | duplicate | halted
  deriving DecidableEq, Repr

/-- The code of a status (R170). -/
def Status.code : Status → Byte
  | .ok => 0x00
  | .unknownKind => 0x01
  | .badLength => 0x02
  | .outOfRange => 0x03
  | .wrongState => 0x04
  | .tagMismatch => 0x05
  | .duplicate => 0x06
  | .halted => 0x07

/-! ## Frames and lane records on the line -/

/-- The sum of the bytes of a frame that the check covers, modulo 256 (R165). -/
def byteSum (bs : List Byte) : Byte := bs.foldl (· + ·) 0

/-- The body of a frame: kind, tag and payload (R165). -/
def Frame.body (f : Frame) : List Byte := f.kind :: f.tag :: f.payload

/-- The bytes of a frame on the line: marker, body length, body, check (R165). -/
def Frame.wire (f : Frame) : List Byte :=
  let counted := byte f.body.length :: f.body
  0xC3 :: counted ++ [-(byteSum counted)]

/-- The bytes of a lane record on LTXn (R162). -/
def LaneRecord.wire : LaneRecord → List Byte
  | .start v program pitch code =>
    [byte (0x90 + code.val), byte v.val, byte (program.val / 128), byte (program.val % 128), byte pitch.val]
  | .stop v => [0x80, byte v.val]
  | .swell x => [0xB0, byte x.val]
  | .tier code => [0xC0, byte code.val]
  | .silence => [0xF0]

/-- The identity record (R174). -/
def identityRecord (cause : ResetCause) : List Byte :=
  [0x5A, 0x48, 1, 48, 16, 8, 4, 4] ++ bytes16 256 ++ [8, byte cause.code]

end Sys2Proof.Machine
end

