-- ==== Sys2Proof/Machine/Flags.lean ====
section
/-! DEFINITION. The conditions and derived quantities that the rules read: lane sets, lane conditions, the tier,
the sensor state, the age of a voice, the section of a role. None of them is stored. -/

namespace Sys2Proof.Machine

/-! ## The members of each index type, in ascending order -/

/-- The crosspoints in ascending order. -/
def allCrosspoints : List Crosspoint := List.finRange 256

/-- The slots in ascending order. -/
def allSlots : List Slot := List.finRange 48

/-- The layer positions in ascending order. -/
def allLayers : List LayerPos := List.finRange 8

/-- The lanes in ascending order. -/
def allLanes : List LaneNo := [0, 1, 2, 3]

/-! ## Timers that have run out -/

/-- A running timer has run for at least this many quarter milliseconds. -/
def Timer.due (t : Timer) (period : Nat) : Bool :=
  match t with
  | some e => period ≤ e
  | none => false

/-- The pass timer has run for one scan interval of quarter milliseconds (R1). -/
def Scanner.passDue (b : Scanner) : Bool := Timer.due b.passTimer b.interval

/-- The stream-loss timer has run for 20 ms (R99). -/
def Bellows.lossDue (b : Bellows) : Bool := Timer.due b.lossTimer 80

/-- The qualification timer has run for 1 ms (R55). -/
def SceneStore.qualDue (c : SceneStore) : Bool := Timer.due c.qualTimer 4

/-- The gap timer has run for 2 ms (R167). -/
def Link.gapDue (m : Link) : Bool := Timer.due m.gapTimer 8

/-- The meter timer has run for I ms (R188). -/
def NoticeUnit.meterDue (u : NoticeUnit) : Bool := Timer.due u.meterTimer (u.interval * 4)

/-- The stall timer has run for T × 10 ms (R155). -/
def Lane.stallDue (l : Lane) : Bool := Timer.due l.stall (l.timeout * 40)

/-! ## Lane sets -/

/-- Lane n is in the set. -/
def LaneSet.has (b : LaneSet) (n : LaneNo) : Bool := b.getLsbD n.val

/-- The set holding lane n alone. -/
def laneBit (n : LaneNo) : LaneSet := 1 <<< n.val

/-- The set with lane n. -/
def LaneSet.add (b : LaneSet) (n : LaneNo) : LaneSet := b ||| laneBit n

/-- The set without lane n. -/
def LaneSet.remove (b : LaneSet) (n : LaneNo) : LaneSet := b &&& ~~~ laneBit n

/-- The lanes of a set in ascending order. -/
def LaneSet.members (b : LaneSet) : List LaneNo := allLanes.filter fun n => LaneSet.has b n

/-- The number of lanes in a set. -/
def LaneSet.size (b : LaneSet) : Nat := (LaneSet.members b).length

/-! ## Lanes -/

/-- The number of records in the queue (R145). -/
def Lane.occupancy (l : Lane) : Nat := l.queue.length

/-- The record being sent, as a list of at most one (R145). -/
def Lane.sent (l : Lane) : List LaneRecord := if l.sending then l.queue.take 1 else []

/-- The records in the queue that are not being sent (R145). -/
def Lane.unsent (l : Lane) : List LaneRecord := if l.sending then l.queue.drop 1 else l.queue

/-- The lane transmits under ready: it is LIVE or CLOSING (R144). -/
def Lane.transmits (l : Lane) : Bool := l.state == .live || l.state == .closing

/-- A record is queued, none is being sent, and the lane transmits: it can begin to send or wait (R151, R154). -/
def Lane.hasWork (l : Lane) : Bool := l.transmits && !l.queue.isEmpty && !l.sending

/-- The lane is waiting (R154). -/
def Lane.waiting (l : Lane) : Bool := l.hasWork && !l.ready

/-- The record being sent is a Silence. -/
def Lane.sendsSilence (l : Lane) : Bool := l.sending && l.queue.head? == some .silence

/-- The record is a Start for voice v. -/
def LaneRecord.isStartOf (v : Slot) : LaneRecord → Bool
  | .start w _ _ _ => w == v
  | _ => false

/-- The record is a Start. -/
def LaneRecord.isStart : LaneRecord → Bool
  | .start _ _ _ _ => true
  | _ => false

/-- The record is a Swell. -/
def LaneRecord.isSwell : LaneRecord → Bool
  | .swell _ => true
  | _ => false

/-- The record is a Tier. -/
def LaneRecord.isTier : LaneRecord → Bool
  | .tier _ => true
  | _ => false

/-! ## Voices -/

/-- The voice is SOUNDING and LIVE: the voices that joins and re-expansions consider (R69, R76). -/
def Voice.soundsLive (y : Voice) : Bool := y.state == .sounding && y.origin == .live

/-- The voice is SOUNDING and ORPHAN. -/
def Voice.soundsOrphan (y : Voice) : Bool := y.state == .sounding && y.origin == .orphan

/-- The age of a voice: the counter less its start sequence, modulo 2^32 (R61). -/
def Voice.age (counter : BitVec 32) (y : Voice) : Nat := (counter - y.startSeq).toNat

/-- The voice stands for the entry (layer position, pitch) of an expansion (R76). -/
def Voice.matchesEntry (y : Voice) (e : LayerPos × Pitch) : Bool := y.layer == e.1 && y.pitch == e.2

/-! ## Roles -/

/-- The section of a playing role, `none` for the other roles (R79). -/
def Role.sect : Role → Option Sect
  | .treble _ => some .treble
  | .bass _ _ => some .bass
  | _ => Option.none

/-- The role is TREBLE or BASS (R5). -/
def Role.plays (r : Role) : Bool := r.sect.isSome

/-! ## Settings of a section -/

/-- The active register of a section. -/
def Settings.reg (t : Settings) : Sect → RegNo
  | .treble => t.trebleReg
  | .bass => t.bassReg

/-- The mode of a section. -/
def Settings.mode (t : Settings) : Sect → Mode
  | .treble => t.trebleMode
  | .bass => t.bassMode

/-- The section's register or mode differs between two settings (R48, R127, R130). -/
def Settings.changed (before after : Settings) (c : Sect) : Bool :=
  before.reg c != after.reg c || before.mode c != after.mode c

/-! ## Arithmetic -/

/-- clamp(v, lo, hi) on exact integers (spec 00, "Arithmetic"). -/
def clampInt (v lo hi : Int) : Int := if v < lo then lo else if v > hi then hi else v

/-- clamp(v, floor, ceil) of the level; the exact integer v is not wrapped (R107). -/
def clampLevel (v : Int) (lo hi : Fin 65536) : Fin 65536 :=
  if v < lo.val then lo else if h : v > hi.val then hi else ⟨v.toNat, by omega⟩

/-! ## Dynamics -/

/-- The current tier, floor(L / 8192) (R111). -/
def tierOf (level : Fin 65536) : Fin 8 := ⟨level.val / 8192, by omega⟩

/-- The current tier code: the Live Copy's map at the current tier (R111). -/
def State.tierCode (s : State) : TierCode := s.sst.live.tierMap[tierOf s.dyn.level]

/-! ## Bellows -/

/-- The offset estimate o = floor(A / 256) (R88). -/
def Bellows.offset (b : Bellows) : Int := b.acc / 256

/-- The sensor state (R100). -/
def Bellows.sensor (b : Bellows) : SensorState :=
  if b.lost then .lost else if b.railFault then .rail else .ok

/-- The factor f = 2^(8 − k) of the tracking step (R91). -/
def Speed.factor : Speed → Int
  | .k4 => 16
  | .k6 => 4
  | .k8 => 1

/-- The class of a direction. -/
def Dir.asClass : Dir → SampleClass
  | .push => .push
  | .pull => .pull

/-- The other direction. -/
def Dir.opposite : Dir → Dir
  | .push => .pull
  | .pull => .push

/-! ## The part -/

/-- The part is HALTED (R138). -/
def State.isHalted (s : State) : Bool := s.slc.part == .halted

/-- The crosspoint is PRESSED and its role is TREBLE or BASS. -/
def State.holdsKey (s : State) (x : Crosspoint) : Bool := s.bsc.buttons[x].pressed && s.bsc.roles[x].plays

/-- The voiced crosspoints in ascending order (R63). -/
def State.voiced (s : State) : List Crosspoint := allCrosspoints.filter fun x => s.vtb.voicedAs[x].isSome

/-- The scene is VALID (R46). -/
def State.sceneValid (s : State) (n : SceneNo) : Bool := s.sst.library[n].state == .valid

end Sys2Proof.Machine
end

