-- ==== Sys2Proof/Machine/Operands.lean ====
section
/-! DEFINITION. The operand forms: how the payload of each request kind is read. A parser answers BAD_LENGTH for
a payload length the kind does not admit, OUT_OF_RANGE where a field lies outside its range or fields contradict
each other, and the fields otherwise (R169 checks 2 and 4; the owning rule of each kind). -/

namespace Sys2Proof.Machine

/-- What a payload reads as. -/
inductive Parsed (α : Type) where
  | badLength
  | outOfRange
  | fields (a : α)
  deriving DecidableEq, Repr

/-- The fields, or OUT_OF_RANGE. -/
def Parsed.ofOption {α : Type} : Option α → Parsed α
  | some a => .fields a
  | none => .outOfRange

/-! ## Fields -/

/-- An unsigned byte field with values 0..n−1. -/
def field (n : Nat) (b : Byte) : Option (Fin n) := if h : b.toNat < n then some ⟨b.toNat, h⟩ else none

/-- An unsigned byte field with values lo..hi, as a number. -/
def fieldIn (lo hi : Nat) (b : Byte) : Option Nat :=
  if lo ≤ b.toNat ∧ b.toNat ≤ hi then some b.toNat else none

/-- A signed byte field with values lo..hi. -/
def signedField (lo hi : Int) (b : Byte) : Option Int :=
  if lo ≤ b.toInt ∧ b.toInt ≤ hi then some b.toInt else none

/-- A 16-bit field with values lo..hi. -/
def wordField (lo hi : Nat) (h l : Byte) : Option Nat :=
  if lo ≤ word16 h l ∧ word16 h l ≤ hi then some (word16 h l) else none

/-- A signed 16-bit field with values lo..hi. -/
def signedWordField (lo hi : Int) (h l : Byte) : Option Int :=
  if lo ≤ word16s h l ∧ word16s h l ≤ hi then some (word16s h l) else none

/-- A 16-bit field of a level, 0..65535; every value is in range. -/
def levelField (h l : Byte) : Fin 65536 := Fin.ofNat 65536 (word16 h l)

/-- A mode byte: 0 UNISONORIC, 1 BISONORIC (R34). -/
def modeField (b : Byte) : Option Mode :=
  if b = 0 then some .unisonoric else if b = 1 then some .bisonoric else none

/-- A section byte: 0 treble, 1 bass (R40, R57). -/
def sectField (b : Byte) : Option Sect :=
  if b = 0 then some .treble else if b = 1 then some .bass else none

/-- A flag byte: 0 or 1. -/
def flagField (b : Byte) : Option Bool :=
  if b = 0 then some false else if b = 1 then some true else none

/-- A byte in which 0xFF means keep (R58). -/
def keepField {α : Type} (f : Byte → Option α) (b : Byte) : Option (Option α) :=
  if b = 0xFF then some none else (f b).map some

/-- Every item of a run read by one field form, or `none` if one of them is out of range. -/
def allFields {α β : Type} (f : β → Option α) : List β → Option (List α)
  | [] => some []
  | b :: bs => do
    let a ← f b
    let as ← allFields f bs
    pure (a :: as)

/-- The bytes of a run two by two, `none` if one is left over. -/
def pairsOf : List Byte → Option (List (Byte × Byte))
  | [] => some []
  | [_] => none
  | a :: b :: rest => (pairsOf rest).map ((a, b) :: ·)

/-- Eight tier codes, for tiers 0 to 7 (R41, R121). -/
def tierMapFields (bs : List Byte) : Option (Vector TierCode 8) := do
  let codes ← allFields (field 16) bs
  if h : codes.length = 8 then pure ⟨⟨codes⟩, h⟩ else none

/-! ## Payloads without fields or with one -/

/-- An empty payload. -/
def parseEmpty : List Byte → Parsed Unit
  | [] => .fields ()
  | _ => .badLength

/-- A payload of one byte read by a field form. -/
def parseOne {α : Type} (f : Byte → Option α) : List Byte → Parsed α
  | [b] => .ofOption (f b)
  | _ => .badLength

/-! ## Button Scanner -/

/-- Set Scan: interval 1..16, depth 1..15 (R15). -/
def parseSetScan : List Byte → Parsed (Nat × Nat)
  | [i, d] => .ofOption do
    let i ← fieldIn 1 16 i
    let d ← fieldIn 1 15 d
    pure (i, d)
  | _ => .badLength

/-- One role with its two arguments; an argument marked 0 in the table of R13 must be 0. -/
def roleField (kind a b : Byte) : Option Role :=
  match kind.toNat with
  | 0 => if a = 0 ∧ b = 0 then some .none else none
  | 1 => if b = 0 then (field 96 a).map .treble else none
  | 2 => do
    let c ← field 20 a
    let r ← field 6 b
    pure (.bass c r)
  | 3 => if b = 0 then (field 16 a).map .trebleRegister else none
  | 4 => if b = 0 then (field 16 a).map .bassRegister else none
  | 5 => if b = 0 then (field 4 a).map .override else none
  | 6 => if a = 0 ∧ b = 0 then some .hush else none
  | 7 => if a = 0 ∧ b = 0 then some .cue else none
  | _ => none

/-- The entries of a Load Roles payload, four bytes each: `none` if one is out of range (R13). -/
def roleEntries : List Byte → Option (List (Crosspoint × Role))
  | x :: k :: a :: b :: rest => do
    let x ← field 256 x
    let r ← roleField k a b
    let es ← roleEntries rest
    pure ((x, r) :: es)
  | _ => some []

/-- Load Roles: a length that is a multiple of 4 within 4..128 (R13). -/
def parseLoadRoles (p : List Byte) : Parsed (List (Crosspoint × Role)) :=
  if p.length % 4 = 0 ∧ 4 ≤ p.length ∧ p.length ≤ 128 then .ofOption (roleEntries p) else .badLength

/-! ## Note Expander -/

/-- A push and a pull pitch, each 0..127 (R29, R30). -/
def pitchPairField (q : Byte × Byte) : Option PitchPair := do
  let a ← field 128 q.1
  let b ← field 128 q.2
  pure { push := a, pull := b }

/-- A first entry and 1 to `most` pairs of pitches, for a table of n entries (R29, R30). -/
def parsePairs (n most : Nat) (p : List Byte) : Parsed (Fin n × List PitchPair) :=
  match p with
  | first :: rest =>
    match pairsOf rest with
    | some pairs =>
      if 1 ≤ pairs.length ∧ pairs.length ≤ most then
        .ofOption do
          let first ← field n first
          let pitches ← allFields pitchPairField pairs
          if first.val + pairs.length - 1 < n then pure (first, pitches) else none
      else .badLength
    | none => .badLength
  | [] => .badLength

/-- Load Chord Form: a form and 1 to 4 intervals of 0..36 (R31). -/
def parseChordForm (p : List Byte) : Parsed (Fin 8 × List (Fin 37)) :=
  match p with
  | form :: intervals =>
    if 1 ≤ intervals.length ∧ intervals.length ≤ 4 then
      .ofOption do
        let form ← field 8 form
        let intervals ← allFields (field 37) intervals
        pure (form, intervals)
    else .badLength
  | [] => .badLength

/-- Set Row Forms: six forms (R32). -/
def parseRowForms (p : List Byte) : Parsed (Vector (Fin 8) 6) :=
  if p.length = 6 then
    .ofOption do
      let forms ← allFields (field 8) p
      if h : forms.length = 6 then pure ⟨⟨forms⟩, h⟩ else none
  else .badLength

/-- Set Section Modes: the treble mode, then the bass mode (R34). -/
def parseSectionModes : List Byte → Parsed (Mode × Mode)
  | [t, b] => .ofOption do
    let t ← modeField t
    let b ← modeField b
    pure (t, b)
  | _ => .badLength

/-! ## Scene Store -/

/-- The row mask of a layer: 0 for TREBLE, 1..63 for BASS (R40). -/
def rowMaskField (c : Sect) (b : Byte) : Option (BitVec 6) :=
  match c with
  | .treble => if b = 0 then some 0 else none
  | .bass => if 1 ≤ b.toNat ∧ b.toNat ≤ 63 then some (b.setWidth 6) else none

/-- Load Layer (R40). -/
def parseLoadLayer : List Byte → Parsed (SceneNo × LayerPos × Layer)
  | [scene, pos, sect, rows, regsHi, regsLo, progHi, progLo, lanes, transpose, low, high, priority, carry] =>
    .ofOption do
      let scene ← field 16 scene
      let pos ← field 8 pos
      let sect ← sectField sect
      let rows ← rowMaskField sect rows
      let regs ← wordField 1 65535 regsHi regsLo
      let program ← wordField 0 16383 progHi progLo
      let lanes ← fieldIn 1 15 lanes
      let transpose ← signedField (-48) 48 transpose
      let low ← field 128 low
      let high ← field 128 high
      let priority ← field 4 priority
      let carry ← flagField carry
      if low.val ≤ high.val then
        pure (scene, pos,
          { sect := sect, rowMask := rows, regMask := BitVec.ofNat 16 regs, program := Fin.ofNat 16384 program,
            laneMask := BitVec.ofNat 4 lanes, transpose := transpose, keyLow := low, keyHigh := high,
            priority := priority, carry := carry })
      else none
  | _ => .badLength

/-- Set Scene Defaults: registers, transpose and modes, then eight tier codes (R41). -/
def parseSceneDefaults : List Byte → Parsed (SceneNo × Settings × Vector TierCode 8)
  | [scene, treble, bass, transpose, tMode, bMode, c0, c1, c2, c3, c4, c5, c6, c7] =>
    .ofOption do
      let scene ← field 16 scene
      let treble ← field 16 treble
      let bass ← field 16 bass
      let transpose ← signedField (-24) 24 transpose
      let tMode ← modeField tMode
      let bMode ← modeField bMode
      let map ← tierMapFields [c0, c1, c2, c3, c4, c5, c6, c7]
      pure (scene,
        { trebleReg := treble, bassReg := bass, transpose := transpose, trebleMode := tMode, bassMode := bMode }, map)
  | _ => .badLength

/-- Arm Cue: target, trigger set 1..15, item set 1..7 (R50). -/
def parseArmCue : List Byte → Parsed Cue
  | [target, triggers, items] => .ofOption do
    let target ← field 16 target
    let triggers ← fieldIn 1 15 triggers
    let items ← fieldIn 1 7 items
    pure { target := target, triggers := BitVec.ofNat 4 triggers, items := BitVec.ofNat 3 items }
  | _ => .badLength

/-- Select Register: section, register (R57). -/
def parseSelectRegister : List Byte → Parsed (Sect × RegNo)
  | [c, n] => .ofOption do
    let c ← sectField c
    let n ← field 16 n
    pure (c, n)
  | _ => .badLength

/-- The six definition bytes of Load Override and Push Override (R58, R131). -/
def overrideFields (target treble bass delta tMode bMode : Byte) : Option OverrideDef := do
  let target ← keepField (field 16) target
  let treble ← keepField (field 16) treble
  let bass ← keepField (field 16) bass
  let delta ← signedField (-24) 24 delta
  let tMode ← keepField modeField tMode
  let bMode ← keepField modeField bMode
  pure { target := target, trebleReg := treble, bassReg := bass, delta := delta, trebleMode := tMode, bassMode := bMode }

/-- Load Override: definition number, then the definition (R58). -/
def parseLoadOverride : List Byte → Parsed (Fin 4 × OverrideDef)
  | [n, target, treble, bass, delta, tMode, bMode] => .ofOption do
    let n ← field 4 n
    let d ← overrideFields target treble bass delta tMode bMode
    pure (n, d)
  | _ => .badLength

/-! ## Bellows and dynamics -/

/-- A tracking speed byte: 4, 6 or 8 (R102). -/
def speedField (b : Byte) : Option Speed :=
  match b.toNat with
  | 4 => some .k4
  | 6 => some .k6
  | 8 => some .k8
  | _ => none

/-- Set Bellows (R102). -/
def parseSetBellows : List Byte → Parsed BellowsSettings
  | [mode, offHi, offLo, k, tsHi, tsLo, nr, hr] => .ofOption do
    let fixed ← flagField mode
    let speed ← speedField k
    let still ← wordField 0 32767 tsHi tsLo
    let confirm ← fieldIn 1 64 nr
    pure { mode := if fixed then .fixed else .track, fixedOffset := word16s offHi offLo, speed := speed,
           still := still, confirm := confirm, hold := hr.toNat }
  | _ => .badLength

/-- The eleven settings of Set Dynamics, in payload order (R118). -/
structure LevelSettings where
  winShift : Nat
  tu : Nat
  td : Nat
  rise : Nat
  fall : Nat
  drift : Int
  tsurge : Nat
  surge : Nat
  holdOff : Nat
  floor : Fin 65536
  ceil : Fin 65536
  deriving DecidableEq, Repr

/-- Set Dynamics (R118). -/
def parseSetDynamics : List Byte → Parsed LevelSettings
  | [w, tuH, tuL, tdH, tdL, riH, riL, faH, faL, drH, drL, tsH, tsL, suH, suL, hold, flH, flL, ceH, ceL] =>
    .ofOption do
      let w ← fieldIn 1 12 w
      let tu ← wordField 0 32767 tuH tuL
      let td ← wordField 0 32767 tdH tdL
      let rise ← wordField 0 16383 riH riL
      let fall ← wordField 0 16383 faH faL
      let drift ← signedWordField (-8192) 8191 drH drL
      let tsurge ← wordField 0 32767 tsH tsL
      let surge ← wordField 0 16383 suH suL
      let floor := levelField flH flL
      let ceil := levelField ceH ceL
      if td ≤ tu ∧ floor.val ≤ ceil.val then
        pure { winShift := w, tu := tu, td := td, rise := rise, fall := fall, drift := drift, tsurge := tsurge,
               surge := surge, holdOff := hold.toNat, floor := floor, ceil := ceil }
      else none
  | _ => .badLength

/-- Set Expression: s, G, Xdelta (R120). -/
def parseSetExpression : List Byte → Parsed (Nat × Nat × Nat)
  | [s, gH, gL, step] => .ofOption do
    let s ← fieldIn 0 7 s
    let step ← fieldIn 1 32 step
    pure (s, word16 gH gL, step)
  | _ => .badLength

/-- Load Tier Map: eight codes (R121). -/
def parseTierMap (p : List Byte) : Parsed (Vector TierCode 8) :=
  if p.length = 8 then .ofOption (tierMapFields p) else .badLength

/-- Set Level: a 16-bit value; every value is in range (R122). -/
def parseSetLevel : List Byte → Parsed Nat
  | [h, l] => .fields (word16 h l)
  | _ => .badLength

/-! ## Overrides -/

/-- A host tag, 4..7 (R131). -/
def hostTagField (b : Byte) : Option (Fin 8) := if 4 ≤ b.toNat then field 8 b else none

/-- Push Override: a host tag, then the definition (R131). -/
def parsePushOverride : List Byte → Parsed (Fin 8 × OverrideDef)
  | [tag, target, treble, bass, delta, tMode, bMode] => .ofOption do
    let tag ← hostTagField tag
    let d ← overrideFields target treble bass delta tMode bMode
    pure (tag, d)
  | _ => .badLength

/-! ## Lanes -/

/-- Set Lane: lane, enable, T (R157). -/
def parseSetLane : List Byte → Parsed (LaneNo × Bool × Nat)
  | [n, enable, t] => .ofOption do
    let n ← field 4 n
    let enable ← flagField enable
    pure (n, enable, t.toNat)
  | _ => .badLength

/-! ## Notices and meter -/

/-- Set Notice Mask: bits 0, 1, 13, 14 and 15 must be 0 (R185). -/
def parseNoticeMask : List Byte → Parsed (BitVec 16)
  | [h, l] =>
    let m := BitVec.ofNat 16 (word16 h l)
    .ofOption (if m &&& 0xE003 = 0 then some m else none)
  | _ => .badLength

/-- Set Meter: interval 0 or 10..10000, then 1 to 8 item codes (R187). -/
def parseSetMeter : List Byte → Parsed (Nat × List MeterItem)
  | h :: l :: items =>
    if 1 ≤ items.length ∧ items.length ≤ 8 then
      .ofOption do
        let interval := word16 h l
        let items ← allFields (field 10) items
        if interval = 0 ∨ (10 ≤ interval ∧ interval ≤ 10000) then pure (interval, items) else none
    else .badLength
  | _ => .badLength

end Sys2Proof.Machine
end

