-- ==== Sys2Proof/Machine/Ops.lean ====
section
/-! DEFINITION. The operations that the blocks share: writing one entry of a table, raising a notice, choosing the
next frame, taking a request and forming its reply, and what a lane does with an offered record. -/

namespace Sys2Proof.Machine

/-! ## One entry of a table -/

/-- The table with entry i replaced. -/
def put {α : Type} {n : Nat} (v : Vector α n) (i : Fin n) (a : α) : Vector α n := v.set i.val a i.isLt

/-- One block of the part replaced whole. -/
def State.setBsc (s : State) (b : Scanner) : State := { s with bsc := b }

/-- One block of the part replaced whole. -/
def State.setNex (s : State) (b : Expander) : State := { s with nex := b }

/-- One block of the part replaced whole. -/
def State.setSst (s : State) (b : SceneStore) : State := { s with sst := b }

/-- One block of the part replaced whole. -/
def State.setVtb (s : State) (b : VoiceTable) : State := { s with vtb := b }

/-- One block of the part replaced whole. -/
def State.setBfe (s : State) (b : Bellows) : State := { s with bfe := b }

/-- One block of the part replaced whole. -/
def State.setDyn (s : State) (b : Dynamics) : State := { s with dyn := b }

/-- One block of the part replaced whole. -/
def State.setStack (s : State) (b : List StackEntry) : State := { s with stack := b }

/-- One block of the part replaced whole. -/
def State.setSlc (s : State) (b : Silencing) : State := { s with slc := b }

/-- One block of the part replaced whole. -/
def State.setNtu (s : State) (b : NoticeUnit) : State := { s with ntu := b }

/-- One block of the part replaced whole. -/
def State.setMlk (s : State) (b : Link) : State := { s with mlk := b }

/-- The Live Copy replaced. -/
def State.setLive (s : State) (c : LiveCopy) : State := { s with sst := { s.sst with live := c } }

/-- Lane n replaced. -/
def State.setLane (s : State) (n : LaneNo) (l : Lane) : State := { s with lanes := put s.lanes n l }

/-- Voice record v replaced. -/
def State.setVoice (s : State) (v : Slot) (y : Voice) : State :=
  { s with vtb := { s.vtb with voices := put s.vtb.voices v y } }

/-- Every voice record passed through f. -/
def State.mapVoices (s : State) (f : Slot → Voice → Voice) : State :=
  { s with vtb := { s.vtb with voices := tabulate fun v => f v s.vtb.voices[v] } }

/-- The voiced-as entries of the crosspoints of a list become d (R63). -/
def State.setVoicedAs (s : State) (xs : List Crosspoint) (d : Option Dir) : State :=
  { s with vtb := { s.vtb with
      voicedAs := tabulate fun x => if xs.contains x then d else s.vtb.voicedAs[x] } }

/-- The settings of the Live Copy replaced. -/
def State.setSettings (s : State) (t : Settings) : State :=
  { s with sst := { s.sst with live := { s.sst.live with settings := t } } }

/-! ## Notices (R182 to R184) -/

/-- The place of a notice's kind in 0x60..0x6C (R183). -/
def Notice.kindIndex : Notice → Fin 13
  | .identity _ => 0
  | .halted => 1
  | .laneDead _ => 2
  | .sensor _ => 3
  | .silenceDone => 4
  | .cue _ _ _ => 5
  | .override _ _ => 6
  | .laneOverrun _ _ => 7
  | .voiceLoss _ _ _ => 8
  | .reversal _ => 9
  | .tier _ => 10
  | .button _ _ => 11
  | .meter _ => 12

/-- The detail bytes of a notice (R183). -/
def Notice.detail : Notice → List Byte
  | .identity cause => identityRecord cause
  | .halted => []
  | .laneDead n => [byte n.val]
  | .sensor st => [byte st.code]
  | .silenceDone => []
  | .cue done target t => [byteOfBool (!done), byte target.val, byte t.code]
  | .override cause tag => [byte cause.code, byte tag.val]
  | .laneOverrun n v => [byte n.val, byte v.val]
  | .voiceLoss cause v x =>
    [byte cause.code, match v with | some v => byte v.val | none => 0xFF, byte x.val]
  | .reversal bd => [byte bd.code]
  | .tier code => [byte code.val]
  | .button x pressed => [byte x.val, byteOfBool pressed]
  | .meter snapshot => snapshot

/-- A slot after a raise: a pending slot takes the new detail and counts one more, up to 255 (R182). -/
def raiseInto (slot : Option Pending) (n : Notice) : Pending :=
  match slot with
  | none => { notice := n, repeats := 0 }
  | some p => { notice := n, repeats := min 255 (p.repeats + 1) }

/-- A block raises a notice (R182). -/
def State.raise (s : State) (n : Notice) : State :=
  { s with ntu := { s.ntu with slots := put s.ntu.slots n.kindIndex (some (raiseInto s.ntu.slots[n.kindIndex] n)) } }

/-- The frame of a pending notice: kind, tag 0, repeat count, detail (R183). -/
def Pending.frame (p : Pending) : Frame :=
  { kind := byte (0x60 + p.notice.kindIndex.val), tag := 0, payload := byte p.repeats :: p.notice.detail }

/-- The notice kinds in priority order, highest first (R183). -/
def noticeKinds : List (Fin 13) := List.finRange 13

/-- Kind 0x60 + k is masked (R184, R185). IDENTITY and HALTED have no mask bit. -/
def NoticeUnit.masked (u : NoticeUnit) (k : Fin 13) : Bool := 2 ≤ k.val && u.mask.getLsbD k.val

/-- The pending kinds, masked or not, highest priority first (R177). -/
def NoticeUnit.pendingKinds (u : NoticeUnit) : List (Fin 13) := noticeKinds.filter fun k => u.slots[k].isSome

/-- The kind the arbiter would choose: pending, unmasked, of highest priority (R171). -/
def NoticeUnit.choice (u : NoticeUnit) : Option (Fin 13) := u.pendingKinds.find? fun k => !u.masked k

/-! ## The output arbiter (R171 to R173) -/

/-- The arbiter's choice at the end of an event: nothing while a frame is being sent; otherwise the reply in the
slot, or the pending unmasked notice of highest priority, whose slot is then empty, or nothing. DEDUCED (log entry
10): called at the end of every event that may give it something to choose. -/
def State.arbitrate (s : State) : State :=
  match s.mlk.output with
  | .idle =>
    match s.mlk.reply with
    | some f => { s with mlk := { s.mlk with output := .sendingReply f } }
    | none =>
      match s.ntu.choice with
      | some k =>
        match s.ntu.slots[k] with
        | some p =>
          { s with
            ntu := { s.ntu with slots := put s.ntu.slots k none }
            mlk := { s.mlk with output := .sendingNotice p.frame } }
        | none => s
      | none => s
  | _ => s

/-! ## Requests and replies (R166, R168 to R170) -/

/-- What the owner of a request answers: a refusal that changes nothing, or the state after it and the reply's
data. -/
inductive Verdict where
  | refuse (st : Status)
  | accept (s : State) (data : List Byte)
  deriving DecidableEq, Repr

/-- The kind of the reply to a request kind: + 0x80, or 0xFF for 0x80 and above (R170). -/
def replyKind (kind : Byte) : Byte := if kind.toNat < 0x80 then kind + 0x80 else 0xFF

/-- The check byte of a frame has been taken: the receiver is back in HUNT (R166). -/
def State.rxDone (s : State) : State :=
  { s with mlk := { s.mlk with rx := .hunt, buffer := [], gapTimer := none } }

/-- A reply is placed in the slot (R168, R170). -/
def State.placeReply (s : State) (kind tag : Byte) (st : Status) (data : List Byte) : State :=
  { s with mlk := { s.mlk with
      reply := some { kind := replyKind kind, tag := tag, payload := st.code :: data } } }

/-- A good frame is discarded: the discard count rises, up to 255 (R168). -/
def State.discardFrame (s : State) : State :=
  { s with mlk := { s.mlk with discards := min 255 (s.mlk.discards + 1) } }

/-- The verdict on a request whose kind is known: length, halt, ranges, then the owner (R169 checks 2 to 5). -/
def judgeRequest {α : Type} (admitted : Bool) (parsed : Parsed α) (owner : α → State → Verdict) (s : State) :
    Verdict :=
  match parsed with
  | .badLength => .refuse .badLength
  | .outOfRange => if s.isHalted && !admitted then .refuse .halted else .refuse .outOfRange
  | .fields a => if s.isHalted && !admitted then .refuse .halted else owner a s

/-- A verdict is carried out: the state after it, with the reply in the slot, and the arbiter's choice (R169, R171). -/
def State.answer (s : State) (kind tag : Byte) (v : Verdict) : State :=
  match v with
  | .refuse st => (s.placeReply kind tag st []).arbitrate
  | .accept t data => (t.placeReply kind tag .ok data).arbitrate

/-- A good request frame of a known kind completes its check: discarded while the reply slot is occupied,
otherwise taken (R166, R168, R169). `admitted`: the kind is admitted while HALTED (R139). DESIGN CHOICE (log entry 5):
the command stands for the whole frame. -/
def takeRequest {α : Type} (kind tag : Byte) (admitted : Bool) (parsed : Parsed α) (owner : α → State → Verdict)
    (s : State) : State :=
  let s := s.rxDone
  if s.mlk.reply.isSome then s.discardFrame else s.answer kind tag (judgeRequest admitted parsed owner s)

/-! ## A lane and its records (R145 to R154) -/

/-- With a record queued and none being sent, a LIVE or CLOSING lane begins to send under ready (R151), or
begins to wait, its stall timer started from zero if T is above 0 (R154). -/
def Lane.beginOrWait (l : Lane) : Lane :=
  if l.hasWork then
    if l.ready then { l with sending := true, stall := none }
    else { l with stall := if l.timeout = 0 then none else some 0 }
  else l

/-- A record joins at the tail; into an empty queue it makes the lane begin to send or to wait (R145, R151, R154). -/
def Lane.append (l : Lane) (r : LaneRecord) : Lane :=
  let l' := { l with queue := l.queue ++ [r] }
  if l.queue.isEmpty then l'.beginOrWait else l'

/-- A Start offered to the lane: the lane after accepting it, or `none` (R144, R146). -/
def Lane.acceptStart (l : Lane) (r : LaneRecord) : Option Lane :=
  if l.state = .live ∧ l.occupancy < 28 then some (l.append r) else none

/-- A Stop offered to the lane: the lane after accepting it, or `none` (R144, R147). -/
def Lane.acceptStop (l : Lane) (v : Slot) : Option Lane :=
  if l.transmits ∧ l.occupancy < 32 then some (l.append (.stop v)) else none

/-- The first record with p replaced by r. -/
def replaceFirst (p : LaneRecord → Bool) (r : LaneRecord) : List LaneRecord → List LaneRecord
  | [] => []
  | q :: qs => if p q then r :: qs else q :: replaceFirst p r qs

/-- A Swell or Tier offered to a LIVE lane: it replaces an unsent record of its kind, or is appended, or is
discarded (`none`) (R148). -/
def Lane.takeUpdate (l : Lane) (sameKind : LaneRecord → Bool) (r : LaneRecord) : Option Lane :=
  if l.unsent.any sameKind then some { l with queue := l.sent ++ replaceFirst sameKind r l.unsent }
  else if l.occupancy < 32 then some (l.append r)
  else none

/-- A Tier record offered to a LIVE lane (R112, R148). -/
def Lane.takeTier (l : Lane) (code : TierCode) : Option Lane := l.takeUpdate LaneRecord.isTier (.tier code)

/-- A Swell record offered to a LIVE lane (R115, R148). -/
def Lane.takeSwell (l : Lane) (x : Fin 128) : Option Lane := l.takeUpdate LaneRecord.isSwell (.swell x)

/-- A withdrawal of voice v's Start: the lane without it, or `none` if it holds no unsent Start of v. The stall
timer runs on, but stops when the queue is then empty (R149). -/
def Lane.withdraw (l : Lane) (v : Slot) : Option Lane :=
  if l.unsent.any (LaneRecord.isStartOf v) then
    let queue := l.sent ++ l.unsent.eraseP (LaneRecord.isStartOf v)
    some { l with queue := queue, stall := if queue.isEmpty then none else l.stall }
  else none

/-- A Silence is queued: the unsent records go, the Silence is appended, the owed-stop list is emptied (R150 steps
1 to 3). A waiting lane goes on waiting with its timer as it runs (R154). -/
def Lane.queueSilence (l : Lane) : Lane :=
  let l' := { l with queue := l.sent ++ [.silence], owed := [] }
  if l.queue.isEmpty then l'.beginOrWait else l'

/-- The Tier and the Swell behind a Silence (R116). -/
def Lane.resync (l : Lane) (code : TierCode) (x : Fin 128) : Lane :=
  let l := (l.takeTier code).getD l
  (l.takeSwell x).getD l

/-! ## Lanes and voices together -/

/-- A voice without lane n: a SOUNDING voice keeps sounding, an OWED voice left with nothing owed is FREE, a FREE
voice is unaffected (R68). -/
def Voice.cleared (y : Voice) (n : LaneNo) : Voice :=
  if y.state = .free then y
  else
    let owed := LaneSet.remove y.owed n
    { y with lanes := LaneSet.remove y.lanes n, owed := owed,
             state := if y.state = .owed ∧ owed = 0 then .free else y.state }

/-- Lane n is cleared from every voice (R68). -/
def State.clearLane (s : State) (n : LaneNo) : State := s.mapVoices fun _ y => y.cleared n

/-- The Dynamics Unit resynchronises lane n (R116). -/
def State.resyncLane (s : State) (n : LaneNo) : State :=
  let s := s.setLane n (s.lanes[n].resync s.tierCode s.dyn.expr)
  s.setDyn { s.dyn with lastSwell := put s.dyn.lastSwell n s.dyn.expr }

/-- A Silence is queued on lane n, in the lane state its rule has set; the lane is cleared from the voices, and a
LIVE lane is resynchronised behind it (R150, R116). -/
def State.silenceLane (s : State) (n : LaneNo) : State :=
  let s := (s.setLane n s.lanes[n].queueSilence).clearLane n
  if s.lanes[n].state = .live then s.resyncLane n else s

/-- Lane n leaves the silence-pending set; SILENCE_DONE is raised when that empties it (R137). -/
def State.leavePending (s : State) (n : LaneNo) : State :=
  let slc := { s.slc with pending := LaneSet.remove s.slc.pending n, stale := LaneSet.remove s.slc.stale n }
  if LaneSet.has s.slc.pending n then
    let s := s.setSlc slc
    if slc.pending = 0 then s.raise .silenceDone else s
  else s.setSlc slc

end Sys2Proof.Machine
end

