-- ==== Sys2Proof/Machine/Expand.lean ====
section
/-! DEFINITION. The Note Expander: the expansion of a crosspoint under a direction (R23 to R28), and the requests
that write its four tables (R29 to R32). -/

namespace Sys2Proof.Machine

/-! ## The expansion -/

/-- The entry of a pair that a section mode and a direction select: pull only when BISONORIC under PULL (R24). -/
def PitchPair.select (p : PitchPair) (m : Mode) (d : Dir) : Pitch :=
  if m = .bisonoric ∧ d = .pull then p.pull else p.push

/-- Step 1, the base list (R24). -/
def State.baseList (s : State) (r : Role) (d : Dir) : List Nat :=
  match r with
  | .treble k => [(s.nex.trebleTable[k].select s.sst.live.settings.trebleMode d).val]
  | .bass c row =>
    let root := s.nex.bassTable[c].select s.sst.live.settings.bassMode d
    s.nex.forms[s.nex.rowForms[row]].map fun interval => root.val + interval.val
  | _ => []

/-- The layer serves presses of the role under the active registers (R25). -/
def Layer.serves (l : Layer) (t : Settings) (r : Role) : Bool :=
  match r with
  | .treble _ => l.sect == .treble && l.regMask.getLsbD t.trebleReg.val
  | .bass _ row => l.sect == .bass && l.regMask.getLsbD t.bassReg.val && l.rowMask.getLsbD row.val
  | _ => false

/-- Step 2, the selected layers with their positions, in ascending order (R25). -/
def State.selectedLayers (s : State) (r : Role) : List (LayerPos × Layer) :=
  allLayers.filterMap fun i =>
    match s.sst.live.layers[i] with
    | some l => if l.serves s.sst.live.settings r then some (i, l) else none
    | none => none

/-- Folding into 0..127 by whole octaves (R26 step 2). -/
def foldPitch (v : Int) : Pitch :=
  if h : v > 127 then ⟨(v - 12 * ((v - 116) / 12)).toNat, by omega⟩
  else if h' : v < 0 then ⟨(v + 12 * ((11 - v) / 12)).toNat, by omega⟩
  else ⟨v.toNat, by omega⟩

/-- Step 3, one pair of a layer and a base note: its sum folded, and skipped outside the key range (R26). -/
def candidate (transpose : Int) (i : LayerPos) (l : Layer) (base : Nat) : Option (LayerPos × Pitch) :=
  let v := foldPitch (base + l.transpose + transpose)
  if l.keyLow ≤ v ∧ v ≤ l.keyHigh then some (i, v) else none

/-- A list with the later copies of each entry removed (R27). -/
def dropRepeats {α : Type} [DecidableEq α] : List α → List α
  | [] => []
  | a :: as => a :: (dropRepeats as).filter fun b => b ≠ a

/-- The expansion of a crosspoint under a direction: an ordered list of (layer position, pitch) (R23 to R27). -/
def State.expand (s : State) (x : Crosspoint) (d : Dir) : List (LayerPos × Pitch) :=
  let r := s.bsc.roles[x]
  dropRepeats <| (s.selectedLayers r).flatMap fun il =>
    (s.baseList r d).filterMap (candidate s.sst.live.settings.transpose il.1 il.2)

/-! ## The table loads -/

/-- The entries of a run written to consecutive places from `first` on. -/
def writeRun {α : Type} {n : Nat} (table : Vector α n) (first : Nat) (run : List α) : Vector α n :=
  tabulate fun i =>
    if first ≤ i.val then (run[i.val - first]?).getD table[i] else table[i]

/-- Load Treble Pitches, accepted (R29). -/
def loadTreblePitchesOwner (a : Fin 96 × List PitchPair) (s : State) : Verdict :=
  .accept (s.setNex { s.nex with trebleTable := writeRun s.nex.trebleTable a.1.val a.2 }) []

/-- LOAD_TREBLE_PITCHES (R29). -/
def loadTreblePitches (tag : Byte) (p : List Byte) (s : State) : State :=
  takeRequest 0x0C tag false (parsePairs 96 32 p) loadTreblePitchesOwner s

/-- Load Bass Roots, accepted (R30). -/
def loadBassRootsOwner (a : Fin 20 × List PitchPair) (s : State) : Verdict :=
  .accept (s.setNex { s.nex with bassTable := writeRun s.nex.bassTable a.1.val a.2 }) []

/-- LOAD_BASS_ROOTS (R30). -/
def loadBassRoots (tag : Byte) (p : List Byte) (s : State) : State :=
  takeRequest 0x0D tag false (parsePairs 20 20 p) loadBassRootsOwner s

/-- Load Chord Form, accepted (R31). -/
def loadChordFormOwner (a : Fin 8 × List (Fin 37)) (s : State) : Verdict :=
  .accept (s.setNex { s.nex with forms := put s.nex.forms a.1 a.2 }) []

/-- LOAD_CHORD_FORM (R31). -/
def loadChordForm (tag : Byte) (p : List Byte) (s : State) : State :=
  takeRequest 0x0E tag false (parseChordForm p) loadChordFormOwner s

/-- Set Row Forms, accepted (R32). -/
def setRowFormsOwner (forms : Vector (Fin 8) 6) (s : State) : Verdict :=
  .accept (s.setNex { s.nex with rowForms := forms }) []

/-- SET_ROW_FORMS (R32). -/
def setRowForms (tag : Byte) (p : List Byte) (s : State) : State :=
  takeRequest 0x0F tag false (parseRowForms p) setRowFormsOwner s

/-- LOAD_TREBLE_PITCHES: the command. -/
def execLoadTreblePitches (tag : Byte) (p : List Byte) (s : State) : Host.Outcome State Fault Refusal :=
  .next (loadTreblePitches tag p s)

/-- LOAD_BASS_ROOTS: the command. -/
def execLoadBassRoots (tag : Byte) (p : List Byte) (s : State) : Host.Outcome State Fault Refusal :=
  .next (loadBassRoots tag p s)

/-- LOAD_CHORD_FORM: the command. -/
def execLoadChordForm (tag : Byte) (p : List Byte) (s : State) : Host.Outcome State Fault Refusal :=
  .next (loadChordForm tag p s)

/-- SET_ROW_FORMS: the command. -/
def execSetRowForms (tag : Byte) (p : List Byte) (s : State) : Host.Outcome State Fault Refusal :=
  .next (setRowForms tag p s)

end Sys2Proof.Machine
end

