-- ==== Sys2Proof/Machine/Voices.lean ====
section
/-! DEFINITION. The Voice Table: ending, joining and allocating voices (R64 to R73), press and release (R74, R75),
re-expansion (R76 to R79), the cue transfer of LAYERS (R80), the enable's transitions (R82, R83), Read Voices (R84). -/

namespace Sys2Proof.Machine

/-! ## Ending a voice (R64, R65) -/

/-- Lane n of an ending voice v is settled: its Start is withdrawn, or its Stop is accepted, or lane n owes the
Stop (R65). -/
def settleLane (v : Slot) (s : State) (n : LaneNo) : State :=
  let y := s.vtb.voices[v]
  let out := { y with lanes := LaneSet.remove y.lanes n }
  match s.lanes[n].withdraw v with
  | some l => (s.setLane n l).setVoice v out
  | none =>
    match s.lanes[n].acceptStop v with
    | some l => (s.setLane n l).setVoice v out
    | none =>
      (s.setLane n { s.lanes[n] with owed := s.lanes[n].owed ++ [v] }).setVoice v
        { out with owed := LaneSet.add y.owed n }

/-- Every lane settled, v is OWED if a lane owes its Stop, and FREE otherwise (R65). -/
def settledVoice (y : Voice) : Voice := { y with state := if y.owed = 0 then .free else .owed }

/-- End of voice v; an end asked for a voice that is not SOUNDING changes nothing (R65). -/
def endVoice (s : State) (v : Slot) : State :=
  let y := s.vtb.voices[v]
  if y.state = .sounding then
    let s := s.setVoice v { y with holders := [] }
    let s := (LaneSet.members y.lanes).foldl (settleLane v) s
    s.setVoice v (settledVoice s.vtb.voices[v])
  else s

/-- A leave of crosspoint x from voice v (R64). -/
def leaveVoice (x : Crosspoint) (s : State) (v : Slot) : State :=
  let y := s.vtb.voices[v]
  let holders := y.holders.erase x
  let s := s.setVoice v { y with holders := holders }
  if holders.isEmpty then endVoice s v else s

/-- The slots, ascending, whose voice has x among its holders and satisfies p. -/
def State.heldSlots (s : State) (x : Crosspoint) (p : Voice → Bool) : List Slot :=
  allSlots.filter fun v => s.vtb.voices[v].holders.contains x && p s.vtb.voices[v]

/-- x leaves every voice it holds that satisfies p, in ascending slot order. -/
def leaveAll (x : Crosspoint) (p : Voice → Bool) (s : State) : State :=
  (s.heldSlots x p).foldl (leaveVoice x) s

/-! ## Joining and allocation (R69 to R73) -/

/-- A Start for voice v offered to lane n: a LIVE lane with room joins the voice's lane set, a LIVE lane without
room raises LANE_OVERRUN, any other lane does nothing (R70, R71, R146). -/
def offerStart (v : Slot) (s : State) (n : LaneNo) : State :=
  let y := s.vtb.voices[v]
  match s.lanes[n].acceptStart (.start v y.program y.pitch s.tierCode) with
  | some l => (s.setLane n l).setVoice v { y with lanes := LaneSet.add y.lanes n }
  | none => if s.lanes[n].state = .live then s.raise (.laneOverrun n v) else s

/-- The record of a new voice for crosspoint x and entry e of layer l (R70). -/
def newVoice (x : Crosspoint) (e : LayerPos × Pitch) (l : Layer) (seq : BitVec 32) : Voice :=
  { state := .sounding, origin := .live, layer := e.1, priority := l.priority, program := l.program, pitch := e.2,
    lanes := 0, owed := 0, holders := [x], startSeq := seq }

/-- The start sequence counter moves on (R61, R70). -/
def State.countStart (s : State) : State := s.setVtb { s.vtb with seqCounter := s.vtb.seqCounter + 1 }

/-- Slot v takes the new voice, and its Start is offered to the layer's lanes in ascending order (R70). -/
def startVoice (x : Crosspoint) (e : LayerPos × Pitch) (l : Layer) (s : State) (v : Slot) : State :=
  (LaneSet.members l.laneMask).foldl (offerStart v) (s.setVoice v (newVoice x e l s.vtb.seqCounter)).countStart

/-- Slot v is filled for crosspoint x and entry e of layer l; if no lane accepts the Start, the slot is FREE again and
VOICE_LOSS (dropped) is raised (R70). -/
def fillSlot (x : Crosspoint) (e : LayerPos × Pitch) (l : Layer) (s : State) (v : Slot) : State :=
  let s := startVoice x e l s v
  let y := s.vtb.voices[v]
  if y.lanes = 0 then
    (s.setVoice v { y with state := .free, holders := [], owed := 0 }).raise (.voiceLoss .dropped (some v) x)
  else s

/-- Voice y is a better steal candidate than voice z, which stands in a lower slot: its priority is lower, or it
is equal and y is older (R61, R72). -/
def betterVictim (counter : BitVec 32) (y z : Voice) : Bool :=
  y.priority < z.priority || (y.priority == z.priority && z.age counter < y.age counter)

/-- The steal candidate: among the SOUNDING voices the one of lowest priority, and of those the oldest, the lower
slot counting as older at equal ages (R61, R72). -/
def State.stealCandidate (s : State) : Option Slot :=
  (allSlots.filter fun v => s.vtb.voices[v].state == .sounding).foldl
    (fun best v =>
      match best with
      | none => some v
      | some w => if betterVictim s.vtb.seqCounter s.vtb.voices[v] s.vtb.voices[w] then some v else some w)
    none

/-- Allocation for crosspoint x and entry e: the lowest FREE slot, else a steal, else the request is dropped
(R70, R72, R73). An expansion names only present layers (R25), so the absent case does not arise (log entry 15).
DEDUCED (log entry 13): with no SOUNDING voice the request is dropped and names no voice. -/
def allocate (x : Crosspoint) (s : State) (e : LayerPos × Pitch) : State :=
  match s.sst.live.layers[e.1] with
  | none => s
  | some l =>
    match allSlots.find? fun v => s.vtb.voices[v].state == .free with
    | some v => fillSlot x e l s v
    | none =>
      match s.stealCandidate with
      | none => s.raise (.voiceLoss .dropped none x)
      | some v =>
        if s.vtb.voices[v].priority ≤ l.priority then
          let s := endVoice s v
          if s.vtb.voices[v].state = .free then fillSlot x e l (s.raise (.voiceLoss .stolen (some v) x)) v
          else s.raise (.voiceLoss .dropped none x)
        else s.raise (.voiceLoss .dropped none x)

/-- The SOUNDING LIVE voice that stands for an entry (R69). -/
def State.findLive (s : State) (e : LayerPos × Pitch) : Option Slot :=
  allSlots.find? fun v => s.vtb.voices[v].soundsLive && s.vtb.voices[v].matchesEntry e

/-- A join of crosspoint x to an entry (R69). DEDUCED (log entry 6): a crosspoint that the voice already has among
its holders is not recorded a second time, since no crosspoint appears twice in a holder list (R62). -/
def joinEntry (x : Crosspoint) (s : State) (e : LayerPos × Pitch) : State :=
  match s.findLive e with
  | some v =>
    let y := s.vtb.voices[v]
    if y.holders.contains x then s
    else if y.holders.length < 6 then s.setVoice v { y with holders := y.holders ++ [x] }
    else s.raise (.voiceLoss .holderFull (some v) x)
  | none => allocate x s e

/-! ## Press and release (R74, R75) -/

/-- A press of crosspoint x: with E = 1 and the part PLAYING it is expanded under BD, joined in list order, and
voiced (R74). -/
def pressKey (s : State) (x : Crosspoint) : State :=
  if s.slc.enable && !s.isHalted then
    ((s.expand x s.bfe.bd).foldl (joinEntry x) s).setVoicedAs [x] (some s.bfe.bd)
  else s

/-- A release of crosspoint x: it leaves every voice it holds and is unvoiced (R75). -/
def releaseKey (s : State) (x : Crosspoint) : State :=
  (leaveAll x (fun _ => true) s).setVoicedAs [x] none

/-! ## Re-expansion (R76 to R79) -/

/-- The voice is of x's old set and stands for none of the entries of its new list (R76). -/
def leavesFor (list : List (LayerPos × Pitch)) (y : Voice) : Bool := y.soundsLive && !list.any y.matchesEntry

/-- The entries of x's new list that no voice of its old set matches (R76). -/
def State.unmatched (s : State) (x : Crosspoint) (list : List (LayerPos × Pitch)) : List (LayerPos × Pitch) :=
  list.filter fun e => (s.heldSlots x fun y => y.soundsLive && y.matchesEntry e).isEmpty

/-- The mode of the section of crosspoint x. -/
def State.modeOf (s : State) (x : Crosspoint) : Option Mode :=
  (s.bsc.roles[x].sect).map s.sst.live.settings.mode

/-- The leave phase of one crosspoint: its own leaves, then, at a reversal, the orphans it holds if its section is
BISONORIC (R76 to R78). -/
def leavePhase (orphans : Bool) (s : State) (p : Crosspoint × List (LayerPos × Pitch)) : State :=
  let s := leaveAll p.1 (leavesFor p.2) s
  if orphans && s.modeOf p.1 == some .bisonoric then leaveAll p.1 Voice.soundsOrphan s else s

/-- One re-expansion of the crosspoints of a list to direction d: the new lists from the state at the event, all
leaves, then all joins, then the voiced-as entries (R76, R77). DEDUCED (log entry 7): the old sets that decide the
joins are those at the event. -/
def reexpand (orphans : Bool) (d : Dir) (xs : List Crosspoint) (s : State) : State :=
  let plan := xs.map fun x => (x, s.expand x d)
  let joins := plan.map fun p => (p.1, s.unmatched p.1 p.2)
  let s := plan.foldl (leavePhase orphans) s
  let s := joins.foldl (fun t p => p.2.foldl (joinEntry p.1) t) s
  s.setVoicedAs xs (some d)

/-- The Voice Table's part of a reversal: every voiced crosspoint under the new BD (R78). -/
def reversalReexpand (s : State) : State := reexpand true s.bfe.bd s.voiced s

/-- A change of register or mode: the voiced crosspoints of the sections concerned under the current BD (R79). -/
def sectionReexpand (concerned : Sect → Bool) (s : State) : State :=
  reexpand false s.bfe.bd
    (s.voiced.filter fun x => match s.bsc.roles[x].sect with | some c => concerned c | none => false) s

/-! ## The cue transfer of LAYERS (R80) -/

/-- Step 1: a non-FREE voice becomes ORPHAN (R80). -/
def Voice.orphaned (y : Voice) : Voice := if y.state = .free then y else { y with origin := .orphan }

/-- The layer at a position is present in the Live Copy with carry = 1. -/
def State.carries (s : State) (i : LayerPos) : Bool :=
  match s.sst.live.layers[i] with
  | some l => l.carry
  | none => false

/-- The cue transfer of LAYERS, after the Live Copy has been written (R80). -/
def layersTransferred (s : State) : State :=
  let s := s.mapVoices fun _ y => y.orphaned
  let ends := allSlots.filter fun v => s.vtb.voices[v].soundsOrphan && s.carries s.vtb.voices[v].layer
  let s := ends.foldl endVoice s
  s.voiced.foldl (fun t x => ((t.expand x t.bfe.bd).filter fun e => t.carries e.1).foldl (joinEntry x) t) s

/-! ## The enable (R82, R83) -/

/-- Every crosspoint unvoiced (R82). -/
def State.unvoiceAll (s : State) : State := s.setVtb { s.vtb with voicedAs := Vector.replicate 256 none }

/-- E has fallen from 1 to 0: every SOUNDING voice is ended and every crosspoint unvoiced (R82). -/
def enableFell (s : State) : State :=
  let ends := allSlots.filter fun v => s.vtb.voices[v].state == .sounding
  let s := ends.foldl endVoice s
  s.unvoiceAll

/-- E has risen from 0 to 1: every held playing crosspoint is pressed afresh, ascending (R83). -/
def enableRose (s : State) : State := (allCrosspoints.filter s.holdsKey).foldl pressKey s

/-! ## Read Voices (R84) -/

/-- The condition code of a voice (R84). -/
def Voice.condition (y : Voice) : Nat :=
  (if y.state = .owed then 3 else 1) + (if y.origin = .orphan then 1 else 0)

/-- The seven bytes of a voice in the reply (R84). -/
def voiceEntry (v : Slot) (y : Voice) : List Byte :=
  [byte v.val, byte y.condition, byte y.layer.val, byte y.pitch.val, byte (y.lanes.toNat + 16 * y.owed.toNat),
   byte y.holders.length, match y.holders with | x :: _ => byte x.val | [] => 0]

/-- The reply data of Read Voices from a first slot: more flag, count, entries (R84). -/
def State.voiceReport (s : State) (first : Slot) : List Byte :=
  let found := allSlots.filter fun v => first ≤ v && s.vtb.voices[v].state != .free
  let listed := found.take 32
  byteOfBool (32 < found.length) :: byte listed.length :: listed.flatMap fun v => voiceEntry v s.vtb.voices[v]

/-- READ_VOICES (R84). -/
def readVoices (tag : Byte) (p : List Byte) (s : State) : State :=
  takeRequest 0x20 tag true (parseOne (field 48) p) (fun first s => .accept s (s.voiceReport first)) s

/-- READ_VOICES: the command. -/
def execReadVoices (tag : Byte) (p : List Byte) (s : State) : Host.Outcome State Fault Refusal :=
  .next (readVoices tag p s)

end Sys2Proof.Machine
end

