-- ==== Sys2Proof/Machine/Dynamics.lean ====
section
/-! DEFINITION. The Dynamics Unit: surge, window, tier check, expression and swell of a processed sample
(R106 to R115), and its four requests (R118 to R122). -/

namespace Sys2Proof.Machine

/-! ## The tier check (R111, R112) -/

/-- A Tier record offered to lane n if it is LIVE; the flag falls when a LIVE lane discards it (R112). -/
def offerTier (code : TierCode) (p : State × Bool) (n : LaneNo) : State × Bool :=
  if p.1.lanes[n].state = .live then
    match p.1.lanes[n].takeTier code with
    | some l => (p.1.setLane n l, p.2)
    | none => (p.1, false)
  else p

/-- The tier check: when the current tier code differs from the last code posted, TIER is raised, a Tier record is
offered to every LIVE lane in ascending order, and the last code posted becomes the code, or NONE if a LIVE lane
discarded the record (R111, R112). -/
def tierCheck (s : State) : State :=
  let code := s.tierCode
  if s.dyn.lastCode = some code then s
  else
    let p := allLanes.foldl (offerTier code) (s.raise (.tier code), true)
    p.1.setDyn { p.1.dyn with lastCode := if p.2 then some code else none }

/-! ## The stages of a processed sample (R108 to R115) -/

/-- The level moved by a signed amount, within the bounds (R107). -/
def Dynamics.move (y : Dynamics) (by_ : Int) : Fin 65536 :=
  clampLevel (y.level.val + by_) y.settings.floor y.settings.ceil

/-- Stage 6, the surge (R108). -/
def surgeStage (m : Nat) (y : Dynamics) : Dynamics :=
  if m > y.settings.tsurge ∧ y.holdOffLeft = 0 then
    { y with level := y.move y.settings.surge, holdOffLeft := y.settings.holdOff }
  else if y.holdOffLeft > 0 then { y with holdOffLeft := y.holdOffLeft - 1 }
  else y

/-- What a complete window's average does to the level (R110). -/
def windowStep (t : DynSettings) (a : Nat) : Int :=
  if a > t.tu then t.rise else if a < t.td then -t.fall else t.drift

/-- Stage 7, the window (R109, R110). -/
def windowStage (m : Nat) (y : Dynamics) : Dynamics :=
  let sum := y.winSum + m
  let pos := y.winPos + 1
  let len := 2 ^ y.settings.winShift
  if pos < len then { y with winSum := sum, winPos := pos }
  else
    let a := sum / len
    { y with winSum := 0, winPos := 0, average := a, level := y.move (windowStep y.settings a) }

/-- F16 moved toward m × 16 by a 2^s-th of the distance, rounded toward minus infinity (R113). -/
def smoothStep (s m f16 : Nat) : Nat := ((f16 : Int) + ((m * 16 : Int) - f16) / (2 ^ s : Nat)).toNat

/-- X from F16 and the gain (R114). -/
def expression (gain f16 : Nat) : Fin 128 := ⟨min 127 (f16 / 16 * gain / 65536), by omega⟩

/-- The first part of stage 9: F16 and X (R113, R114). -/
def expressionStage (m : Nat) (y : Dynamics) : Dynamics :=
  let f16 := smoothStep y.settings.smooth m y.f16
  { y with f16 := f16, expr := expression y.settings.gain f16 }

/-- A swell X is due on a lane whose last-posted swell is P (R115). -/
def swellDue (step : Nat) (x p : Fin 128) : Bool :=
  step ≤ (max x.val p.val - min x.val p.val) || ((x.val == 0 || x.val == 127) && x != p)

/-- The second part of stage 9 for lane n (R115). -/
def postSwell (s : State) (n : LaneNo) : State :=
  let x := s.dyn.expr
  if s.lanes[n].state = .live ∧ swellDue s.dyn.settings.swellStep x s.dyn.lastSwell[n] then
    match s.lanes[n].takeSwell x with
    | some l =>
      let s := s.setLane n l
      s.setDyn { s.dyn with lastSwell := put s.dyn.lastSwell n x }
    | none => s
  else s

/-- A processed sample of magnitude m (R106). -/
def processSample (m : Nat) (s : State) : State :=
  let s := s.setDyn (windowStage m (surgeStage m s.dyn))
  let s := tierCheck s
  let s := s.setDyn (expressionStage m s.dyn)
  allLanes.foldl postSwell s

/-! ## Requests -/

/-- Set Dynamics, accepted (R119). -/
def setDynamicsOwner (a : LevelSettings) (s : State) : Verdict :=
  let settings :=
    { s.dyn.settings with
      winShift := a.winShift, tu := a.tu, td := a.td, rise := a.rise, fall := a.fall, drift := a.drift,
      tsurge := a.tsurge, surge := a.surge, holdOff := a.holdOff, floor := a.floor, ceil := a.ceil }
  .accept
    (tierCheck (s.setDyn { s.dyn with
      settings := settings, winSum := 0, winPos := 0, holdOffLeft := 0,
      level := clampLevel s.dyn.level.val a.floor a.ceil })) []

/-- SET_DYNAMICS (R118, R119). -/
def setDynamics (tag : Byte) (p : List Byte) (s : State) : State :=
  takeRequest 0x23 tag false (parseSetDynamics p) setDynamicsOwner s

/-- Set Expression, accepted (R120). -/
def setExpressionOwner (a : Nat × Nat × Nat) (s : State) : Verdict :=
  .accept (s.setDyn { s.dyn with
    settings := { s.dyn.settings with smooth := a.1, gain := a.2.1, swellStep := a.2.2 } }) []

/-- SET_EXPRESSION (R120). -/
def setExpression (tag : Byte) (p : List Byte) (s : State) : State :=
  takeRequest 0x24 tag false (parseSetExpression p) setExpressionOwner s

/-- Load Tier Map, accepted (R121). -/
def loadTierMapOwner (map : Vector TierCode 8) (s : State) : Verdict :=
  .accept (tierCheck (s.setLive { s.sst.live with tierMap := map })) []

/-- LOAD_TIER_MAP (R121). -/
def loadTierMap (tag : Byte) (p : List Byte) (s : State) : State :=
  takeRequest 0x25 tag false (parseTierMap p) loadTierMapOwner s

/-- Set Level, accepted: the reply carries L as written and the current tier code (R122). -/
def setLevelOwner (v : Nat) (s : State) : Verdict :=
  let s := s.setDyn { s.dyn with level := clampLevel v s.dyn.settings.floor s.dyn.settings.ceil }
  let s := tierCheck s
  .accept s (bytes16 s.dyn.level.val ++ [byte s.tierCode.val])

/-- SET_LEVEL (R122). -/
def setLevel (tag : Byte) (p : List Byte) (s : State) : State :=
  takeRequest 0x26 tag false (parseSetLevel p) setLevelOwner s

/-- SET_DYNAMICS: the command. -/
def execSetDynamics (tag : Byte) (p : List Byte) (s : State) : Host.Outcome State Fault Refusal :=
  .next (setDynamics tag p s)

/-- SET_EXPRESSION: the command. -/
def execSetExpression (tag : Byte) (p : List Byte) (s : State) : Host.Outcome State Fault Refusal :=
  .next (setExpression tag p s)

/-- LOAD_TIER_MAP: the command. -/
def execLoadTierMap (tag : Byte) (p : List Byte) (s : State) : Host.Outcome State Fault Refusal :=
  .next (loadTierMap tag p s)

/-- SET_LEVEL: the command. -/
def execSetLevel (tag : Byte) (p : List Byte) (s : State) : Host.Outcome State Fault Refusal :=
  .next (setLevel tag p s)

end Sys2Proof.Machine
end

