-- ==== Sys2Proof/Machine/Silencing.lean ====
section
/-! DEFINITION. Silencing Control: the enable pair (R134, R135), Panic and the silence-pending set (R136, R137), and
the entry to HALTED (R138). -/

namespace Sys2Proof.Machine

/-- The enable pair is written: both values first, then the Voice Table's part if E changed (R134). -/
def writeEnable (e sh : Bool) (s : State) : State :=
  let before := s.slc.enable
  let s := s.setSlc { s.slc with enable := e, shadow := sh }
  if before && !e then enableFell s else if !before && e then enableRose s else s

/-- A hush: S takes E as it stood, E becomes 0 (R135). -/
def hushPart (s : State) : State := writeEnable false s.slc.enable s

/-- An unhush: E takes S (R135). -/
def unhushPart (s : State) : State := writeEnable s.slc.shadow s.slc.shadow s

/-- The reply data of the enable requests: E, then S (R135). -/
def State.enableData (s : State) : List Byte := [byteOfBool s.slc.enable, byteOfBool s.slc.shadow]

/-- The entry to HALTED (R138). -/
def haltPart (s : State) : State :=
  let s := s.setSlc { s.slc with part := .halted }
  let s := (allLanes.filter fun n => s.lanes[n].state == .live).foldl State.silenceLane s
  let s := writeEnable false false s
  let s := s.setStack []
  let s := s.setSst { s.sst with armed := none }
  s.raise .halted

/-! ## Panic (R136, R137) -/

/-- The set of the lanes that satisfy p. -/
def laneSetOf (p : LaneNo → Bool) : LaneSet :=
  allLanes.foldl (fun b n => if p n then LaneSet.add b n else b) 0

/-- Panic, accepted (R136). A lane that joins the silence-pending set while a Silence is being sent on it does not
leave at that record's completion (R137; DEDUCED, log entry 9). -/
def panicPart (s : State) : State :=
  let joining := laneSetOf fun n => s.lanes[n].transmits
  let stale := laneSetOf fun n => s.lanes[n].transmits && s.lanes[n].sendsSilence
  let s := (LaneSet.members joining).foldl State.silenceLane s
  let pending := s.slc.pending ||| joining
  let s := s.setSlc { s.slc with pending := pending, stale := (s.slc.stale &&& ~~~joining) ||| stale }
  let s := writeEnable false false s
  if pending = 0 then s.raise .silenceDone else s

/-- PANIC: the reply carries E, S and the silence-pending set (R136). -/
def panic (tag : Byte) (p : List Byte) (s : State) : State :=
  takeRequest 0x2E tag false (parseEmpty p)
    (fun _ s => let s := panicPart s; .accept s (s.enableData ++ [byte s.slc.pending.toNat])) s

/-! ## The enable requests (R135) -/

/-- MUTE (R135). -/
def mute (tag : Byte) (p : List Byte) (s : State) : State :=
  takeRequest 0x2A tag false (parseEmpty p)
    (fun _ s => let s := writeEnable false false s; .accept s s.enableData) s

/-- UNMUTE (R135). -/
def unmute (tag : Byte) (p : List Byte) (s : State) : State :=
  takeRequest 0x2B tag false (parseEmpty p)
    (fun _ s => let s := writeEnable true true s; .accept s s.enableData) s

/-- HUSH (R135). -/
def hush (tag : Byte) (p : List Byte) (s : State) : State :=
  takeRequest 0x2C tag false (parseEmpty p) (fun _ s => let s := hushPart s; .accept s s.enableData) s

/-- UNHUSH (R135). -/
def unhush (tag : Byte) (p : List Byte) (s : State) : State :=
  takeRequest 0x2D tag false (parseEmpty p) (fun _ s => let s := unhushPart s; .accept s s.enableData) s

/-- MUTE: the command. -/
def execMute (tag : Byte) (p : List Byte) (s : State) : Host.Outcome State Fault Refusal := .next (mute tag p s)

/-- UNMUTE: the command. -/
def execUnmute (tag : Byte) (p : List Byte) (s : State) : Host.Outcome State Fault Refusal := .next (unmute tag p s)

/-- HUSH: the command. -/
def execHush (tag : Byte) (p : List Byte) (s : State) : Host.Outcome State Fault Refusal := .next (hush tag p s)

/-- UNHUSH: the command. -/
def execUnhush (tag : Byte) (p : List Byte) (s : State) : Host.Outcome State Fault Refusal := .next (unhush tag p s)

/-- PANIC: the command. -/
def execPanic (tag : Byte) (p : List Byte) (s : State) : Host.Outcome State Fault Refusal := .next (panic tag p s)

end Sys2Proof.Machine
end

