-- ==== Sys2Proof/Machine/Lanes.lean ====
section
/-! DEFINITION. The lanes' own events: ready lines, completion with owed delivery, stall (R151 to R156), and the
lane requests (R157 to R160). -/

namespace Sys2Proof.Machine

/-! ## Ready lines (R151, R154) -/

/-- READY_RISE: the line rises; a lane with work begins to send (R151). A rise of a line that is asserted already
does not occur and changes nothing (log entry 4). -/
def readyRise (n : LaneNo) (s : State) : State :=
  if s.lanes[n].ready then s else s.setLane n { s.lanes[n] with ready := true }.beginOrWait

/-- READY_FALL: the line falls; a lane with records queued and none being sent begins to wait (R154). A fall of a
line that is deasserted already does not occur and changes nothing (log entry 4). -/
def readyFall (n : LaneNo) (s : State) : State :=
  if s.lanes[n].ready then s.setLane n { s.lanes[n] with ready := false }.beginOrWait else s

/-! ## Completion (R152, R153, R67) -/

/-- Voice y after lane n has delivered its owed Stop (R67). -/
def Voice.delivered (y : Voice) (n : LaneNo) : Voice :=
  let owed := LaneSet.remove y.owed n
  { y with owed := owed, state := if y.state = .owed ∧ owed = 0 then .free else y.state }

/-- Owed delivery on lane n: Stops from the front of the owed-stop list `owed` while the occupancy is below 32
(R152 step 3, R153, R67). -/
def deliverOwed (n : LaneNo) : List Slot → State → State
  | [], s => s
  | v :: rest, s =>
    let l := s.lanes[n]
    if l.occupancy < 32 then
      let s := s.setLane n { l with queue := l.queue ++ [.stop v], owed := rest }
      deliverOwed n rest (s.setVoice v (s.vtb.voices[v].delivered n))
    else s

/-- The completion of a Silence on lane n: the lane leaves the silence-pending set unless that Silence was already
being sent when it last joined (R137); a CLOSING lane whose queue holds no further Silence becomes OFF, and an OFF
lane leaves the set (R152 step 2, R137). -/
def silenceSent (n : LaneNo) (s : State) : State :=
  let s :=
    if LaneSet.has s.slc.stale n then s.setSlc { s.slc with stale := LaneSet.remove s.slc.stale n }
    else s.leavePending n
  let l := s.lanes[n]
  if l.state = .closing ∧ ¬ l.queue.contains .silence then
    (s.setLane n { l with state := .off, stall := none }).leavePending n
  else s

/-- RECORD_COMPLETION: the record being sent leaves the queue; a Silence has its consequences; a LIVE lane delivers
owed Stops; the next record begins or the lane waits (R152). With no record being sent the event does not occur and
changes nothing (log entry 4). -/
def recordCompletion (n : LaneNo) (s : State) : State :=
  let l := s.lanes[n]
  match l.sending, l.queue with
  | true, r :: rest =>
    let s := s.setLane n { l with queue := rest, sending := false }
    let s := if r = .silence then silenceSent n s else s
    let s := if s.lanes[n].state = .live then deliverOwed n s.lanes[n].owed s else s
    (s.setLane n s.lanes[n].beginOrWait).arbitrate
  | _, _ => s

/-! ## Stall (R155, R156) -/

/-- STALL_EXPIRY: the lane becomes DEAD, is emptied and cleared, leaves the silence-pending set, and LANE_DEAD is
raised (R155). Before the timer has run for T × 10 ms since it was last started from zero, as after a Reset Lane or a
Set Lane that restarted it, and with the lane not waiting, the event does not occur and changes nothing (R156, R161,
log entry 4). -/
def stallExpiry (n : LaneNo) (s : State) : State :=
  let l := s.lanes[n]
  if l.waiting && l.stallDue then
    let s := s.setLane n { l with state := .dead, queue := [], owed := [], stall := none }
    let s := (s.clearLane n).leavePending n
    (s.raise (.laneDead n)).arbitrate
  else s

/-! ## Set Lane and Reset Lane (R157 to R159) -/

/-- T is stored; a waiting lane's timer restarts from zero under the new T (R157). -/
def Lane.setTimeout (l : Lane) (t : Nat) : Lane :=
  let l := { l with timeout := t }
  if l.waiting then l.beginOrWait else l

/-- The enable applied to lane n (R158); the case DEAD with enable 1 is refused before (R157). -/
def applyLaneEnable (n : LaneNo) (enable : Bool) (s : State) : State :=
  let l := s.lanes[n]
  match l.state, enable with
  | .off, false => s
  | .off, true => (s.setLane n { l with state := .live }).silenceLane n
  | .live, false => (s.setLane n { l with state := .closing }).silenceLane n
  | .live, true => s
  | .closing, false => s
  | .closing, true => (s.setLane n { l with state := .live }).silenceLane n
  | .dead, false => (s.setLane n { l with state := .off }).leavePending n
  | .dead, true => s

/-- Set Lane (R157, R158). DEDUCED (log entry 17): a Set Lane that finds the lane DEAD stores T when its enable is 0,
and is refused and changes nothing when its enable is 1 (R157), although the last row of R161 says that the new T is
stored. -/
def setLaneOwner (a : LaneNo × Bool × Nat) (s : State) : Verdict :=
  if s.lanes[a.1].state = .dead ∧ a.2.1 = true then .refuse .wrongState
  else
    let s := s.setLane a.1 (s.lanes[a.1].setTimeout a.2.2)
    let s := applyLaneEnable a.1 a.2.1 s
    .accept s [byte s.lanes[a.1].state.code]

/-- SET_LANE (R157, R158). -/
def setLaneRequest (tag : Byte) (p : List Byte) (s : State) : State :=
  takeRequest 0x30 tag false (parseSetLane p) setLaneOwner s

/-- Lane n becomes LIVE with a fresh Silence and its resynchronisation; if it waits, its timer restarts from zero
(R159 steps 1 to 4; R164 for RESTART). -/
def reviveLane (s : State) (n : LaneNo) : State :=
  let s := (s.setLane n { s.lanes[n] with state := .live }).silenceLane n
  s.setLane n s.lanes[n].beginOrWait

/-- Reset Lane (R159). -/
def resetLaneOwner (n : LaneNo) (s : State) : Verdict :=
  if s.lanes[n].state = .off then .refuse .wrongState else .accept (reviveLane s n) []

/-- RESET_LANE (R159). -/
def resetLane (tag : Byte) (p : List Byte) (s : State) : State :=
  takeRequest 0x31 tag false (parseOne (field 4) p) resetLaneOwner s

/-! ## Read Lanes (R160) -/

/-- The block of a lane in the reply (R160). -/
def Lane.report (l : Lane) : List Byte :=
  [byte l.state.code, byte l.occupancy, byteOfBool l.ready, byteOfBool l.sending, byte l.timeout, byte l.owed.length]
    ++ l.owed.map fun v => byte v.val

/-- READ_LANES (R160). -/
def readLanes (tag : Byte) (p : List Byte) (s : State) : State :=
  takeRequest 0x32 tag true (parseEmpty p) (fun _ s => .accept s (allLanes.flatMap fun n => s.lanes[n].report)) s

/-! ## The commands -/

/-- READY_RISE: the command. -/
def execReadyRise (n : LaneNo) (s : State) : Host.Outcome State Fault Refusal := .next (readyRise n s)

/-- READY_FALL: the command. -/
def execReadyFall (n : LaneNo) (s : State) : Host.Outcome State Fault Refusal := .next (readyFall n s)

/-- RECORD_COMPLETION: the command. -/
def execRecordCompletion (n : LaneNo) (s : State) : Host.Outcome State Fault Refusal := .next (recordCompletion n s)

/-- STALL_EXPIRY: the command. -/
def execStallExpiry (n : LaneNo) (s : State) : Host.Outcome State Fault Refusal := .next (stallExpiry n s)

/-- SET_LANE: the command. -/
def execSetLane (tag : Byte) (p : List Byte) (s : State) : Host.Outcome State Fault Refusal :=
  .next (setLaneRequest tag p s)

/-- RESET_LANE: the command. -/
def execResetLane (tag : Byte) (p : List Byte) (s : State) : Host.Outcome State Fault Refusal :=
  .next (resetLane tag p s)

/-- READ_LANES: the command. -/
def execReadLanes (tag : Byte) (p : List Byte) (s : State) : Host.Outcome State Fault Refusal :=
  .next (readLanes tag p s)

end Sys2Proof.Machine
end

