-- ==== Sys2Proof/Machine/Scenes.lean ====
section
/-! DEFINITION. The Scene Store: scene loading (R39 to R43), transfers (R46 to R49), the armed cue and its triggers
(R50 to R55), register selection (R57), override definitions (R58), and the two requests of spec 02 that write the
Live Copy (R34, R35). -/

namespace Sys2Proof.Machine

/-! ## The Scene Library (R37 to R43) -/

/-- Scene n replaced. -/
def State.setScene (s : State) (n : SceneNo) (c : Scene) : State :=
  s.setSst { s.sst with library := put s.sst.library n c }

/-- Begin Scene, accepted: PARTIAL and cleared (R37, R39). -/
def beginSceneOwner (n : SceneNo) (s : State) : Verdict :=
  .accept (s.setScene n { Scene.blank with state := .loading }) []

/-- BEGIN_SCENE (R39). -/
def beginScene (tag : Byte) (p : List Byte) (s : State) : State :=
  takeRequest 0x14 tag false (parseOne (field 16) p) beginSceneOwner s

/-- Load Layer (R40). -/
def loadLayerOwner (a : SceneNo × LayerPos × Layer) (s : State) : Verdict :=
  let c := s.sst.library[a.1]
  if c.state = .loading then .accept (s.setScene a.1 { c with layers := put c.layers a.2.1 (some a.2.2) }) []
  else .refuse .wrongState

/-- LOAD_LAYER (R40). -/
def loadLayer (tag : Byte) (p : List Byte) (s : State) : State :=
  takeRequest 0x15 tag false (parseLoadLayer p) loadLayerOwner s

/-- Set Scene Defaults (R41). -/
def setSceneDefaultsOwner (a : SceneNo × Settings × Vector TierCode 8) (s : State) : Verdict :=
  let c := s.sst.library[a.1]
  if c.state = .loading then .accept (s.setScene a.1 { c with defaults := a.2.1, tierMap := a.2.2 }) []
  else .refuse .wrongState

/-- SET_SCENE_DEFAULTS (R41). -/
def setSceneDefaults (tag : Byte) (p : List Byte) (s : State) : State :=
  takeRequest 0x16 tag false (parseSceneDefaults p) setSceneDefaultsOwner s

/-- At least one layer is present. -/
def Scene.hasLayer (c : Scene) : Bool := allLayers.any fun i => c.layers[i].isSome

/-- Finish Scene (R42). -/
def finishSceneOwner (n : SceneNo) (s : State) : Verdict :=
  let c := s.sst.library[n]
  if c.state = .loading ∧ c.hasLayer then .accept (s.setScene n { c with state := .valid }) []
  else .refuse .wrongState

/-- FINISH_SCENE (R42). -/
def finishScene (tag : Byte) (p : List Byte) (s : State) : State :=
  takeRequest 0x17 tag false (parseOne (field 16) p) finishSceneOwner s

/-- Erase Scene, accepted: EMPTY and cleared (R43). -/
def eraseSceneOwner (n : SceneNo) (s : State) : Verdict := .accept (s.setScene n .blank) []

/-- ERASE_SCENE (R43). -/
def eraseScene (tag : Byte) (p : List Byte) (s : State) : State :=
  takeRequest 0x18 tag false (parseOne (field 16) p) eraseSceneOwner s

/-! ## Transfers (R46 to R48) -/

/-- LAYERS is in the item set (R50). -/
def hasLayers (items : BitVec 3) : Bool := items.getLsbD 0

/-- SETTINGS is in the item set (R50). -/
def hasSettings (items : BitVec 3) : Bool := items.getLsbD 1

/-- TIERMAP is in the item set (R50). -/
def hasTierMap (items : BitVec 3) : Bool := items.getLsbD 2

/-- All three items: a take (R49). -/
def allItems : BitVec 3 := 7

/-- LAYERS and TIERMAP: the scene transfer of an override (R58, R127, R129). -/
def layersAndMap : BitVec 3 := 5

/-- Phase 1 of a transfer: every item named is written (R46). -/
def LiveCopy.writeItems (c : LiveCopy) (n : SceneNo) (scene : Scene) (items : BitVec 3) : LiveCopy :=
  { origin := if hasLayers items then some n else c.origin
    layers := if hasLayers items then scene.layers else c.layers
    settings := if hasSettings items then scene.defaults else c.settings
    tierMap := if hasTierMap items then scene.tierMap else c.tierMap }

/-- A transfer of scene n: write, tier check, voice consequences (R46 to R48). `separate` is false for a cue fired
by REVERSAL, whose SETTINGS hand on no re-expansion of their own (R48, R54). -/
def transfer (n : SceneNo) (items : BitVec 3) (separate : Bool) (s : State) : State :=
  let before := s.sst.live.settings
  let s := s.setLive (s.sst.live.writeItems n s.sst.library[n] items)
  let s := if hasTierMap items then tierCheck s else s
  if hasLayers items then layersTransferred s
  else if hasSettings items && separate then sectionReexpand (before.changed s.sst.live.settings) s
  else s

/-- Take Scene (R49). -/
def takeSceneOwner (n : SceneNo) (s : State) : Verdict :=
  if s.sceneValid n then .accept (transfer n allItems true s) [] else .refuse .wrongState

/-- TAKE_SCENE (R49). -/
def takeScene (tag : Byte) (p : List Byte) (s : State) : State :=
  takeRequest 0x1C tag false (parseOne (field 16) p) takeSceneOwner s

/-! ## The armed cue (R50 to R54) -/

/-- Arm Cue, accepted: the reply says whether a cue was replaced (R50). -/
def armCueOwner (c : Cue) (s : State) : Verdict :=
  .accept (s.setSst { s.sst with armed := some c }) [byteOfBool s.sst.armed.isSome]

/-- ARM_CUE (R50). -/
def armCue (tag : Byte) (p : List Byte) (s : State) : State :=
  takeRequest 0x19 tag false (parseArmCue p) armCueOwner s

/-- The armed cue removed. -/
def State.disarm (s : State) : State := s.setSst { s.sst with armed := none }

/-- Cancel Cue (R51). -/
def cancelCueOwner (_ : Unit) (s : State) : Verdict :=
  if s.sst.armed.isSome then .accept s.disarm [] else .refuse .wrongState

/-- CANCEL_CUE (R51). -/
def cancelCue (tag : Byte) (p : List Byte) (s : State) : State :=
  takeRequest 0x1A tag false (parseEmpty p) cancelCueOwner s

/-- The trigger is in the cue's trigger set. -/
def Cue.hasTrigger (c : Cue) (t : Trigger) : Bool := c.triggers.getLsbD t.bit

/-- The armed cue fires: it is disarmed, its transfer is carried out if its target is VALID, and CUE is raised
(R52). -/
def fireArmed (c : Cue) (t : Trigger) (s : State) : State :=
  let done := s.sceneValid c.target
  let s := s.disarm
  let s := if done then transfer c.target c.items (t != .reversal) s else s
  s.raise (.cue done c.target t)

/-- A trigger event reaches the Scene Store (R52). -/
def triggerCue (t : Trigger) (s : State) : State :=
  match s.sst.armed with
  | some c => if c.hasTrigger t then fireArmed c t s else s
  | none => s

/-- Fire Cue: the HOST trigger; the outcome byte is 0 when the transfer was carried out (R53). -/
def fireCueOwner (_ : Unit) (s : State) : Verdict :=
  match s.sst.armed with
  | some c =>
    if c.hasTrigger .host then .accept (fireArmed c .host s) [byteOfBool (!s.sceneValid c.target)]
    else .refuse .wrongState
  | none => .refuse .wrongState

/-- FIRE_CUE (R53). -/
def fireCue (tag : Byte) (p : List Byte) (s : State) : State :=
  takeRequest 0x1B tag false (parseEmpty p) fireCueOwner s

/-! ## The cue line (R55) -/

/-- CUE_LINE_RISE (R55). -/
def cueLineRise (s : State) : State :=
  let s := s.setSst { s.sst with cuePin := true }
  match s.sst.detector with
  | .waitRise => s.setSst { s.sst with detector := .qualifying, qualTimer := some 0 }
  | _ => s

/-- CUE_LINE_FALL (R55). -/
def cueLineFall (s : State) : State :=
  let s := s.setSst { s.sst with cuePin := false }
  match s.sst.detector with
  | .waitRise => s
  | _ => s.setSst { s.sst with detector := .waitRise, qualTimer := none }

/-- CUE_QUALIFICATION_EXPIRY: a CUE_LINE trigger event, and WAIT_FALL (R55). Outside QUALIFYING, and before the timer
has run for 1 ms, the event does not occur and changes nothing (log entry 4). -/
def cueQualificationExpiry (s : State) : State :=
  if s.sst.detector = .qualifying ∧ s.sst.qualDue then
    let s := s.setSst { s.sst with detector := .waitFall, qualTimer := none }
    (triggerCue .cueLine s).arbitrate
  else s

/-! ## Registers, modes and transpose (R57, R34, R35) -/

/-- The settings with the register of a section replaced. -/
def Settings.withReg (t : Settings) (c : Sect) (n : RegNo) : Settings :=
  match c with
  | .treble => { t with trebleReg := n }
  | .bass => { t with bassReg := n }

/-- A register selection (R57). -/
def selectRegisterIn (c : Sect) (n : RegNo) (s : State) : State :=
  if s.sst.live.settings.reg c = n then s
  else sectionReexpand (fun d => d == c) (s.setSettings (s.sst.live.settings.withReg c n))

/-- SELECT_REGISTER (R57). -/
def selectRegister (tag : Byte) (p : List Byte) (s : State) : State :=
  takeRequest 0x1D tag false (parseSelectRegister p) (fun a s => .accept (selectRegisterIn a.1 a.2 s) []) s

/-- Settings are written and the sections they change are re-expanded as one re-expansion (R34, R79, R127 step 3,
R130 step 1). -/
def applySettings (t : Settings) (s : State) : State :=
  let before := s.sst.live.settings
  sectionReexpand (before.changed t) (s.setSettings t)

/-- Set Section Modes, accepted (R34). -/
def setSectionModesOwner (a : Mode × Mode) (s : State) : Verdict :=
  .accept (applySettings { s.sst.live.settings with trebleMode := a.1, bassMode := a.2 } s) []

/-- SET_SECTION_MODES (R34). -/
def setSectionModes (tag : Byte) (p : List Byte) (s : State) : State :=
  takeRequest 0x10 tag false (parseSectionModes p) setSectionModesOwner s

/-- The live transpose written (R35). -/
def State.setTransposeTo (s : State) (v : Int) : State := s.setSettings { s.sst.live.settings with transpose := v }

/-- SET_TRANSPOSE (R35). -/
def setTranspose (tag : Byte) (p : List Byte) (s : State) : State :=
  takeRequest 0x11 tag false (parseOne (signedField (-24) 24) p) (fun v s => .accept (s.setTransposeTo v) []) s

/-! ## Override definitions (R58) -/

/-- Load Override, accepted (R58). -/
def loadOverrideOwner (a : Fin 4 × OverrideDef) (s : State) : Verdict :=
  .accept (s.setSst { s.sst with overrides := put s.sst.overrides a.1 a.2 }) []

/-- LOAD_OVERRIDE (R58). -/
def loadOverride (tag : Byte) (p : List Byte) (s : State) : State :=
  takeRequest 0x1E tag false (parseLoadOverride p) loadOverrideOwner s

/-! ## The commands -/

/-- BEGIN_SCENE: the command. -/
def execBeginScene (tag : Byte) (p : List Byte) (s : State) : Host.Outcome State Fault Refusal :=
  .next (beginScene tag p s)

/-- LOAD_LAYER: the command. -/
def execLoadLayer (tag : Byte) (p : List Byte) (s : State) : Host.Outcome State Fault Refusal :=
  .next (loadLayer tag p s)

/-- SET_SCENE_DEFAULTS: the command. -/
def execSetSceneDefaults (tag : Byte) (p : List Byte) (s : State) : Host.Outcome State Fault Refusal :=
  .next (setSceneDefaults tag p s)

/-- FINISH_SCENE: the command. -/
def execFinishScene (tag : Byte) (p : List Byte) (s : State) : Host.Outcome State Fault Refusal :=
  .next (finishScene tag p s)

/-- ERASE_SCENE: the command. -/
def execEraseScene (tag : Byte) (p : List Byte) (s : State) : Host.Outcome State Fault Refusal :=
  .next (eraseScene tag p s)

/-- TAKE_SCENE: the command. -/
def execTakeScene (tag : Byte) (p : List Byte) (s : State) : Host.Outcome State Fault Refusal :=
  .next (takeScene tag p s)

/-- ARM_CUE: the command. -/
def execArmCue (tag : Byte) (p : List Byte) (s : State) : Host.Outcome State Fault Refusal :=
  .next (armCue tag p s)

/-- CANCEL_CUE: the command. -/
def execCancelCue (tag : Byte) (p : List Byte) (s : State) : Host.Outcome State Fault Refusal :=
  .next (cancelCue tag p s)

/-- FIRE_CUE: the command. -/
def execFireCue (tag : Byte) (p : List Byte) (s : State) : Host.Outcome State Fault Refusal :=
  .next (fireCue tag p s)

/-- CUE_LINE_RISE: the command. -/
def execCueLineRise (s : State) : Host.Outcome State Fault Refusal := .next (cueLineRise s)

/-- CUE_LINE_FALL: the command. -/
def execCueLineFall (s : State) : Host.Outcome State Fault Refusal := .next (cueLineFall s)

/-- CUE_QUALIFICATION_EXPIRY: the command. -/
def execCueQualificationExpiry (s : State) : Host.Outcome State Fault Refusal := .next (cueQualificationExpiry s)

/-- SELECT_REGISTER: the command. -/
def execSelectRegister (tag : Byte) (p : List Byte) (s : State) : Host.Outcome State Fault Refusal :=
  .next (selectRegister tag p s)

/-- SET_SECTION_MODES: the command. -/
def execSetSectionModes (tag : Byte) (p : List Byte) (s : State) : Host.Outcome State Fault Refusal :=
  .next (setSectionModes tag p s)

/-- SET_TRANSPOSE: the command. -/
def execSetTranspose (tag : Byte) (p : List Byte) (s : State) : Host.Outcome State Fault Refusal :=
  .next (setTranspose tag p s)

/-- LOAD_OVERRIDE: the command. -/
def execLoadOverride (tag : Byte) (p : List Byte) (s : State) : Host.Outcome State Fault Refusal :=
  .next (loadOverride tag p s)

end Sys2Proof.Machine
end

