-- ==== Sys2Proof/Machine/Overrides.lean ====
section
/-! DEFINITION. The Override Stack: switch pushes and releases (R126 to R128), restore (R129, R130), and the host's
Push Override and Pop Override (R131, R132). The stack is held top entry first. -/

namespace Sys2Proof.Machine

/-! ## Push (R126, R127) -/

/-- The tag is on the stack. -/
def State.hasTag (s : State) (tag : Fin 8) : Bool := s.stack.any fun e => e.tag == tag

/-- The definition's target is keep or a VALID scene (R126 test 3, R131 condition 3). -/
def State.targetUsable (s : State) (d : OverrideDef) : Bool :=
  match d.target with
  | some n => s.sceneValid n
  | none => true

/-- The settings with each field of a definition that is not keep written (R127 step 3). -/
def OverrideDef.over (d : OverrideDef) (t : Settings) : Settings :=
  { t with
    trebleReg := d.trebleReg.getD t.trebleReg, bassReg := d.bassReg.getD t.bassReg,
    trebleMode := d.trebleMode.getD t.trebleMode, bassMode := d.bassMode.getD t.bassMode }

/-- A push carried out: the context is saved, then scene, registers and modes, and transpose are applied (R127). -/
def pushEntry (tag : Fin 8) (d : OverrideDef) (s : State) : State :=
  let entry : StackEntry :=
    { tag := tag, released := false, sceneReplaced := d.target.isSome, origin := s.sst.live.origin,
      saved := s.sst.live.settings }
  let s := s.setStack (entry :: s.stack)
  let s := match d.target with
    | some n => transfer n layersAndMap true s
    | none => s
  let s := applySettings (d.over s.sst.live.settings) s
  s.setTransposeTo (clampInt (s.sst.live.settings.transpose + d.delta) (-24) 24)

/-- The released flag of the entry with a tag written. -/
def State.markReleased (s : State) (tag : Fin 8) (b : Bool) : State :=
  s.setStack (s.stack.map fun e => if e.tag = tag then { e with released := b } else e)

/-- A switch push of tag n (R126). -/
def switchPush (n : Fin 4) (s : State) : State :=
  let tag : Fin 8 := ⟨n.val, by omega⟩
  if s.hasTag tag then s.markReleased tag false
  else if 4 ≤ s.stack.length then s.raise (.override .full tag)
  else
    let d := s.sst.overrides[n]
    if s.targetUsable d then pushEntry tag d s else s.raise (.override .pushFailed tag)

/-! ## Pop, cascade and restore (R128 to R130) -/

/-- How a restore came out (R132). -/
inductive RestoreOutcome | restored | fellBack | halted
  deriving DecidableEq, Repr

/-- 0 = restored, 1 = fell back to scene 0, 2 = the part halted (R132). -/
def RestoreOutcome.code : RestoreOutcome → Nat
  | .restored => 0
  | .fellBack => 1
  | .halted => 2

/-- The saved origin of the deepest popped entry, if it is a VALID scene (R129). -/
def State.usableOrigin (s : State) (deepest : StackEntry) : Option SceneNo :=
  match deepest.origin with
  | some n => if s.sceneValid n then some n else none
  | none => none

/-- The restore of registers, modes and transpose (R130). -/
def restoreSettings (deepest : StackEntry) (s : State) : State :=
  let s := applySettings { deepest.saved with transpose := s.sst.live.settings.transpose } s
  s.setTransposeTo deepest.saved.transpose

/-- The restore after a popped run that `first` began, with its deepest entry; `replaced` says whether an entry of
the run replaced the scene (R129, R130). -/
def restoreContext (first deepest : StackEntry) (replaced : Bool) (s : State) : State × RestoreOutcome :=
  if replaced then
    match s.usableOrigin deepest with
    | some n => (restoreSettings deepest (transfer n layersAndMap true s), .restored)
    | none =>
      let s := s.raise (.override .fallback first.tag)
      if s.sceneValid 0 then (restoreSettings deepest (transfer 0 layersAndMap true s), .fellBack)
      else (haltPart s, .halted)
  else (restoreSettings deepest s, .restored)

/-- The top entry is popped with the cascade, and the restore follows: the state, the number of entries popped and
the outcome (R128, R132). -/
def popTop (first : StackEntry) (below : List StackEntry) (s : State) : State × Nat × RestoreOutcome :=
  let run := first :: below.takeWhile fun e => e.released
  let s := s.setStack (below.dropWhile fun e => e.released)
  let r := restoreContext first (run.getLast (List.cons_ne_nil _ _)) (run.any fun e => e.sceneReplaced) s
  (r.1, run.length, r.2)

/-- A switch release of tag n (R128). -/
def switchRelease (n : Fin 4) (s : State) : State :=
  let tag : Fin 8 := ⟨n.val, by omega⟩
  match s.stack with
  | [] => s
  | top :: below =>
    if top.tag = tag then (popTop top below s).1
    else if s.hasTag tag then s.markReleased tag true
    else s

/-! ## Host overrides (R131, R132) -/

/-- Push Override: DUPLICATE, then a full stack, then the target (R131). -/
def pushOverrideOwner (a : Fin 8 × OverrideDef) (s : State) : Verdict :=
  if s.hasTag a.1 then .refuse .duplicate
  else if 4 ≤ s.stack.length then .refuse .wrongState
  else if s.targetUsable a.2 then
    let s := pushEntry a.1 a.2 s
    .accept s [byte s.stack.length]
  else .refuse .wrongState

/-- PUSH_OVERRIDE (R131). -/
def pushOverride (tag : Byte) (p : List Byte) (s : State) : State :=
  takeRequest 0x28 tag false (parsePushOverride p) pushOverrideOwner s

/-- Pop Override (R132). -/
def popOverrideOwner (tag : Fin 8) (s : State) : Verdict :=
  match s.stack with
  | [] => .refuse .tagMismatch
  | top :: below =>
    if top.tag = tag then
      let r := popTop top below s
      .accept r.1 [byte r.2.1, byte r.2.2.code]
    else .refuse .tagMismatch

/-- POP_OVERRIDE (R132). -/
def popOverride (tag : Byte) (p : List Byte) (s : State) : State :=
  takeRequest 0x29 tag false (parseOne (field 8) p) popOverrideOwner s

/-- PUSH_OVERRIDE: the command. -/
def execPushOverride (tag : Byte) (p : List Byte) (s : State) : Host.Outcome State Fault Refusal :=
  .next (pushOverride tag p s)

/-- POP_OVERRIDE: the command. -/
def execPopOverride (tag : Byte) (p : List Byte) (s : State) : Host.Outcome State Fault Refusal :=
  .next (popOverride tag p s)

end Sys2Proof.Machine
end

