-- ==== Sys2Proof/Machine/Bellows.lean ====
section
/-! DEFINITION. The Bellows Front End: the six stages of a sample arrival (R87 to R97), the sensor's faults (R98 to
R100), and Set Bellows (R102). -/

namespace Sys2Proof.Machine

/-! ## Stage 1, the sensor checks (R98 to R100) -/

/-- A rail sample (R98). -/
def isRail (r : Int) : Bool := r == -32768 || r == 32767

/-- The rail fault flag and its counters at an arrival (R98). -/
def railStep (rail : Bool) (b : Bellows) : Bellows :=
  if b.railFault then
    if rail then { b with clearRun := 0 }
    else if b.clearRun + 1 = 64 then { b with railFault := false, clearRun := 0 }
    else { b with clearRun := b.clearRun + 1 }
  else if rail then
    if b.railRun + 1 = 64 then { b with railFault := true, railRun := 0 }
    else { b with railRun := b.railRun + 1 }
  else { b with railRun := 0 }

/-- Stage 1: the loss timer restarts, the loss is cleared, the rail counters take the sample; the partly received
word is gone, as its completion is this arrival (R87, R98, R99). -/
def sensorStage (r : Int) (b : Bellows) : Bellows :=
  railStep (isRail r) { b with lossTimer := some 0, lost := false, partialWord := [] }

/-- SENSOR is raised when the sensor state differs from the one before (R100). -/
def raiseSensor (before : SensorState) (s : State) : State :=
  if s.bfe.sensor = before then s else s.raise (.sensor s.bfe.sensor)

/-! ## Stages 2 to 4: correction, class, tracking (R88 to R91) -/

/-- The corrected sample c (R88). -/
def correct (o r : Int) : Int := clampInt (r - o) (-32768) 32767

/-- The class of a corrected sample (R89). -/
def classify (ts : Nat) (c : Int) : SampleClass :=
  if c > ts then .push else if c < -(ts : Int) then .pull else .still

/-- The magnitude m (R89). -/
def magnitude (c : Int) : Nat := min c.natAbs 32767

/-- Stage 4, tracking, for a sensor that is OK (R91). -/
def track (held : Nat) (c : Int) (cls : SampleClass) (b : Bellows) : Bellows :=
  if b.settings.mode = .track ∧ cls = .still ∧ held = 0 then
    { b with acc := clampInt (b.acc + c * b.settings.speed.factor) (-8388608) 8388352 }
  else b

/-! ## Stage 5, direction and hold (R92 to R95) -/

/-- What stage 5 decides of a sample. -/
inductive Judgement | held | processed | reversal
  deriving DecidableEq, Repr

/-- A sample of the class of BD (R93). -/
def judgeSame (b : Bellows) : Bellows × Judgement := ({ b with run := 0, holdLeft := 0 }, .processed)

/-- A STILL sample (R94). -/
def judgeStill (b : Bellows) : Bellows × Judgement :=
  let h := if b.lastClass ≠ .still ∧ b.settings.hold > 0 then b.settings.hold else b.holdLeft
  if h > 0 then ({ b with run := 0, holdLeft := h - 1 }, .held) else ({ b with run := 0, holdLeft := h }, .processed)

/-- A sample of the class opposite to BD (R95). -/
def judgeOpposite (b : Bellows) : Bellows × Judgement :=
  if b.run + 1 < b.settings.confirm then ({ b with run := b.run + 1 }, .held)
  else ({ b with bd := b.bd.opposite, run := 0, holdLeft := 0 }, .reversal)

/-- Stage 5: one of the three cases, and the class becomes the last class (R92). -/
def judge (cls : SampleClass) (b : Bellows) : Bellows × Judgement :=
  let j := if cls = .still then judgeStill b else if cls = b.bd.asClass then judgeSame b else judgeOpposite b
  ({ j.1 with lastClass := cls }, j.2)

/-! ## Stage 6, the hand-off (R96, R97) -/

/-- The reversal handed on: Scene Store, Voice Table, Notice Unit (R96 steps 1 to 3). -/
def handReversal (s : State) : State :=
  let s := triggerCue .reversal s
  let s := reversalReexpand s
  s.raise (.reversal s.bfe.bd)

/-- The hand-off of a judged sample of magnitude m (R96, R97). -/
def handOff (j : Judgement) (m : Nat) (s : State) : State :=
  match j with
  | .held => s
  | .processed => processSample m s
  | .reversal => processSample m (handReversal s)

/-- Stages 2 to 6 of a sample r taken with the sensor OK (R88 to R97). -/
def takeSample (r : Int) (s : State) : State :=
  let c := correct s.bfe.offset r
  let cls := classify s.bfe.settings.still c
  let j := judge cls (track s.bsc.held c cls s.bfe)
  handOff j.2 (magnitude c) (s.setBfe j.1)

/-- SAMPLE_ARRIVAL: a sample word completes (R87). A sample that leaves the sensor faulted ends at stage 1 (R100). -/
def sampleArrival (w : BitVec 16) (s : State) : State :=
  let before := s.bfe.sensor
  let s := raiseSensor before (s.setBfe (sensorStage w.toInt s.bfe))
  let s := if s.bfe.sensor = .ok then takeSample w.toInt s else s
  s.arbitrate

/-- STREAM_LOSS_TIMEOUT: the stream is lost, the timer stays stopped, and the change of sensor state raises SENSOR
(R99, R100). Before the timer has run for 20 ms the event does not occur and changes nothing (log entry 4). -/
def streamLossTimeout (s : State) : State :=
  if s.bfe.lossDue then
    (raiseSensor s.bfe.sensor (s.setBfe { s.bfe with lost := true, lossTimer := none })).arbitrate
  else s

/-! ## Set Bellows (R102) -/

/-- Set Bellows, accepted (R102). -/
def setBellowsOwner (t : BellowsSettings) (s : State) : Verdict :=
  .accept (s.setBfe { s.bfe with
    settings := t, acc := if t.mode = .fixed then t.fixedOffset * 256 else s.bfe.acc, run := 0, holdLeft := 0 }) []

/-- SET_BELLOWS (R102). -/
def setBellows (tag : Byte) (p : List Byte) (s : State) : State :=
  takeRequest 0x22 tag false (parseSetBellows p) setBellowsOwner s

/-- SAMPLE_ARRIVAL: the command. -/
def execSampleArrival (r : BitVec 16) (s : State) : Host.Outcome State Fault Refusal := .next (sampleArrival r s)

/-- STREAM_LOSS_TIMEOUT: the command. -/
def execStreamLossTimeout (s : State) : Host.Outcome State Fault Refusal := .next (streamLossTimeout s)

/-- SET_BELLOWS: the command. -/
def execSetBellows (tag : Byte) (p : List Byte) (s : State) : Host.Outcome State Fault Refusal :=
  .next (setBellows tag p s)

end Sys2Proof.Machine
end

