-- ==== Sys2Proof/Machine/Scan.lean ====
section
/-! DEFINITION. The Button Scanner: the scan pass and its debounce (R1, R2), the hand-on of confirmed changes and
their routing (R3, R5 to R12), and its three requests (R13, R15, R16). -/

namespace Sys2Proof.Machine

/-! ## Debounce (R2) -/

/-- One crosspoint in a pass: its reading against its debounced state, with depth D (R2). -/
def debounce (depth : Nat) (reading : Bool) (b : Button) : Button :=
  if reading = b.pressed then { b with count := 0 }
  else if b.count + 1 = depth then { pressed := reading, count := 0 }
  else { b with count := b.count + 1 }

/-- Every crosspoint in a pass (R1, R2). -/
def debounceAll (depth : Nat) (readings : Readings) (buttons : Vector Button 256) : Vector Button 256 :=
  tabulate fun x => debounce depth (readings.getLsbD x.val) buttons[x]

/-- The crosspoints, ascending, whose debounced state has become `pressed` between two tables (R2, R3). -/
def confirmed (pressed : Bool) (before after : Vector Button 256) : List Crosspoint :=
  allCrosspoints.filter fun x => before[x].pressed != pressed && after[x].pressed == pressed

/-! ## Routing of one confirmed change (R5 to R12) -/

/-- The held count after a change of a crosspoint (R5). -/
def countHeld (x : Crosspoint) (press : Bool) (s : State) : State :=
  if s.bsc.roles[x].plays then
    s.setBsc { s.bsc with held := if press then s.bsc.held + 1 else s.bsc.held - 1 }
  else s

/-- A change of an OVERRIDE n crosspoint: the occupancy of group n moves, and a move between 0 and 1 is routed
while the part is PLAYING (R8, R11). -/
def routeOverride (n : Fin 4) (press : Bool) (s : State) : State :=
  let before := s.bsc.groupOcc[n]
  let after := if press then before + 1 else before - 1
  let s := s.setBsc { s.bsc with groupOcc := put s.bsc.groupOcc n after }
  if s.isHalted then s
  else if press then (if before = 0 then switchPush n s else s)
  else if before = 1 then switchRelease n s else s

/-- A change of a HUSH crosspoint: the occupancy of the hush group moves, and a move between 0 and 1 is routed while
the part is PLAYING (R9, R11). -/
def routeHush (press : Bool) (s : State) : State :=
  let before := s.bsc.hushOcc
  let after := if press then before + 1 else before - 1
  let s := s.setBsc { s.bsc with hushOcc := after }
  if s.isHalted then s
  else if press then (if before = 0 then hushPart s else s)
  else if before = 1 then unhushPart s else s

/-- A change routed by the crosspoint's role as it stands (R6 to R11). -/
def routeChange (x : Crosspoint) (press : Bool) (s : State) : State :=
  match s.bsc.roles[x] with
  | .none => s
  | .override n => routeOverride n press s
  | .hush => routeHush press s
  | .treble _ => if s.isHalted then s else if press then pressKey s x else releaseKey s x
  | .bass _ _ => if s.isHalted then s else if press then pressKey s x else releaseKey s x
  | .trebleRegister n => if press && !s.isHalted then selectRegisterIn .treble n s else s
  | .bassRegister n => if press && !s.isHalted then selectRegisterIn .bass n s else s
  | .cue => if press && !s.isHalted then triggerCue .cueButton s else s

/-- One confirmed change handed on: held count, routing, BUTTON (R3, R12). -/
def handOn (press : Bool) (s : State) (x : Crosspoint) : State :=
  (routeChange x press (countHeld x press s)).raise (.button x press)

/-- One scan pass: every crosspoint is debounced, then the releases and then the presses are handed on in ascending
order; the pass timer restarts (R1 to R3). DEDUCED (log entry 8): the held count and the occupancies move with each
change handed on. -/
def takePass (readings : Readings) (s : State) : State :=
  let before := s.bsc.buttons
  let after := debounceAll s.bsc.depth readings before
  let s := s.setBsc { s.bsc with buttons := after, passTimer := some 0 }
  let s := (confirmed false before after).foldl (handOn false) s
  ((confirmed true before after).foldl (handOn true) s).arbitrate

/-- SCAN_PASS: the pass timer expires and a pass is taken (R1). Before the timer has run for one scan interval since it
was last started, as right after a Set Scan (R15), the event does not occur and changes nothing (log entry 4). -/
def scanPass (readings : Readings) (s : State) : State := if s.bsc.passDue then takePass readings s else s

/-! ## Requests -/

/-- Every debounce count set to 0 (R15, R18). -/
def clearCounts (buttons : Vector Button 256) : Vector Button 256 :=
  tabulate fun x => { buttons[x] with count := 0 }

/-- Load Roles (R13). -/
def loadRolesOwner (es : List (Crosspoint × Role)) (s : State) : Verdict :=
  if es.any fun e => s.bsc.buttons[e.1].pressed then .refuse .wrongState
  else .accept (s.setBsc { s.bsc with roles := es.foldl (fun t e => put t e.1 e.2) s.bsc.roles }) []

/-- LOAD_ROLES (R13). -/
def loadRoles (tag : Byte) (p : List Byte) (s : State) : State :=
  takeRequest 0x09 tag false (parseLoadRoles p) loadRolesOwner s

/-- Set Scan, accepted (R15). -/
def setScanOwner (a : Nat × Nat) (s : State) : Verdict :=
  .accept (s.setBsc { s.bsc with
    interval := a.1, depth := a.2, buttons := clearCounts s.bsc.buttons, passTimer := some 0 }) []

/-- SET_SCAN (R15). -/
def setScan (tag : Byte) (p : List Byte) (s : State) : State :=
  takeRequest 0x08 tag false (parseSetScan p) setScanOwner s

/-- The reply data of Read Buttons from a first crosspoint (R16). -/
def State.buttonReport (s : State) (first : Crosspoint) : List Byte :=
  let found := allCrosspoints.filter fun x => first ≤ x && s.bsc.buttons[x].pressed
  let listed := found.take 64
  bytes16 s.bsc.held ++
    [byte s.bsc.interval, byte s.bsc.depth, byteOfBool (64 < found.length), byte listed.length] ++
    listed.map fun x => byte x.val

/-- READ_BUTTONS (R16). -/
def readButtons (tag : Byte) (p : List Byte) (s : State) : State :=
  takeRequest 0x0A tag true (parseOne (field 256) p) (fun first s => .accept s (s.buttonReport first)) s

/-- SCAN_PASS: the command. -/
def execScanPass (readings : Readings) (s : State) : Host.Outcome State Fault Refusal := .next (scanPass readings s)

/-- LOAD_ROLES: the command. -/
def execLoadRoles (tag : Byte) (p : List Byte) (s : State) : Host.Outcome State Fault Refusal :=
  .next (loadRoles tag p s)

/-- SET_SCAN: the command. -/
def execSetScan (tag : Byte) (p : List Byte) (s : State) : Host.Outcome State Fault Refusal :=
  .next (setScan tag p s)

/-- READ_BUTTONS: the command. -/
def execReadButtons (tag : Byte) (p : List Byte) (s : State) : Host.Outcome State Fault Refusal :=
  .next (readButtons tag p s)

end Sys2Proof.Machine
end

