-- ==== Sys2Proof/Machine/Meter.lean ====
section
/-! DEFINITION. The meter and the notice mask: snapshots (R188 to R190), Set Meter (R187), Set Notice Mask (R185). -/

namespace Sys2Proof.Machine

/-- The number of SOUNDING voices (R189, VOICES). -/
def State.soundingCount (s : State) : Nat :=
  (allSlots.filter fun v => s.vtb.voices[v].state == .sounding).length

/-- The sum of the owed-set sizes over all voices (R189, OWED). -/
def State.owedCount (s : State) : Nat := (allSlots.map fun v => LaneSet.size s.vtb.voices[v].owed).sum

/-- The value of a meter item, one byte or two (R189). -/
def State.itemValue (s : State) (i : MeterItem) : List Byte :=
  match i with
  | 0 => bytes16 s.dyn.level.val
  | 1 => [byte (tierOf s.dyn.level).val]
  | 2 => [byte s.tierCode.val]
  | 3 => [byte s.dyn.expr.val]
  | 4 => bytes16 s.dyn.average
  | 5 => bytes16s s.bfe.offset
  | 6 => [byte (s.bfe.bd.code + if s.bfe.sensor = .ok then 0 else 2)]
  | 7 => [byte s.soundingCount]
  | 8 => [byte s.owedCount]
  | 9 => bytes16 s.bsc.held

/-- A snapshot of the item list: a count, then code and value of each item (R189). -/
def State.snapshot (s : State) : List Byte :=
  byte s.ntu.items.length :: s.ntu.items.flatMap fun i => byte i.val :: s.itemValue i

/-- METER_EXPIRY: the timer restarts, a snapshot is taken and METER raised (R188). Before the timer has run for
I ms the event does not occur and changes nothing (log entry 4). -/
def meterExpiry (s : State) : State :=
  if s.ntu.meterDue then
    let s := s.setNtu { s.ntu with meterTimer := some 0 }
    (s.raise (.meter s.snapshot)).arbitrate
  else s

/-- The meter timer started from zero, or stopped when the interval is 0 (R187, R191). -/
def meterStart (interval : Nat) : Timer := if interval = 0 then none else some 0

/-- Set Meter, accepted (R187). -/
def setMeterOwner (a : Nat × List MeterItem) (s : State) : Verdict :=
  .accept (s.setNtu { s.ntu with interval := a.1, items := a.2, meterTimer := meterStart a.1 }) []

/-- SET_METER (R187). -/
def setMeter (tag : Byte) (p : List Byte) (s : State) : State :=
  takeRequest 0x05 tag false (parseSetMeter p) setMeterOwner s

/-- READ_METER (R190). -/
def readMeter (tag : Byte) (p : List Byte) (s : State) : State :=
  takeRequest 0x06 tag true (parseEmpty p) (fun _ s => .accept s s.snapshot) s

/-- Set Notice Mask, accepted: the reply carries the mask as stored (R185). -/
def setNoticeMaskOwner (m : BitVec 16) (s : State) : Verdict :=
  .accept (s.setNtu { s.ntu with mask := m }) (bytes16 m.toNat)

/-- SET_NOTICE_MASK (R185). -/
def setNoticeMask (tag : Byte) (p : List Byte) (s : State) : State :=
  takeRequest 0x04 tag false (parseNoticeMask p) setNoticeMaskOwner s

/-- METER_EXPIRY: the command. -/
def execMeterExpiry (s : State) : Host.Outcome State Fault Refusal := .next (meterExpiry s)

/-- SET_METER: the command. -/
def execSetMeter (tag : Byte) (p : List Byte) (s : State) : Host.Outcome State Fault Refusal :=
  .next (setMeter tag p s)

/-- READ_METER: the command. -/
def execReadMeter (tag : Byte) (p : List Byte) (s : State) : Host.Outcome State Fault Refusal :=
  .next (readMeter tag p s)

/-- SET_NOTICE_MASK: the command. -/
def execSetNoticeMask (tag : Byte) (p : List Byte) (s : State) : Host.Outcome State Fault Refusal :=
  .next (setNoticeMask tag p s)

end Sys2Proof.Machine
end

