-- ==== Sys2Proof/Machine/System.lean ====
section
/-! DEFINITION. The part as a whole: power-on and the RESET pin (R17, R36, R45, R55, R85, R104, R123, R141, R163,
R181, R186, R191), Get Identity (R175), Get Status (R177, R178) and Restart (R179, R180). -/

namespace Sys2Proof.Machine

/-! ## Power-on and the RESET pin -/

/-- A lane after power-on, with the level its ready pin has (R163). -/
def Lane.resetKeepingPin (l : Lane) : Lane := { Lane.powerOn with ready := l.ready }

/-- The detector when reset ends: WAIT_FALL if the CUE line is high, WAIT_RISE otherwise (R55). -/
def detectorAtReset (cuePin : Bool) : Detector := if cuePin then .waitFall else .waitRise

/-- POWER_ON_RESET: every field at its power-on value; the levels of the pins, the commands that wait and the
model's own counter stay as they are. IDENTITY is chosen at once by the idle output (R176, R181). -/
def powerOnReset (s : State) : State :=
  { State.reset with
    sst := { State.reset.sst with detector := detectorAtReset s.sst.cuePin, cuePin := s.sst.cuePin }
    lanes := tabulate fun n => s.lanes[n].resetKeepingPin
    pending := s.pending, freeDraws := s.freeDraws }

/-! ## Get Identity (R175) -/

/-- GET_IDENTITY (R175). -/
def getIdentity (tag : Byte) (p : List Byte) (s : State) : State :=
  takeRequest 0x01 tag true (parseEmpty p) (fun _ s => .accept s (identityRecord s.mlk.cause)) s

/-! ## Get Status (R177, R178) -/

/-- The four entry blocks of the override stack, bottom entry first; absent positions read 0xFF and 0 (R177). -/
def stackBlocks (stack : List StackEntry) : List Byte :=
  let used := stack.reverse.flatMap fun e => [byte e.tag.val, byteOfBool e.released]
  used ++ (List.replicate (4 - stack.length) [0xFF, 0]).flatten

/-- The armed cue in four bytes, all 0 when none is armed (R177). -/
def cueBlock : Option Cue → List Byte
  | some c => [1, byte c.target.val, byte c.triggers.toNat, byte c.items.toNat]
  | none => [0, 0, 0, 0]

/-- The three bytes of a lane: state, occupancy, owed count (R177). -/
def Lane.statusBlock (l : Lane) : List Byte := [byte l.state.code, byte l.occupancy, byte l.owed.length]

/-- The reply data of Get Status (R177). -/
def State.statusReport (s : State) : List Byte :=
  [byte s.slc.part.code, byteOfBool s.slc.enable, byteOfBool s.slc.shadow, byte s.stack.length]
    ++ stackBlocks s.stack
    ++ cueBlock s.sst.armed
    ++ (allLanes.flatMap fun n => s.lanes[n].statusBlock)
    ++ [byte s.slc.pending.toNat, byte s.bfe.sensor.code, byte s.mlk.badFrames, byte s.mlk.discards,
        byte s.ntu.pendingKinds.length]
    ++ s.ntu.pendingKinds.map fun k => byte (0x60 + k.val)

/-- Both link counts set to 0 (R178, R180 step 9). -/
def State.clearLinkCounts (s : State) : State := s.setMlk { s.mlk with badFrames := 0, discards := 0 }

/-- GET_STATUS (R177, R178). -/
def getStatus (tag : Byte) (p : List Byte) (s : State) : State :=
  takeRequest 0x02 tag true (parseEmpty p) (fun _ s => .accept s.clearLinkCounts s.statusReport) s

/-! ## Restart (R179, R180) -/

/-- The Button Scanner at RESTART: every debounce count 0 (R18). -/
def restartScanner (b : Scanner) : Scanner := { b with buttons := clearCounts b.buttons }

/-- The Voice Table at RESTART: every slot FREE with empty holders and sets, every voiced-as entry NONE; the start
sequence counter is kept (R86). -/
def restartVoices (t : VoiceTable) : VoiceTable :=
  { t with
    voices := tabulate fun v => { t.voices[v] with state := .free, holders := [], lanes := 0, owed := 0 }
    voicedAs := Vector.replicate 256 none }

/-- The Bellows Front End at RESTART (R105, R87). -/
def restartBellows (b : Bellows) : Bellows :=
  { acc := if b.settings.mode = .fixed then b.settings.fixedOffset * 256 else 0
    bd := .push, run := 0, holdLeft := 0, lastClass := .still, railFault := false, railRun := 0, clearRun := 0,
    lost := false, lossTimer := some 0, partialWord := [], settings := b.settings }

/-- The Dynamics Unit at RESTART under a tier map (R124). -/
def restartDynamics (map : Vector TierCode 8) (y : Dynamics) : Dynamics :=
  let level := clampLevel 16384 y.settings.floor y.settings.ceil
  { level := level, holdOffLeft := 0, winSum := 0, winPos := 0, average := 0, lastCode := some map[tierOf level],
    f16 := 0, expr := 0, lastSwell := Vector.replicate 4 0, settings := y.settings }

/-- One lane at RESTART: an OFF lane is unchanged, every other becomes LIVE with a Silence (R164). -/
def restartLane (s : State) (n : LaneNo) : State :=
  if s.lanes[n].state = .off then s else reviveLane s n

/-- Restart, accepted: the steps of R180 in order; the reply is placed after them (step 11). -/
def restartOwner (_ : Unit) (s : State) : Verdict :=
  let s := s.setBsc (restartScanner s.bsc)
  let s := s.setVtb (restartVoices s.vtb)
  let s := s.setBfe (restartBellows s.bfe)
  let s := s.setDyn (restartDynamics s.sst.live.tierMap s.dyn)
  let s := s.disarm
  let s := s.setStack []
  let s := s.setSlc { enable := true, shadow := true, part := .playing, pending := 0, stale := 0 }
  let s := allLanes.foldl restartLane s
  let s := s.setNtu { s.ntu with
    slots := Vector.replicate 13 none, meterTimer := meterStart s.ntu.interval }
  let s := s.clearLinkCounts
  let s := s.setMlk { s.mlk with cause := .restart }
  .accept (s.raise (.identity .restart)) []

/-- RESTART (R179, R180). -/
def restartPart (tag : Byte) (p : List Byte) (s : State) : State :=
  takeRequest 0x03 tag true (parseEmpty p) restartOwner s

/-- POWER_ON_RESET: the command. -/
def execPowerOnReset (s : State) : Host.Outcome State Fault Refusal := .next (powerOnReset s)

/-- GET_IDENTITY: the command. -/
def execGetIdentity (tag : Byte) (p : List Byte) (s : State) : Host.Outcome State Fault Refusal :=
  .next (getIdentity tag p s)

/-- GET_STATUS: the command. -/
def execGetStatus (tag : Byte) (p : List Byte) (s : State) : Host.Outcome State Fault Refusal :=
  .next (getStatus tag p s)

/-- RESTART: the command. -/
def execRestart (tag : Byte) (p : List Byte) (s : State) : Host.Outcome State Fault Refusal :=
  .next (restartPart tag p s)

end Sys2Proof.Machine
end

