-- ==== Sys2Proof/Machine/LinkEvents.lean ====
section
/-! DEFINITION. The Message Link's own events: the receiver byte by byte (R166, R167), a good frame of any kind
(R168 to R170), the gap timer (R167), and the completion of a frame on TXD (R173). -/

namespace Sys2Proof.Machine

/-! ## A good frame of any kind (R168, R169) -/

/-- A good frame of an unknown kind: discarded while the reply slot is occupied, otherwise answered UNKNOWN_KIND
(R168, R169 check 1, R170). -/
def takeUnknown (kind tag : Byte) (s : State) : State :=
  let s := s.rxDone
  if s.mlk.reply.isSome then s.discardFrame else s.answer kind tag (.refuse .unknownKind)

/-- A good frame completes its check (R166, R168): the request its kind names, or an unknown kind. The other
commands are spelled by no good frame. -/
def takeFrame (kind tag : Byte) (payload : List Byte) (s : State) : State :=
  match requestOfFrame kind tag payload with
  | .getIdentity t p => getIdentity t p s
  | .getStatus t p => getStatus t p s
  | .restart t p => restartPart t p s
  | .setNoticeMask t p => setNoticeMask t p s
  | .setMeter t p => setMeter t p s
  | .readMeter t p => readMeter t p s
  | .setScan t p => setScan t p s
  | .loadRoles t p => loadRoles t p s
  | .readButtons t p => readButtons t p s
  | .loadTreblePitches t p => loadTreblePitches t p s
  | .loadBassRoots t p => loadBassRoots t p s
  | .loadChordForm t p => loadChordForm t p s
  | .setRowForms t p => setRowForms t p s
  | .setSectionModes t p => setSectionModes t p s
  | .setTranspose t p => setTranspose t p s
  | .beginScene t p => beginScene t p s
  | .loadLayer t p => loadLayer t p s
  | .setSceneDefaults t p => setSceneDefaults t p s
  | .finishScene t p => finishScene t p s
  | .eraseScene t p => eraseScene t p s
  | .armCue t p => armCue t p s
  | .cancelCue t p => cancelCue t p s
  | .fireCue t p => fireCue t p s
  | .takeScene t p => takeScene t p s
  | .selectRegister t p => selectRegister t p s
  | .loadOverride t p => loadOverride t p s
  | .readVoices t p => readVoices t p s
  | .setBellows t p => setBellows t p s
  | .setDynamics t p => setDynamics t p s
  | .setExpression t p => setExpression t p s
  | .loadTierMap t p => loadTierMap t p s
  | .setLevel t p => setLevel t p s
  | .pushOverride t p => pushOverride t p s
  | .popOverride t p => popOverride t p s
  | .mute t p => mute t p s
  | .unmute t p => unmute t p s
  | .hush t p => hush t p s
  | .unhush t p => unhush t p s
  | .panic t p => panic t p s
  | .setLane t p => setLaneRequest t p s
  | .resetLane t p => resetLane t p s
  | .readLanes t p => readLanes t p s
  | .unknownKindRequest k t _ => takeUnknown k t s
  | _ => s

/-! ## The receiver (R166, R167) -/

/-- A frame is dropped: the bad-frame count rises, up to 255, the receiver returns to HUNT and the gap timer stops
(R167). -/
def dropFrame (s : State) : State :=
  s.setMlk { s.mlk with
      rx := .hunt, buffer := [], gapTimer := none, badFrames := min 255 (s.mlk.badFrames + 1) }

/-- The receiver in a new state with a new buffer, its gap timer restarted (R166). -/
def State.rxTo (s : State) (rx : RxState) (buffer : List Byte) : State :=
  s.setMlk { s.mlk with rx := rx, buffer := buffer, gapTimer := some 0 }

/-- A good body: its first byte is the kind, its second the tag, the rest the payload (R165). -/
def takeBody (body : List Byte) (s : State) : State :=
  match body with
  | kind :: tag :: payload => takeFrame kind tag payload s
  | _ => s

/-- One byte completes on RXD and is judged in the receiver's state (R166, R167). -/
def judgeByte (s : State) (b : RxByte) : State :=
  match s.mlk.rx with
  | .hunt => if b.stopBit ∧ b.value = 0xC3 then s.rxTo .length [] else s
  | .length =>
    if ¬ b.stopBit then dropFrame s
    else if 2 ≤ b.value.toNat ∧ b.value.toNat ≤ 250 then s.rxTo (.body b.value.toNat) []
    else dropFrame s
  | .body n =>
    if ¬ b.stopBit then dropFrame s
    else
      let buffer := s.mlk.buffer ++ [b.value]
      s.rxTo (if buffer.length < n then .body n else .check n) buffer
  | .check n =>
    if ¬ b.stopBit then dropFrame s
    else if byte n + byteSum s.mlk.buffer + b.value = 0 then takeBody s.mlk.buffer s.rxDone
    else dropFrame s

/-- One byte completes on RXD: the one that was in the middle of reception when the RESET pin was released is passed
over, whatever it holds, and the receiver starts in HUNT at the next (R181; log entry 18); any other is judged (R166). -/
def receiveByte (s : State) (b : RxByte) : State := if b.overReset then s else judgeByte s b

/-- RECEIVE_BAD_FRAME: these bytes complete on RXD, one by one (R166, R167). -/
def receiveBytes (bytes : List RxByte) (s : State) : State := bytes.foldl receiveByte s

/-- The gap timer expires in LENGTH, BODY or CHECK: the frame is dropped and counted; in HUNT the timer is stopped
and the event does not occur (R167, log entry 4). -/
def gapExpired (s : State) : State :=
  match s.mlk.rx with
  | .hunt => s
  | _ => dropFrame s

/-- GAP_TIMEOUT: these bytes complete on RXD, and the 2 ms after the last of them pass without another (R167). With no
bytes it is the expiry of the timer as it stands, which does not occur before the timer has run for 2 ms (log entries
3 and 4). -/
def gapTimeout (bytes : List RxByte) (s : State) : State :=
  if bytes.isEmpty && !s.mlk.gapDue then s else gapExpired (receiveBytes bytes s)

/-- FRAME_DISCARD: a good frame of any kind completes its check; the reply slot decides (R168). -/
def frameDiscard (kind tag : Byte) (payload : List Byte) (s : State) : State :=
  if s.mlk.reply.isSome then s.rxDone.discardFrame else takeFrame kind tag payload s

/-- UNKNOWN_KIND_REQUEST: a good frame whose kind is no request kind (R169). -/
def unknownKindRequest (kind tag : Byte) (payload : List Byte) (s : State) : State := takeFrame kind tag payload s

/-! ## The completion of a frame on TXD (R173) -/

/-- HOST_FRAME_COMPLETION: the frame's last byte has left; a reply empties the slot; the arbiter chooses again
(R168, R171, R173). With an idle output the event does not occur and changes nothing (log entry 4). -/
def hostFrameCompletion (s : State) : State :=
  match s.mlk.output with
  | .idle => s
  | .sendingReply _ => (s.setMlk { s.mlk with output := .idle, reply := none }).arbitrate
  | .sendingNotice _ => (s.setMlk { s.mlk with output := .idle }).arbitrate

/-! ## The commands -/

/-- RECEIVE_BAD_FRAME: the command. -/
def execReceiveBadFrame (bytes : List RxByte) (s : State) : Host.Outcome State Fault Refusal :=
  .next (receiveBytes bytes s)

/-- GAP_TIMEOUT: the command. -/
def execGapTimeout (bytes : List RxByte) (s : State) : Host.Outcome State Fault Refusal := .next (gapTimeout bytes s)

/-- FRAME_DISCARD: the command. -/
def execFrameDiscard (kind tag : Byte) (payload : List Byte) (s : State) : Host.Outcome State Fault Refusal :=
  .next (frameDiscard kind tag payload s)

/-- UNKNOWN_KIND_REQUEST: the command. -/
def execUnknownKindRequest (kind tag : Byte) (payload : List Byte) (s : State) : Host.Outcome State Fault Refusal :=
  .next (unknownKindRequest kind tag payload s)

/-- HOST_FRAME_COMPLETION: the command. -/
def execHostFrameCompletion (s : State) : Host.Outcome State Fault Refusal := .next (hostFrameCompletion s)

end Sys2Proof.Machine
end

