-- ==== Sys2Proof/Machine/Dispatch.lean ====
section
/-! DEFINITION. Which meaning each command has: one arm for each row of spec/opcode_table.json, in its order. -/

namespace Sys2Proof.Machine

/-- What a command does to everything but the queue of waiting commands. -/
def exec (i : Instr) (s : State) : Host.Outcome State Fault Refusal :=
  match i with
  | .powerOnReset => Sys2Proof.Machine.execPowerOnReset s
  | .scanPass readings => Sys2Proof.Machine.execScanPass readings s
  | .sampleArrival r => Sys2Proof.Machine.execSampleArrival r s
  | .streamLossTimeout => Sys2Proof.Machine.execStreamLossTimeout s
  | .cueLineRise => Sys2Proof.Machine.execCueLineRise s
  | .cueLineFall => Sys2Proof.Machine.execCueLineFall s
  | .cueQualificationExpiry => Sys2Proof.Machine.execCueQualificationExpiry s
  | .readyRise n => Sys2Proof.Machine.execReadyRise n s
  | .readyFall n => Sys2Proof.Machine.execReadyFall n s
  | .recordCompletion n => Sys2Proof.Machine.execRecordCompletion n s
  | .stallExpiry n => Sys2Proof.Machine.execStallExpiry n s
  | .meterExpiry => Sys2Proof.Machine.execMeterExpiry s
  | .receiveBadFrame bytes => Sys2Proof.Machine.execReceiveBadFrame bytes s
  | .gapTimeout bytes => Sys2Proof.Machine.execGapTimeout bytes s
  | .frameDiscard kind tag payload => Sys2Proof.Machine.execFrameDiscard kind tag payload s
  | .unknownKindRequest kind tag payload => Sys2Proof.Machine.execUnknownKindRequest kind tag payload s
  | .hostFrameCompletion => Sys2Proof.Machine.execHostFrameCompletion s
  | .getIdentity tag payload => Sys2Proof.Machine.execGetIdentity tag payload s
  | .getStatus tag payload => Sys2Proof.Machine.execGetStatus tag payload s
  | .restart tag payload => Sys2Proof.Machine.execRestart tag payload s
  | .setNoticeMask tag payload => Sys2Proof.Machine.execSetNoticeMask tag payload s
  | .setMeter tag payload => Sys2Proof.Machine.execSetMeter tag payload s
  | .readMeter tag payload => Sys2Proof.Machine.execReadMeter tag payload s
  | .setScan tag payload => Sys2Proof.Machine.execSetScan tag payload s
  | .loadRoles tag payload => Sys2Proof.Machine.execLoadRoles tag payload s
  | .readButtons tag payload => Sys2Proof.Machine.execReadButtons tag payload s
  | .loadTreblePitches tag payload => Sys2Proof.Machine.execLoadTreblePitches tag payload s
  | .loadBassRoots tag payload => Sys2Proof.Machine.execLoadBassRoots tag payload s
  | .loadChordForm tag payload => Sys2Proof.Machine.execLoadChordForm tag payload s
  | .setRowForms tag payload => Sys2Proof.Machine.execSetRowForms tag payload s
  | .setSectionModes tag payload => Sys2Proof.Machine.execSetSectionModes tag payload s
  | .setTranspose tag payload => Sys2Proof.Machine.execSetTranspose tag payload s
  | .beginScene tag payload => Sys2Proof.Machine.execBeginScene tag payload s
  | .loadLayer tag payload => Sys2Proof.Machine.execLoadLayer tag payload s
  | .setSceneDefaults tag payload => Sys2Proof.Machine.execSetSceneDefaults tag payload s
  | .finishScene tag payload => Sys2Proof.Machine.execFinishScene tag payload s
  | .eraseScene tag payload => Sys2Proof.Machine.execEraseScene tag payload s
  | .armCue tag payload => Sys2Proof.Machine.execArmCue tag payload s
  | .cancelCue tag payload => Sys2Proof.Machine.execCancelCue tag payload s
  | .fireCue tag payload => Sys2Proof.Machine.execFireCue tag payload s
  | .takeScene tag payload => Sys2Proof.Machine.execTakeScene tag payload s
  | .selectRegister tag payload => Sys2Proof.Machine.execSelectRegister tag payload s
  | .loadOverride tag payload => Sys2Proof.Machine.execLoadOverride tag payload s
  | .readVoices tag payload => Sys2Proof.Machine.execReadVoices tag payload s
  | .setBellows tag payload => Sys2Proof.Machine.execSetBellows tag payload s
  | .setDynamics tag payload => Sys2Proof.Machine.execSetDynamics tag payload s
  | .setExpression tag payload => Sys2Proof.Machine.execSetExpression tag payload s
  | .loadTierMap tag payload => Sys2Proof.Machine.execLoadTierMap tag payload s
  | .setLevel tag payload => Sys2Proof.Machine.execSetLevel tag payload s
  | .pushOverride tag payload => Sys2Proof.Machine.execPushOverride tag payload s
  | .popOverride tag payload => Sys2Proof.Machine.execPopOverride tag payload s
  | .mute tag payload => Sys2Proof.Machine.execMute tag payload s
  | .unmute tag payload => Sys2Proof.Machine.execUnmute tag payload s
  | .hush tag payload => Sys2Proof.Machine.execHush tag payload s
  | .unhush tag payload => Sys2Proof.Machine.execUnhush tag payload s
  | .panic tag payload => Sys2Proof.Machine.execPanic tag payload s
  | .setLane tag payload => Sys2Proof.Machine.execSetLane tag payload s
  | .resetLane tag payload => Sys2Proof.Machine.execResetLane tag payload s
  | .readLanes tag payload => Sys2Proof.Machine.execReadLanes tag payload s

end Sys2Proof.Machine
end

