-- ==== Sys2Proof/Machine/Timebase.lean ====
section
/-! DEFINITION. The timebase (spec 00, "Time"; R1, R55, R99, R154, R155, R167, R188): what the part does while no
command waits. DESIGN CHOICE (log entry 3): a quarter millisecond passes in one idle step, unless a timer has run
out, in which case its expiry is taken; which of several is free. -/

namespace Sys2Proof.Machine

/-- A timer a quarter millisecond later. -/
def Timer.tick (t : Timer) : Timer := t.map (· + 1)

/-- The expiries that are due (R99, R55, R167, R188, R155). A scan pass brings its readings from outside, so it is not
among them (log entry 3). -/
def State.dueExpiries (s : State) : List Instr :=
  (if s.bfe.lossDue then [.streamLossTimeout] else [])
    ++ (if s.sst.qualDue then [.cueQualificationExpiry] else [])
    ++ (if s.mlk.gapDue then [.gapTimeout []] else [])
    ++ (if s.ntu.meterDue then [.meterExpiry] else [])
    ++ ((allLanes.filter fun n => s.lanes[n].stallDue).map .stallExpiry)

/-- The pass timer a quarter millisecond later: it waits at its period for the SCAN_PASS that brings the readings
(R1, log entry 3). -/
def tickPass (interval : Nat) (t : Timer) : Timer := t.map fun e => min interval (e + 1)

/-- Every timer a quarter millisecond later. -/
def tick (s : State) : State :=
  { s with
    bsc := { s.bsc with passTimer := tickPass s.bsc.interval s.bsc.passTimer }
    sst := { s.sst with qualTimer := Timer.tick s.sst.qualTimer }
    bfe := { s.bfe with lossTimer := Timer.tick s.bfe.lossTimer }
    lanes := tabulate fun n => { s.lanes[n] with stall := Timer.tick s.lanes[n].stall }
    ntu := { s.ntu with meterTimer := Timer.tick s.ntu.meterTimer }
    mlk := { s.mlk with gapTimer := Timer.tick s.mlk.gapTimer } }

/-- The idle step: the expiry to take, with the state that the choice leaves, or `none` when time passes. -/
def State.idleExpiry (s : State) : Option (Instr × State) :=
  match s.dueExpiries with
  | [] => none
  | [c] => some (c, s)
  | c :: cs =>
    some ((c :: cs).getD (Config.expiryPick s.freeDraws % (c :: cs).length) c, { s with freeDraws := s.freeDraws + 1 })

end Sys2Proof.Machine
end

