-- ==== Sys2Proof/Machine/Step.lean ====
section
/-! DEFINITION. One step: the command at the front of the queue, or the idle step. -/

namespace Sys2Proof.Machine

/-- One step: the command at the front of the queue is taken and run on the state with the rest of the queue; with
no command waiting a due timer expires, or a quarter millisecond passes (log entry 3). -/
def step (s : State) : Host.Outcome State Fault Refusal :=
  match s.pending with
  | c :: rest => exec c { s with pending := rest }
  | [] =>
    match s.idleExpiry with
    | some (c, s') => exec c s'
    | none => .next (tick s)

/-- The state with the command that a word spells at the front of its queue; unchanged where the word spells none:
no row of the table has bits, so it is unchanged (DESIGN CHOICE, log entry 12). -/
def State.withFetchWord (s : State) (nbits w : Nat) : State :=
  match decodeTableWord nbits w with
  | some c => { s with pending := c :: s.pending }
  | none => s

end Sys2Proof.Machine
end

