-- ==== Sys2Proof/Safety.lean ====
section
/-! DEFINITION. What counts as a safe state: the laws of the device (spec 00, "Laws of the device"), block by block,
as the rules that own the state give them. Each is decidable on a concrete state. -/

namespace Sys2Proof.Machine

/-! ## Button Scanner -/

/-- The settings and the debounce counts lie in their ranges (R1, R2). -/
abbrev Scanner.InRange (b : Scanner) : Prop :=
  (1 ≤ b.interval ∧ b.interval ≤ 16) ∧ (1 ≤ b.depth ∧ b.depth ≤ 15) ∧ ∀ x : Crosspoint, b.buttons[x].count < b.depth

/-- The crosspoints that are PRESSED and whose role satisfies p. -/
def Scanner.pressedWith (b : Scanner) (p : Role → Bool) : List Crosspoint :=
  allCrosspoints.filter fun x => b.buttons[x].pressed && p b.roles[x]

/-- The held count and the group occupancies agree with their definitions (R5, R8, R9). -/
abbrev Scanner.CountsAgree (b : Scanner) : Prop :=
  b.held = (b.pressedWith Role.plays).length
    ∧ (∀ n : Fin 4, b.groupOcc[n] = (b.pressedWith fun r => r == .override n).length)
    ∧ b.hushOcc = (b.pressedWith fun r => r == .hush).length

/-! ## Voice Table and lanes -/

/-- The holders and sets of a voice are those of its state (R60, R62). -/
abbrev Voice.Coherent (y : Voice) : Prop :=
  (y.state = .free → y.holders = [] ∧ y.lanes = 0 ∧ y.owed = 0)
    ∧ (y.state = .sounding → 1 ≤ y.holders.length ∧ y.holders.length ≤ 6 ∧ y.holders.Nodup ∧ y.owed = 0)
    ∧ (y.state = .owed → y.holders = [] ∧ y.lanes = 0 ∧ y.owed ≠ 0)

/-- Every voice's holders and sets are those of its state (R60, R62). -/
abbrev VoiceTable.Coherent (t : VoiceTable) : Prop := ∀ v : Slot, t.voices[v].Coherent

/-- No two SOUNDING voices of LIVE origin have the same layer index and pitch (R69). -/
abbrev VoiceTable.LiveDistinct (t : VoiceTable) : Prop :=
  ∀ v w : Slot, t.voices[v].soundsLive = true → t.voices[w].soundsLive = true →
    t.voices[v].layer = t.voices[w].layer → t.voices[v].pitch = t.voices[w].pitch → v = w

/-- A lane queue holds at most 32 records, at most one unsent Swell and at most one unsent Tier (R145). -/
abbrev Lane.QueueBounded (l : Lane) : Prop :=
  l.occupancy ≤ 32 ∧ l.unsent.countP LaneRecord.isSwell ≤ 1 ∧ l.unsent.countP LaneRecord.isTier ≤ 1

/-- The in-transmission mark stands on a record; a lane that could begin to send has begun; the stall timer runs
exactly while the lane waits with T above 0 (R151, R154). -/
abbrev Lane.Driven (l : Lane) : Prop :=
  (l.sending = true → l.queue ≠ []) ∧ ¬ (l.hasWork = true ∧ l.ready = true)
    ∧ (l.stall.isSome = true ↔ l.waiting = true ∧ 0 < l.timeout)

/-- An OFF or DEAD lane is empty and owes nothing; a CLOSING lane owes nothing and its queue ends in a Silence
(R144, R152, R158). -/
abbrev Lane.StateCoherent (l : Lane) : Prop :=
  (l.state = .off ∨ l.state = .dead → l.queue = [] ∧ l.sending = false ∧ l.owed = [])
    ∧ (l.state = .closing → l.owed = [] ∧ l.queue.getLast? = some .silence)

/-- Every lane is driven, and empty or closing as its state says (R144, R151, R154). -/
abbrev State.LanesCoherent (s : State) : Prop :=
  ∀ n : LaneNo, s.lanes[n].QueueBounded ∧ s.lanes[n].Driven ∧ s.lanes[n].StateCoherent

/-- Voices and lanes agree: a voice's lane set and owed set name LIVE lanes only (R144), lane n's owed-stop list
holds v exactly when n is in v's owed set, and holds no voice twice (R153); an unsent Start is that of a SOUNDING
voice whose lane set names the lane, and no voice has two (R134, R145). -/
abbrev State.VoicesAndLanesAgree (s : State) : Prop :=
  ∀ n : LaneNo,
    s.lanes[n].owed.Nodup
      ∧ ∀ v : Slot,
        (LaneSet.has s.vtb.voices[v].lanes n = true → s.lanes[n].state = .live)
          ∧ (LaneSet.has s.vtb.voices[v].owed n = true → s.lanes[n].state = .live)
          ∧ (LaneSet.has s.vtb.voices[v].owed n = true ↔ v ∈ s.lanes[n].owed)
          ∧ s.lanes[n].unsent.countP (LaneRecord.isStartOf v) ≤ 1
          ∧ (0 < s.lanes[n].unsent.countP (LaneRecord.isStartOf v) →
              s.vtb.voices[v].state = .sounding ∧ LaneSet.has s.vtb.voices[v].lanes n = true)

/-- While E is 0 no voice is SOUNDING, no crosspoint is voiced and no lane holds an unsent Start; while the part is
HALTED, E is 0, the stack is empty and no cue is armed (R134, R138). -/
abbrev State.SilencedWhenDisabled (s : State) : Prop :=
  (s.slc.enable = false →
      (∀ v : Slot, s.vtb.voices[v].state ≠ .sounding) ∧ (∀ x : Crosspoint, s.vtb.voicedAs[x] = none)
        ∧ ∀ n : LaneNo, s.lanes[n].unsent.countP LaneRecord.isStart = 0)
    ∧ (s.slc.part = .halted → s.slc.enable = false ∧ s.stack = [] ∧ s.sst.armed = none)

/-- Every crosspoint in a holder list is PRESSED with a playing role and voiced; every voiced crosspoint is PRESSED
with a playing role, and was last expanded under BD (R62, R63). -/
abbrev State.HoldersPressed (s : State) : Prop :=
  (∀ v : Slot, ∀ x ∈ s.vtb.voices[v].holders, s.vtb.voicedAs[x] ≠ none)
    ∧ ∀ x : Crosspoint, s.vtb.voicedAs[x] ≠ none → s.holdsKey x = true ∧ s.vtb.voicedAs[x] = some s.bfe.bd

/-! ## Bellows and dynamics -/

/-- The front end's values lie in their ranges (R90, R92, R98, R101). -/
abbrev Bellows.InRange (b : Bellows) : Prop :=
  (-8388608 ≤ b.acc ∧ b.acc ≤ 8388352) ∧ b.run < b.settings.confirm ∧ b.holdLeft ≤ 255
    ∧ b.railRun ≤ 63 ∧ b.clearRun ≤ 63 ∧ (-32768 ≤ b.settings.fixedOffset ∧ b.settings.fixedOffset ≤ 32767)
    ∧ b.settings.still ≤ 32767 ∧ b.settings.confirm ≤ 64 ∧ b.settings.hold ≤ 255
    ∧ (b.settings.mode = .fixed → b.acc = b.settings.fixedOffset * 256)

/-- An arrival of the word w leaves the sensor OK, so that the sample is judged: no rail fault and no 64th rail sample
in a row, or a rail fault that this arrival clears (R98 to R100). -/
abbrev Bellows.Judges (b : Bellows) (w : BitVec 16) : Prop :=
  (b.railFault = false ∧ (w.toInt = -32768 ∨ w.toInt = 32767 → b.railRun + 1 ≠ 64))
    ∨ (b.railFault = true ∧ w.toInt ≠ -32768 ∧ w.toInt ≠ 32767 ∧ b.clearRun + 1 = 64)

/-- The Dynamics Unit's values lie in their ranges, the level within its bounds (R106, R107, R109, R110, R113,
R118). -/
abbrev Dynamics.InRange (y : Dynamics) : Prop :=
  (y.settings.floor ≤ y.level ∧ y.level ≤ y.settings.ceil)
    ∧ y.holdOffLeft ≤ 255 ∧ y.settings.holdOff ≤ 255
    ∧ y.winPos < 2 ^ y.settings.winShift ∧ y.winSum ≤ 32767 * y.winPos ∧ y.average ≤ 32767
    ∧ y.f16 ≤ 524272
    ∧ (1 ≤ y.settings.winShift ∧ y.settings.winShift ≤ 12) ∧ y.settings.smooth ≤ 7
    ∧ (1 ≤ y.settings.swellStep ∧ y.settings.swellStep ≤ 32)

/-! ## Override stack, silence, notices, link -/

/-- The stack holds at most 4 entries and no tag twice, and a host entry is not marked released (R125). -/
abbrev State.StackBounded (s : State) : Prop :=
  s.stack.length ≤ 4 ∧ (s.stack.map fun e => e.tag).Nodup ∧ ∀ e ∈ s.stack, 4 ≤ e.tag.val → e.released = false

/-- A lane in the silence-pending set transmits and has a Silence queued that will take it out of the set; a stale
mark stands only on a lane that is sending a Silence (R137). -/
abbrev State.PendingSilences (s : State) : Prop :=
  ∀ n : LaneNo,
    (LaneSet.has s.slc.pending n = true →
        s.lanes[n].transmits = true ∧ LaneRecord.silence ∈ s.lanes[n].queue)
      ∧ (LaneSet.has s.slc.stale n = true →
          s.lanes[n].sendsSilence = true ∧ LaneRecord.silence ∈ s.lanes[n].queue.tail)

/-- What the steps keep together of voices, lanes and the enable: each part needs the others (R60, R62, R63, R69, R134,
R137, R144, R145, R151 to R154). -/
abbrev State.VoicesLanesCoherent (s : State) : Prop :=
  s.vtb.Coherent ∧ s.vtb.LiveDistinct ∧ s.LanesCoherent ∧ s.VoicesAndLanesAgree ∧ s.HoldersPressed ∧ s.PendingSilences
    ∧ s.SilencedWhenDisabled

/-- A slot holds a notice of its own kind with a repeat count of at most 255 (R182). -/
abbrev NoticeUnit.SlotsCoherent (u : NoticeUnit) : Prop :=
  ∀ k : Fin 13, ∀ p ∈ u.slots[k], p.notice.kindIndex = k ∧ p.repeats ≤ 255

/-- The reply frame that is being sent, if one is. -/
def Output.replyBeingSent : Output → Option Frame
  | .sendingReply f => some f
  | _ => none

/-- The link's counts are bytes; a reply being sent is the one in the slot; an idle output has neither a reply nor
a pending unmasked notice to send (R167, R168, R171, R173). -/
abbrev State.OutputServed (s : State) : Prop :=
  (s.mlk.badFrames ≤ 255 ∧ s.mlk.discards ≤ 255)
    ∧ (s.mlk.output = .idle → s.mlk.reply = none ∧ s.ntu.choice = none)
    ∧ ∀ f ∈ s.mlk.output.replyBeingSent, s.mlk.reply = some f

/-! ## Scenes -/

/-- The transpose of a layer record, if one is present, lies in its range (R38). -/
abbrev LayerInRange (l : Option Layer) : Prop := ∀ y ∈ l, -48 ≤ y.transpose ∧ y.transpose ≤ 48

/-- The transposes of the Live Copy, of the library, of their layers, of the definitions and of the saved contexts lie
in their ranges (R37, R38, R45, R58, R125). -/
abbrev State.TransposesInRange (s : State) : Prop :=
  ((∀ i : LayerPos, LayerInRange s.sst.live.layers[i])
      ∧ ∀ (n : SceneNo) (i : LayerPos), LayerInRange s.sst.library[n].layers[i])
    ∧ (-24 ≤ s.sst.live.settings.transpose ∧ s.sst.live.settings.transpose ≤ 24)
    ∧ (∀ n : SceneNo, -24 ≤ s.sst.library[n].defaults.transpose ∧ s.sst.library[n].defaults.transpose ≤ 24)
    ∧ (∀ n : Fin 4, -24 ≤ s.sst.overrides[n].delta ∧ s.sst.overrides[n].delta ≤ 24)
    ∧ ∀ e ∈ s.stack, -24 ≤ e.saved.transpose ∧ e.saved.transpose ≤ 24

/-- A VALID scene has a layer, an EMPTY one is cleared (R37). -/
abbrev State.ScenesCoherent (s : State) : Prop :=
  ∀ n : SceneNo,
    (s.sst.library[n].state = .valid → s.sst.library[n].hasLayer = true)
      ∧ (s.sst.library[n].state = .empty → s.sst.library[n] = .blank)

/-! ## What the answer to a request is -/

/-- The reply frame to a request of a kind and a tag (R170). -/
def replyFrame (kind tag : Byte) (st : Status) (data : List Byte) : Frame :=
  { kind := if kind.toNat < 0x80 then kind + 0x80 else 0xFF, tag := tag, payload := st.code :: data }

/-- The state in which a request has just been answered: the receiver in HUNT, the reply in the slot, and on its way
if the output was idle (R166, R168, R171). -/
def State.replied (s : State) (kind tag : Byte) (st : Status) (data : List Byte) : State :=
  { s with mlk := { s.mlk with
      rx := .hunt, buffer := [], gapTimer := none, reply := some (replyFrame kind tag st data)
      output := match s.mlk.output with
        | .idle => .sendingReply (replyFrame kind tag st data)
        | busy => busy } }

/-- The request is accepted: the part goes to `t`, and the reply is OK with these data (R169, R170). -/
abbrev Accepts (i : Instr) (s t : State) (kind tag : Byte) (data : List Byte) : Prop :=
  exec i s = .next (t.replied kind tag .ok data)

/-- The request is refused with a status: nothing changes but the reply slot (R169). -/
abbrev Refuses (i : Instr) (s : State) (kind tag : Byte) (st : Status) : Prop :=
  exec i s = .next (s.replied kind tag st [])

/-- The part takes requests of every kind: the reply slot is empty and the part is PLAYING (R168, R169). -/
abbrev State.Taking (s : State) : Prop := s.mlk.reply = none ∧ s.slc.part = .playing

/-- The request kinds (spec 09, 9.3, table). -/
def requestKinds : List Nat :=
  [0x01, 0x02, 0x03, 0x04, 0x05, 0x06, 0x08, 0x09, 0x0A, 0x0C, 0x0D, 0x0E, 0x0F, 0x10, 0x11, 0x14, 0x15, 0x16, 0x17,
   0x18, 0x19, 0x1A, 0x1B, 0x1C, 0x1D, 0x1E, 0x20, 0x22, 0x23, 0x24, 0x25, 0x26, 0x28, 0x29, 0x2A, 0x2B, 0x2C, 0x2D,
   0x2E, 0x30, 0x31, 0x32]

/-- The kinds admitted while the part is HALTED (R139; spec 09, 9.3, table). -/
def haltedKinds : List Nat := [0x01, 0x02, 0x03, 0x06, 0x0A, 0x20, 0x32]

/-- The payload lengths a request kind admits (spec 09, 9.3, table; R185, R187, R190). -/
def lengthAdmitted (kind n : Nat) : Bool :=
  match kind with
  | 0x01 | 0x02 | 0x03 | 0x06 | 0x1A | 0x1B | 0x2A | 0x2B | 0x2C | 0x2D | 0x2E | 0x32 => n == 0
  | 0x0A | 0x11 | 0x14 | 0x17 | 0x18 | 0x1C | 0x20 | 0x29 | 0x31 => n == 1
  | 0x04 | 0x08 | 0x10 | 0x1D | 0x26 => n == 2
  | 0x19 | 0x30 => n == 3
  | 0x24 => n == 4
  | 0x0F => n == 6
  | 0x1E | 0x28 => n == 7
  | 0x22 | 0x25 => n == 8
  | 0x15 | 0x16 => n == 14
  | 0x23 => n == 20
  | 0x05 => 3 ≤ n && n ≤ 10
  | 0x09 => n % 4 == 0 && 4 ≤ n && n ≤ 128
  | 0x0C => n % 2 == 1 && 3 ≤ n && n ≤ 65
  | 0x0D => n % 2 == 1 && 3 ≤ n && n ≤ 41
  | 0x0E => 2 ≤ n && n ≤ 5
  | _ => false

/-! ## What joins a queue, and what a Silence does -/

/-- A LIVE or CLOSING lane `l` after a record has joined the tail of its queue: in an empty queue the record begins to be
sent under ready, or else the lane begins to wait, its stall timer from zero if T is above 0 (R145, R151, R154). -/
def Lane.joined (l : Lane) (r : LaneRecord) : Lane :=
  if l.queue = [] ∧ l.sending = false then
    if l.ready = true then { l with queue := [r], sending := true, stall := none }
    else { l with queue := [r], stall := if l.timeout = 0 then none else some 0 }
  else { l with queue := l.queue ++ [r] }

/-- A LIVE or CLOSING lane `l` after a Silence, with the records `behind` it, has been queued on it: the unsent records and
the owed-stop list are gone. The record being sent goes on, and a waiting lane waits on with its stall timer as it runs;
an empty lane begins to send under ready, or else to wait with its timer from zero if T is above 0 (R150, R116, R151,
R154). -/
def Lane.silenced (l : Lane) (behind : List LaneRecord) : Lane :=
  if l.queue = [] ∧ l.sending = false then
    if l.ready = true then { l with queue := .silence :: behind, owed := [], sending := true, stall := none }
    else { l with queue := .silence :: behind, owed := [], stall := if l.timeout = 0 then none else some 0 }
  else { l with queue := l.sent ++ .silence :: behind, owed := [] }

/-- A voice after the lanes of a set have been cleared from it: an OWED voice left with nothing owed is FREE, a SOUNDING
voice sounds on, a FREE voice is as it was (R68). -/
def Voice.clearedOf (y : Voice) (gone : LaneSet) : Voice :=
  if y.state = .free then y
  else
    { y with
      lanes := y.lanes &&& ~~~gone, owed := y.owed &&& ~~~gone
      state := if y.state = .owed ∧ y.owed &&& ~~~gone = 0 then .free else y.state }

/-- The part after a Silence has been queued on each lane of a set: a LIVE lane takes the Tier and the Swell in force
behind it, and the Swell is its last-posted one (R116); the lanes are cleared from every voice (R150, R68). -/
def State.silencedOn (s : State) (chosen : LaneSet) : State :=
  { s with
    lanes := tabulate fun n : LaneNo =>
      if chosen.getLsbD n.val then
        s.lanes[n].silenced (if s.lanes[n].state = .live then [.tier s.tierCode, .swell s.dyn.expr] else [])
      else s.lanes[n]
    dyn := { s.dyn with
      lastSwell := tabulate fun n : LaneNo =>
        if chosen.getLsbD n.val = true ∧ s.lanes[n].state = .live then s.dyn.expr else s.dyn.lastSwell[n] }
    vtb := { s.vtb with voices := tabulate fun v : Slot => s.vtb.voices[v].clearedOf chosen } }

/-- The part after the voice work of a fall of E: every SOUNDING voice ended, by ascending slot, then every crosspoint
unvoiced (R82). -/
def State.voicesFallen (s : State) : State :=
  let u := ((List.finRange 48).filter fun v => s.vtb.voices[v].state == .sounding).foldl endVoice s
  { u with vtb := { u.vtb with voicedAs := Vector.replicate 256 none } }

/-! ## What a tier check does -/

/-- A lane `l` after it has been offered the Tier record of a code: not LIVE, it is as it was; LIVE, its unsent Tier
takes the code in place, or the record goes to the tail while there is room, where in an empty queue it begins to be
sent or to wait, or it is discarded (R112, R148, R151, R154). -/
def Lane.TierOffered (l m : Lane) (c : TierCode) : Prop :=
  (l.state ≠ .live → m = l)
    ∧ (l.state = .live →
        (∀ (before after : List LaneRecord) (q : LaneRecord), l.unsent = before ++ q :: after → q.isTier = true →
            (∀ r ∈ before, r.isTier = false) → m = { l with queue := l.sent ++ before ++ .tier c :: after })
          ∧ ((∀ r ∈ l.unsent, r.isTier = false) →
              m = if 32 ≤ l.queue.length then l else l.joined (.tier c)))

/-- `t` is `u` after a tier check: nothing when the current code is the last code posted; otherwise TIER is raised, each
lane is offered the record, and the last code posted is the code, or NONE when a LIVE lane without an unsent Tier was
full and discarded it (R111, R112). -/
def TierChecked (u t : State) : Prop :=
  ∀ c : TierCode, c = u.sst.live.tierMap[tierOf u.dyn.level] →
    (u.dyn.lastCode = some c → t = u)
      ∧ (u.dyn.lastCode ≠ some c →
          (t.dyn.lastCode = none ∨ t.dyn.lastCode = some c)
            ∧ (t.dyn.lastCode = none ↔ ∃ n : LaneNo, u.lanes[n].state = .live
                ∧ (∀ r ∈ u.lanes[n].unsent, r.isTier = false) ∧ 32 ≤ u.lanes[n].queue.length)
            ∧ (∀ n : LaneNo, u.lanes[n].TierOffered t.lanes[n] c)
            ∧ t = { u.raise (.tier c) with dyn := { u.dyn with lastCode := t.dyn.lastCode }, lanes := t.lanes })

/-! ## How fields are coded in a payload -/

/-- A byte that completes with its stop bit in place, received whole (R167). -/
def goodByte (b : Byte) : RxByte := { value := b, stopBit := true, overReset := false }

/-- One entry of a Load Roles payload (R13). -/
def roleBytes : Crosspoint × Role → List Byte
  | (x, .none) => [byte x.val, 0, 0, 0]
  | (x, .treble k) => [byte x.val, 1, byte k.val, 0]
  | (x, .bass c r) => [byte x.val, 2, byte c.val, byte r.val]
  | (x, .trebleRegister n) => [byte x.val, 3, byte n.val, 0]
  | (x, .bassRegister n) => [byte x.val, 4, byte n.val, 0]
  | (x, .override n) => [byte x.val, 5, byte n.val, 0]
  | (x, .hush) => [byte x.val, 6, 0, 0]
  | (x, .cue) => [byte x.val, 7, 0, 0]

/-- A section as a byte (R40, R57). -/
def Sect.byte : Sect → Byte
  | .treble => 0
  | .bass => 1

/-- A section mode as a byte (R34). -/
def Mode.byte : Mode → Byte
  | .unisonoric => 0
  | .bisonoric => 1

/-- A signed number as a byte, two's complement (spec 00). -/
def signedByte (i : Int) : Byte := BitVec.ofInt 8 i

/-- A Load Layer payload (R40). -/
def layerBytes (n : SceneNo) (i : LayerPos) (l : Layer) : List Byte :=
  [byte n.val, byte i.val, l.sect.byte, l.rowMask.setWidth 8] ++ bytes16 l.regMask.toNat ++ bytes16 l.program.val
    ++ [l.laneMask.setWidth 8, signedByte l.transpose, byte l.keyLow.val, byte l.keyHigh.val, byte l.priority.val,
        byteOfBool l.carry]

/-- The ranges of a layer record: a row mask that suits its section, masks that are not empty, a transpose of
−48..+48, and a key range that is not empty (R38, R40). -/
abbrev Layer.Valid (l : Layer) : Prop :=
  (l.sect = .treble → l.rowMask = 0) ∧ (l.sect = .bass → l.rowMask ≠ 0) ∧ l.regMask ≠ 0 ∧ l.laneMask ≠ 0
    ∧ (-48 ≤ l.transpose ∧ l.transpose ≤ 48) ∧ l.keyLow ≤ l.keyHigh

/-- A field of an override definition as a byte: 0xFF for keep (R58). -/
def keepByte {α : Type} (f : α → Byte) : Option α → Byte
  | some a => f a
  | none => 0xFF

/-- The six definition bytes of Load Override and Push Override (R58, R131). -/
def overrideBytes (d : OverrideDef) : List Byte :=
  [keepByte (fun n => byte n.val) d.target, keepByte (fun n => byte n.val) d.trebleReg,
   keepByte (fun n => byte n.val) d.bassReg, signedByte d.delta, keepByte Mode.byte d.trebleMode,
   keepByte Mode.byte d.bassMode]

/-- A byte that is neither 0xFF, which means keep, nor one of the values 0 to `most` (R58). -/
abbrev KeepByteOutOfRange (most : Nat) (b : Byte) : Prop := b ≠ 0xFF ∧ most < b.toNat

/-- One of six definition bytes is out of range: the target, a register, the delta, or a mode (R58, R131). -/
abbrev DefinitionOutOfRange (target treble bass delta trebleMode bassMode : Byte) : Prop :=
  KeepByteOutOfRange 15 target ∨ KeepByteOutOfRange 15 treble ∨ KeepByteOutOfRange 15 bass
    ∨ (delta.toInt < -24 ∨ 24 < delta.toInt) ∨ KeepByteOutOfRange 1 trebleMode ∨ KeepByteOutOfRange 1 bassMode

/-! ## What a transfer copies -/

/-- What a transfer of a scene with an item set leaves in the Live Copy (R46, phase 1; bits as in R50). -/
def LiveCopy.transferred (live : LiveCopy) (n : SceneNo) (scene : Scene) (items : BitVec 3) : LiveCopy :=
  { origin := if items.getLsbD 0 then some n else live.origin
    layers := if items.getLsbD 0 then scene.layers else live.layers
    settings := if items.getLsbD 1 then scene.defaults else live.settings
    tierMap := if items.getLsbD 2 then scene.tierMap else live.tierMap }

/-- What a push saves and applies: a new top entry with the context, and in the Live Copy the target's layers and tier
map, if there is a target, and the settings with the definition's fields and the clamped transpose (R127). -/
def State.withPushed (s : State) (h : Fin 8) (d : OverrideDef) : State :=
  { s with
    stack := ⟨h, false, d.target.isSome, s.sst.live.origin, s.sst.live.settings⟩ :: s.stack
    sst := { s.sst with live :=
      { (match d.target with
          | some n => s.sst.live.transferred n s.sst.library[n] 5
          | none => s.sst.live) with
        settings :=
          { trebleReg := d.trebleReg.getD s.sst.live.settings.trebleReg
            bassReg := d.bassReg.getD s.sst.live.settings.bassReg
            transpose := max (-24) (min 24 (s.sst.live.settings.transpose + d.delta))
            trebleMode := d.trebleMode.getD s.sst.live.settings.trebleMode
            bassMode := d.bassMode.getD s.sst.live.settings.bassMode } } } }

/-! ## The voice work that follows a change of the Live Copy -/

/-- The voiced crosspoints, ascending, whose section p names (R79). -/
def State.voicedOf (s : State) (p : Sect → Bool) : List Crosspoint :=
  (List.finRange 256).filter fun x => s.vtb.voicedAs[x].isSome && match s.bsc.roles[x] with
    | .treble _ => p .treble
    | .bass _ _ => p .bass
    | _ => false

/-- The section's active register or mode is not the same in two settings (R48, R127, R130). -/
def Settings.differs (a b : Settings) : Sect → Bool
  | .treble => a.trebleReg != b.trebleReg || a.trebleMode != b.trebleMode
  | .bass => a.bassReg != b.bassReg || a.bassMode != b.bassMode

/-- The Live Copy's settings written, and the voiced crosspoints of the sections that this changes re-expanded under BD
as one re-expansion (R79). -/
def State.withSettings (s : State) (a : Settings) : State :=
  reexpand false s.bfe.bd (s.voicedOf (s.sst.live.settings.differs a))
    { s with sst := { s.sst with live := { s.sst.live with settings := a } } }

/-- The position holds a layer with carry = 1 (R80). -/
def LiveCopy.carriesAt (c : LiveCopy) (i : LayerPos) : Bool := c.layers[i].any Layer.carry

/-- `t` is `s`, whose Live Copy has just been written, after the cue transfer of LAYERS (R80): the LIVE voices become
ORPHAN; the SOUNDING voices whose layer index names a carry position are ended, ascending; then the voiced crosspoints,
ascending, join in list order the entries of their expansions whose position carries. An orphan that is not ended keeps
its whole record when there is a FREE slot for every join, so that none steals. -/
def LayersCarried (s t : State) : Prop :=
  ∀ (orphaned ended : State) (voiced : List Crosspoint) (entries : Crosspoint → List (LayerPos × Pitch)),
    orphaned = { s with vtb := { s.vtb with voices := tabulate fun v : Slot =>
      if s.vtb.voices[v].state = .free then s.vtb.voices[v] else { s.vtb.voices[v] with origin := .orphan } } } →
    ended = ((List.finRange 48).filter fun v =>
      s.vtb.voices[v].state == .sounding && s.sst.live.carriesAt s.vtb.voices[v].layer).foldl endVoice orphaned →
    voiced = ((List.finRange 256).filter fun x => s.vtb.voicedAs[x].isSome) →
    (∀ x, entries x = (s.expand x s.bfe.bd).filter fun e => s.sst.live.carriesAt e.1) →
    t = voiced.foldl (fun u x => (entries x).foldl (joinEntry x) u) ended
      ∧ ((voiced.flatMap entries).length ≤ (List.finRange 48).countP (fun v => ended.vtb.voices[v].state == .free) →
          ∀ v : Slot, s.vtb.voices[v].state = .sounding → s.sst.live.carriesAt s.vtb.voices[v].layer = false →
            t.vtb.voices[v] = { s.vtb.voices[v] with origin := .orphan })

/-- `t` is `s` after a transfer of the library's scene n with an item set (R46 to R48, bits as in R50): the items written,
then the tier check if TIERMAP is named, then the cue transfer of LAYERS if LAYERS is named; if SETTINGS is named without
LAYERS, and `separate` says that no reversal follows (R54), the re-expansion of the changed sections. -/
def Transferred (n : SceneNo) (items : BitVec 3) (separate : Bool) (s t : State) : Prop :=
  ∃ u : State,
    (∀ w : State, w = { s with sst := { s.sst with live := s.sst.live.transferred n s.sst.library[n] items } } →
      if items.getLsbD 2 = true then TierChecked w u else u = w)
    ∧ if items.getLsbD 0 = true then LayersCarried u t
      else if items.getLsbD 1 = true ∧ separate = true then
        t = reexpand false u.bfe.bd (u.voicedOf (s.sst.live.settings.differs u.sst.live.settings)) u
      else t = u

/-- `t` is `s` after the settings a have been applied: registers and modes first with the re-expansion of the changed
sections under the transpose as it stood, then the transpose (R127 steps 3 and 4, R130). -/
def State.SettingsApplied (s t : State) (a : Settings) : Prop :=
  ∀ u : State, u = s.withSettings { a with transpose := s.sst.live.settings.transpose } →
    t = { u with sst := { u.sst with live := { u.sst.live with settings := a } } }

/-- `t` is `s` after a push of a definition under a tag: the context saved in a new top entry, the target transferred
with LAYERS and TIERMAP if there is one, then the settings with the definition's fields and the clamped transpose (R127). -/
def State.Pushed (s t : State) (h : Fin 8) (d : OverrideDef) : Prop :=
  ∃ u : State,
    (∀ w : State,
      w = { s with stack :=
        ⟨h, false, d.target.isSome, s.sst.live.origin, s.sst.live.settings⟩ :: s.stack } →
      match d.target with
      | some n => Transferred n 5 true w u
      | none => u = w)
    ∧ u.SettingsApplied t (s.withPushed h d).sst.live.settings

/-! ## What an event leaves alone -/

/-- Each lane keeps its state, its stall timeout and its ready line. -/
abbrev KeepsLaneStates (s t : State) : Prop :=
  ∀ n : LaneNo, t.lanes[n].state = s.lanes[n].state ∧ t.lanes[n].timeout = s.lanes[n].timeout
    ∧ t.lanes[n].ready = s.lanes[n].ready

/-- Between two states only the voices, the queues and owed-stop lists of the lanes, and the pending notices differ:
what the Voice Table's work may change (spec 04). -/
abbrev OnlyVoiceWork (s t : State) : Prop :=
  t = { s with vtb := t.vtb, lanes := t.lanes, ntu := { s.ntu with slots := t.ntu.slots } } ∧ KeepsLaneStates s t

/-- As `OnlyVoiceWork`, and the tier check may have written the last code posted (R112). -/
abbrev OnlyVoiceAndTierWork (s t : State) : Prop :=
  t = { s with
      vtb := t.vtb, lanes := t.lanes, ntu := { s.ntu with slots := t.ntu.slots }
      dyn := { s.dyn with lastCode := t.dyn.lastCode } }
    ∧ KeepsLaneStates s t

end Sys2Proof.Machine
end

