-- ==== Sys2Proof/WellFormed.lean ====
section
/-! DEFINITION. Which commands can reach the part. A frame's payload is at most 248 bytes (R165); a request of
unknown kind has a kind outside the table of spec 09, 9.3 (R169); a run of received bytes is not empty (R166), and
only its first byte can be the one that was in the middle of reception when the RESET pin was released (R181). The other operands are bounded by their types. -/

namespace Sys2Proof

/-- The payload fits a frame: body length n is 2..250 and the payload n − 2 bytes (R165). -/
def payloadFits (p : List Byte) : Bool := p.length ≤ 248

/-- Only the first of these bytes was in the middle of reception at a reset (R181). -/
def resetByteFirst (bytes : List RxByte) : Bool := bytes.tail.all fun b => !b.overReset

/-- The command is one that can reach the part. -/
def Instr.wf (i : Instr) : Bool :=
  match i with
  | .receiveBadFrame bytes => !bytes.isEmpty && resetByteFirst bytes
  | .gapTimeout bytes => resetByteFirst bytes
  | .unknownKindRequest k _ p => !knownKind k && payloadFits p
  | i =>
    match frameOfRequest i with
    | some (_, _, p) => payloadFits p
    | none => true

end Sys2Proof
end

