-- ==== Sys2Proof/Certificates/Slice0/Obligations.lean ====
section
/-! DEFINITION. The statements for the provers: what the numbered rules of spec/ say the commands and the part do. -/

open Sys2Proof Sys2Proof.Machine

/-! ## One step -/

/-- A step takes the command at the front of the queue and runs it on the state with the rest of the queue. -/
def Obligations.StepRunsFrontCommand : Prop :=
  ∀ (c : Instr) (rest : List Instr) (s : State), s.pending = c :: rest → step s = exec c { s with pending := rest }

/-- With no command waiting, the step is the timebase: the model's choice of log entry 3. An expiry is due when its
timer has run its period in quarter milliseconds: 20 ms for stream loss (R99), 1 ms for the cue line (R55), 2 ms for
the gap (R167), the meter interval (R188), T × 10 ms for a stall (R155). With none due every running timer is a
quarter millisecond older, the pass timer at most at its period; with one or more due, one of them is carried out. -/
def Obligations.IdleStepIsTheTimebase : Prop :=
  ∀ s : State, s.pending = [] →
    (∀ c : Instr, c ∈ s.dueExpiries ↔
        (c = .streamLossTimeout ∧ ∃ e ∈ s.bfe.lossTimer, 80 ≤ e)
          ∨ (c = .cueQualificationExpiry ∧ ∃ e ∈ s.sst.qualTimer, 4 ≤ e)
          ∨ (c = .gapTimeout [] ∧ ∃ e ∈ s.mlk.gapTimer, 8 ≤ e)
          ∨ (c = .meterExpiry ∧ ∃ e ∈ s.ntu.meterTimer, 4 * s.ntu.interval ≤ e)
          ∨ ∃ n : LaneNo, c = .stallExpiry n ∧ ∃ e ∈ s.lanes[n].stall, 40 * s.lanes[n].timeout ≤ e)
    ∧ (s.dueExpiries = [] →
        ∃ t, step s = .next t
          ∧ t.bfe = { s.bfe with lossTimer := s.bfe.lossTimer.map (· + 1) }
          ∧ t.sst = { s.sst with qualTimer := s.sst.qualTimer.map (· + 1) }
          ∧ t.bsc = { s.bsc with passTimer := s.bsc.passTimer.map fun e => min s.bsc.interval (e + 1) }
          ∧ t.ntu = { s.ntu with meterTimer := s.ntu.meterTimer.map (· + 1) }
          ∧ t.mlk = { s.mlk with gapTimer := s.mlk.gapTimer.map (· + 1) }
          ∧ (∀ n : LaneNo, t.lanes[n] = { s.lanes[n] with stall := s.lanes[n].stall.map (· + 1) })
          ∧ t = { s with bfe := t.bfe, sst := t.sst, bsc := t.bsc, ntu := t.ntu, mlk := t.mlk, lanes := t.lanes })
    ∧ (s.dueExpiries ≠ [] →
        ∃ c ∈ s.dueExpiries, step s = exec c s ∨ step s = exec c { s with freeDraws := s.freeDraws + 1 })

/-! ## The message link -/

/-- A good frame that completes its check while the reply slot is occupied is discarded: the discard count rises, up
to 255, and nothing else happens, whatever the frame's kind. -/
def Obligations.FrameDiscardedWhileReplyWaits : Prop :=
  ∀ (kind tag : Byte) (p : List Byte) (s : State), s.mlk.reply.isSome = true →
    exec (requestOfFrame kind tag p) s = .next
        { s with mlk := { s.mlk with
            rx := .hunt, buffer := [], gapTimer := none
            discards := min 255 (s.mlk.discards + 1) } }
      ∧ exec (.frameDiscard kind tag p) s = exec (requestOfFrame kind tag p) s

/-- The first three checks, in their order: a kind outside the table is answered UNKNOWN_KIND, a kind of the table
with a payload length it does not admit BAD_LENGTH, and, while the part is HALTED, a kind not admitted there with a
payload of an admitted length HALTED, whatever its fields. -/
def Obligations.ChecksComeInOrder : Prop :=
  ∀ (kind tag : Byte) (p : List Byte) (s : State), s.mlk.reply = none →
    (kind.toNat ∉ requestKinds →
        requestOfFrame kind tag p = .unknownKindRequest kind tag p
          ∧ Refuses (.unknownKindRequest kind tag p) s kind tag .unknownKind)
      ∧ (kind.toNat ∈ requestKinds → lengthAdmitted kind.toNat p.length = false →
          Refuses (requestOfFrame kind tag p) s kind tag .badLength)
      ∧ (kind.toNat ∈ requestKinds → lengthAdmitted kind.toNat p.length = true → s.slc.part = .halted →
          kind.toNat ∉ haltedKinds → Refuses (requestOfFrame kind tag p) s kind tag .halted)

/-- Every good frame taken with an empty slot is answered: its reply carries OK, or its reply carries a refusal's
status alone and nothing changes but the reply slot. -/
def Obligations.RefusedRequestChangesNothing : Prop :=
  ∀ (kind tag : Byte) (p : List Byte) (s : State), s.mlk.reply = none →
    (∃ (t : State) (data : List Byte), Accepts (requestOfFrame kind tag p) s t kind tag data)
      ∨ ∃ st : Status, st ≠ .ok ∧ Refuses (requestOfFrame kind tag p) s kind tag st

/-- The receiver and the frame format: the bytes of a frame, received one by one from HUNT, do what the request the
frame carries does. -/
def Obligations.FrameBytesDeliverTheRequest : Prop :=
  ∀ (f : Frame) (s : State), f.payload.length ≤ 248 → s.mlk.rx = .hunt →
    f.wire.length = f.payload.length + 5
      ∧ exec (.receiveBadFrame (f.wire.map goodByte)) s = exec (requestOfFrame f.kind f.tag f.payload) s

/-- The bytes of a frame that is dropped: a bad length, a bad check, a broken byte, a gap after an unfinished frame.
The bad-frame count rises, up to 255, and the receiver is back in HUNT; bytes other than a marker are skipped, and so is
the byte that was in the middle of reception when reset ended, whatever it holds (that the event says so is log entry 18).
An expiry of the gap timer on its own drops the frame once the timer has run for 2 ms; before that it does not occur, and
the command for it changes nothing (log entry 4). -/
def Obligations.BadFramesAreDropped : Prop :=
  (∀ s t : State, s.mlk.rx = .hunt →
    t = { s with mlk := { s.mlk with
        rx := .hunt, buffer := [], gapTimer := none, badFrames := min 255 (s.mlk.badFrames + 1) } } →
    (∀ n : Byte, n.toNat < 2 ∨ 250 < n.toNat →
        exec (.receiveBadFrame [goodByte 0xC3, goodByte n]) s = .next t)
      ∧ (∀ (body : List Byte) (check : Byte), 2 ≤ body.length → body.length ≤ 250 →
          (byte body.length + body.sum + check ≠ 0 →
            exec (.receiveBadFrame ((0xC3 :: byte body.length :: body ++ [check]).map goodByte)) s = .next t))
      ∧ (∀ (n : Nat) (body : List Byte) (b : Byte), 2 ≤ n → n ≤ 250 → body.length ≤ n →
          exec (.receiveBadFrame ((0xC3 :: byte n :: body).map goodByte ++ [⟨b, false, false⟩])) s = .next t
            ∧ exec (.gapTimeout ((0xC3 :: byte n :: body).map goodByte)) s = .next t)
      ∧ exec (.receiveBadFrame [goodByte 0xC3, ⟨0x02, false, false⟩]) s = .next t
      ∧ exec (.gapTimeout [goodByte 0xC3]) s = .next t
      ∧ (∀ bytes : List RxByte, (∀ b ∈ bytes, b ≠ goodByte 0xC3) → exec (.receiveBadFrame bytes) s = .next s)
      ∧ ∀ (b : RxByte) (bytes : List RxByte), b.overReset = true →
          exec (.receiveBadFrame (b :: bytes)) s = exec (.receiveBadFrame bytes) s)
    ∧ ∀ u : State,
      ((∃ e ∈ u.mlk.gapTimer, 8 ≤ e) → u.mlk.rx ≠ .hunt →
          exec (.gapTimeout []) u = .next { u with mlk := { u.mlk with
            rx := .hunt, buffer := [], gapTimer := none, badFrames := min 255 (u.mlk.badFrames + 1) } })
        ∧ ((∀ e ∈ u.mlk.gapTimer, e < 8) → exec (.gapTimeout []) u = .next u)

/-- The completion of a frame on TXD: a reply that was being sent leaves the slot; then a reply that waits begins to
be sent, else the pending unmasked notice of highest priority, whose slot is then empty, else the output is idle. -/
def Obligations.FrameCompletionChoosesTheNext : Prop :=
  ∀ s u : State, s.mlk.output ≠ .idle →
    u = { s with mlk := { s.mlk with
        output := .idle, reply := if s.mlk.output.replyBeingSent.isSome then none else s.mlk.reply } } →
    (∀ f ∈ u.mlk.reply,
        exec .hostFrameCompletion s = .next { u with mlk := { u.mlk with output := .sendingReply f } })
      ∧ (u.mlk.reply = none →
          ((∀ k : Fin 13, s.ntu.slots[k].isSome = true → 2 ≤ k.val ∧ s.ntu.mask.getLsbD k.val = true) →
              exec .hostFrameCompletion s = .next u)
            ∧ ∀ (k : Fin 13), ∀ p ∈ s.ntu.slots[k], p.notice.kindIndex = k →
                ¬ (2 ≤ k.val ∧ s.ntu.mask.getLsbD k.val = true) →
                (∀ j : Fin 13, j < k → s.ntu.slots[j].isSome = true →
                  2 ≤ j.val ∧ s.ntu.mask.getLsbD j.val = true) →
                exec .hostFrameCompletion s = .next
                  { u with
                    ntu := { s.ntu with slots := s.ntu.slots.set k.val none k.isLt }
                    mlk := { u.mlk with
                      output := .sendingNotice ⟨byte (0x60 + k.val), 0, byte p.repeats :: p.notice.detail⟩ } })

/-- A raise fills the empty slot of its kind with a repeat count of 0; a pending slot takes the new detail and counts
one more, staying at 255. No other slot changes. -/
def Obligations.RaiseFillsOrCoalesces : Prop :=
  ∀ (s : State) (n : Notice) (k : Fin 13), n.kindIndex = k →
    (s.raise n).ntu.slots[k] = some { notice := n, repeats := match s.ntu.slots[k] with
        | none => 0
        | some p => if p.repeats < 255 then p.repeats + 1 else 255 }
      ∧ (∀ j : Fin 13, j ≠ k → (s.raise n).ntu.slots[j] = s.ntu.slots[j])
      ∧ s.raise n = { s with ntu := { s.ntu with slots := (s.raise n).ntu.slots } }

/-! ## The part as a whole -/

/-- The state after power-on or the RESET pin, register by register, from any state before; and `State.reset` is that
state with the pins low, no command waiting and the model's counter at 0. The model's choices: what a FREE slot's other
fields hold (log entry 1), the pins of `State.reset` (log entry 2), that the counter of free choices and the waiting
commands are kept (log entries 3 and 12), and that no part of a sample word is left (log entry 11). -/
def Obligations.PowerOnState : Prop :=
  exec .powerOnReset State.reset = .next State.reset
    ∧ ∀ s : State, ∃ t : State, exec .powerOnReset s = .next t
      ∧ (∀ x : Crosspoint, t.bsc.buttons[x] = { pressed := false, count := 0 } ∧ t.bsc.roles[x] = .none)
      ∧ (t.bsc.held = 0 ∧ (∀ n : Fin 4, t.bsc.groupOcc[n] = 0) ∧ t.bsc.hushOcc = 0 ∧ t.bsc.interval = 4
          ∧ t.bsc.depth = 3 ∧ t.bsc.passTimer = some 0)
      ∧ (∀ k : Fin 96, t.nex.trebleTable[k].push.val = 32 + k.val ∧ t.nex.trebleTable[k].pull.val = 32 + k.val)
      ∧ (∀ c : Fin 20, t.nex.bassTable[c].push.val = 36 + (7 * c.val) % 12
          ∧ t.nex.bassTable[c].pull.val = 36 + (7 * c.val) % 12)
      ∧ t.nex.forms.toList = [[4], [0], [12, 16, 19], [12, 15, 19], [12, 16, 22], [12, 15, 21], [0], [0]]
      ∧ (∀ r : Fin 6, t.nex.rowForms[r].val = r.val)
      ∧ (∀ n : SceneNo, t.sst.library[n].state = .empty ∧ (∀ i : LayerPos, t.sst.library[n].layers[i] = none)
          ∧ t.sst.library[n].defaults = ⟨0, 0, 0, .unisonoric, .unisonoric⟩
          ∧ ∀ tier : Fin 8, t.sst.library[n].tierMap[tier].val = tier.val)
      ∧ (t.sst.live.origin = none ∧ (∀ i : LayerPos, t.sst.live.layers[i] = none)
          ∧ t.sst.live.settings = ⟨0, 0, 0, .unisonoric, .unisonoric⟩
          ∧ ∀ tier : Fin 8, t.sst.live.tierMap[tier].val = tier.val)
      ∧ (t.sst.armed = none ∧ ∀ n : Fin 4, t.sst.overrides[n] = ⟨none, none, none, 0, none, none⟩)
      ∧ (t.sst.cuePin = s.sst.cuePin ∧ t.sst.qualTimer = none
          ∧ t.sst.detector = if s.sst.cuePin then .waitFall else .waitRise)
      ∧ (∀ v : Slot, t.vtb.voices[v].state = .free ∧ t.vtb.voices[v].holders = [] ∧ t.vtb.voices[v].lanes = 0
          ∧ t.vtb.voices[v].owed = 0)
      ∧ ((∀ x : Crosspoint, t.vtb.voicedAs[x] = none) ∧ t.vtb.seqCounter = 0)
      ∧ (t.bfe.acc = 0 ∧ t.bfe.bd = .push ∧ t.bfe.run = 0 ∧ t.bfe.holdLeft = 0 ∧ t.bfe.lastClass = .still
          ∧ t.bfe.sensor = .ok ∧ t.bfe.railRun = 0 ∧ t.bfe.clearRun = 0 ∧ t.bfe.lossTimer = some 0
          ∧ t.bfe.partialWord = []
          ∧ t.bfe.settings = ⟨.track, 0, .k6, 600, 4, 40⟩)
      ∧ (t.dyn.level = 16384 ∧ t.dyn.winSum = 0 ∧ t.dyn.winPos = 0 ∧ t.dyn.holdOffLeft = 0 ∧ t.dyn.average = 0
          ∧ t.dyn.f16 = 0 ∧ t.dyn.expr = 0 ∧ (∀ n : LaneNo, t.dyn.lastSwell[n] = 0) ∧ t.dyn.lastCode = some 2
          ∧ t.dyn.settings = ⟨4, 6000, 1500, 1024, 512, 0, 32767, 0, 0, 0, 65535, 3, 256, 2⟩)
      ∧ (t.stack = [] ∧ t.slc.enable = true ∧ t.slc.shadow = true ∧ t.slc.part = .playing ∧ t.slc.pending = 0
          ∧ t.slc.stale = 0)
      ∧ (∀ n : LaneNo, t.lanes[n] = ⟨.off, [], false, [], 20, none, s.lanes[n].ready⟩)
      ∧ ((∀ k : Fin 13, t.ntu.slots[k] = none) ∧ t.ntu.mask = 0x0E00 ∧ t.ntu.interval = 0 ∧ t.ntu.items = [0]
          ∧ t.ntu.meterTimer = none)
      ∧ (t.mlk.rx = .hunt ∧ t.mlk.buffer = [] ∧ t.mlk.gapTimer = none
          ∧ t.mlk.reply = none ∧ t.mlk.badFrames = 0
          ∧ t.mlk.discards = 0 ∧ t.mlk.cause = .power
          ∧ t.mlk.output
              = .sendingNotice ⟨0x60, 0, [0, 0x5A, 0x48, 1, 48, 16, 8, 4, 4, 0x01, 0x00, 8, 0]⟩)
      ∧ t.pending = s.pending ∧ t.freeDraws = s.freeDraws

/-- Get Identity: the payload is empty, the reply is OK and the twelve bytes of the identity record with the cause of
the most recent reset, no state changes, and it is admitted while the part is HALTED. -/
def Obligations.GetIdentityReportsTheRecord : Prop :=
  ∀ (tag : Byte) (p : List Byte) (s : State), s.mlk.reply = none →
    (p ≠ [] → Refuses (.getIdentity tag p) s 0x01 tag .badLength)
      ∧ (p = [] → Accepts (.getIdentity tag p) s s 0x01 tag
          [0x5A, 0x48, 1, 48, 16, 8, 4, 4, 0x01, 0x00, 8, match s.mlk.cause with | .power => 0 | .restart => 1])

/-- Get Status: every item as it stands when the request is taken, in the order of the rule; both link counts become
0 and nothing else changes. -/
def Obligations.GetStatusReportsAndClearsCounts : Prop :=
  ∀ (tag : Byte) (s : State), s.mlk.reply = none → s.stack.length ≤ 4 →
    ∃ data : List Byte,
      Accepts (.getStatus tag []) s { s with mlk := { s.mlk with badFrames := 0, discards := 0 } } 0x02 tag data
        ∧ data =
          [if s.slc.part = .halted then 1 else 0, byteOfBool s.slc.enable, byteOfBool s.slc.shadow,
            byte s.stack.length]
          ++ ([0, 1, 2, 3].flatMap fun i => match s.stack.reverse[i]? with
              | some e => [byte e.tag.val, byteOfBool e.released]
              | none => [0xFF, 0])
          ++ (match s.sst.armed with
              | some c => [1, byte c.target.val, byte c.triggers.toNat, byte c.items.toNat]
              | none => [0, 0, 0, 0])
          ++ (([0, 1, 2, 3] : List LaneNo).flatMap fun n =>
              [match s.lanes[n].state with | .off => 0 | .live => 1 | .closing => 2 | .dead => 3,
                byte s.lanes[n].queue.length, byte s.lanes[n].owed.length])
          ++ [byte s.slc.pending.toNat, if s.bfe.lost then 2 else if s.bfe.railFault then 1 else 0,
              byte s.mlk.badFrames, byte s.mlk.discards,
              byte ((List.finRange 13).filter fun k => s.ntu.slots[k].isSome).length]
          ++ (((List.finRange 13).filter fun k => s.ntu.slots[k].isSome).map fun k => byte (0x60 + k.val))
        ∧ data.length = 33 + ((List.finRange 13).filter fun k => s.ntu.slots[k].isSome).length

/-- Restart: what every block holds once an accepted Restart has carried out its clearing, in either part state. -/
def Obligations.RestartClearsAndKeeps : Prop :=
  ∀ (tag : Byte) (s : State), s.mlk.reply = none →
    ∃ t : State, Accepts (.restart tag []) s t 0x03 tag []
      ∧ ((∀ x : Crosspoint, t.bsc.buttons[x] = { s.bsc.buttons[x] with count := 0 })
          ∧ t.bsc = { s.bsc with buttons := t.bsc.buttons })
      ∧ t.nex = s.nex ∧ t.sst = { s.sst with armed := none }
      ∧ (∀ v : Slot, t.vtb.voices[v] = { s.vtb.voices[v] with state := .free, holders := [], lanes := 0, owed := 0 })
      ∧ ((∀ x : Crosspoint, t.vtb.voicedAs[x] = none) ∧ t.vtb.seqCounter = s.vtb.seqCounter)
      ∧ t.bfe = ⟨if s.bfe.settings.mode = .fixed then s.bfe.settings.fixedOffset * 256 else 0, .push, 0, 0, .still,
          false, 0, 0, false, some 0, [], s.bfe.settings⟩
      ∧ (t.dyn.level = clampLevel 16384 s.dyn.settings.floor s.dyn.settings.ceil
          ∧ t.dyn.lastCode = some (s.sst.live.tierMap[t.dyn.level.val / 8192]'(by omega))
          ∧ (∀ n : LaneNo, t.dyn.lastSwell[n] = 0)
          ∧ t.dyn = ⟨t.dyn.level, 0, 0, 0, 0, t.dyn.lastCode, 0, 0, t.dyn.lastSwell, s.dyn.settings⟩)
      ∧ t.stack = [] ∧ t.slc = ⟨true, true, .playing, 0, 0⟩
      ∧ (∀ n : LaneNo, s.lanes[n].state = .off → t.lanes[n] = s.lanes[n])
      ∧ (∀ n : LaneNo, s.lanes[n].state ≠ .off →
          t.lanes[n].state = .live ∧ t.lanes[n].owed = [] ∧ t.lanes[n].timeout = s.lanes[n].timeout
            ∧ t.lanes[n].ready = s.lanes[n].ready
            ∧ t.lanes[n].queue = s.lanes[n].sent
                ++ [.silence, .tier (s.sst.live.tierMap[t.dyn.level.val / 8192]'(by omega)), .swell 0]
            ∧ t.lanes[n].sending = (s.lanes[n].sending || s.lanes[n].ready)
            ∧ t.lanes[n].stall = (if s.lanes[n].sending = true then s.lanes[n].stall
                else if s.lanes[n].ready = true ∨ s.lanes[n].timeout = 0 then none else some 0))
      ∧ (t.ntu.slots[0] = some { notice := .identity .restart, repeats := 0 }
          ∧ (∀ k : Fin 13, k ≠ 0 → t.ntu.slots[k] = none)
          ∧ t.ntu.meterTimer = (if s.ntu.interval = 0 then none else some 0)
          ∧ t.ntu = { s.ntu with slots := t.ntu.slots, meterTimer := t.ntu.meterTimer })
      ∧ t.mlk = { s.mlk with badFrames := 0, discards := 0, cause := .restart }
      ∧ t.pending = s.pending ∧ t.freeDraws = s.freeDraws

/-! ## The button scanner -/

/-- A scan pass, which comes when the pass timer has run for one scan interval, debounces every crosspoint from its
reading, restarts the pass timer, and leaves the Role Table, the settings of the scanner, the tables, the library, the
bellows front end and the waiting commands alone. Before that the pass does not occur, and the command for it changes
nothing (log entry 4). -/
def Obligations.ScanPassDebounces : Prop :=
  ∀ (readings : Readings) (s : State),
    ((∀ e ∈ s.bsc.passTimer, e < s.bsc.interval) → exec (.scanPass readings) s = .next s)
    ∧ ((∃ e ∈ s.bsc.passTimer, s.bsc.interval ≤ e) → ∃ t : State, exec (.scanPass readings) s = .next t
    ∧ (∀ x : Crosspoint, t.bsc.buttons[x] =
        if readings.getLsbD x.val = s.bsc.buttons[x].pressed then { s.bsc.buttons[x] with count := 0 }
        else if s.bsc.buttons[x].count + 1 = s.bsc.depth then { pressed := readings.getLsbD x.val, count := 0 }
        else { s.bsc.buttons[x] with count := s.bsc.buttons[x].count + 1 })
    ∧ t.bsc = { s.bsc with
        buttons := t.bsc.buttons, held := t.bsc.held, groupOcc := t.bsc.groupOcc, hushOcc := t.bsc.hushOcc
        passTimer := some 0 }
    ∧ t.nex = s.nex ∧ t.bfe = s.bfe ∧ t.pending = s.pending ∧ t.sst.library = s.sst.library
    ∧ t.sst.overrides = s.sst.overrides
    ∧ t.dyn = { s.dyn with lastCode := t.dyn.lastCode, lastSwell := t.dyn.lastSwell }
    ∧ t.mlk = { s.mlk with output := t.mlk.output })

/-- What a pass hands on, once the pass timer has run for one scan interval. After all debounced states are updated it hands on the releases, then the presses, each in
ascending order of crosspoint. With no flip it hands on nothing: only counts and the timer change, and the idle output
makes its choice. With the one flip of a crosspoint, the held count moves if its role is TREBLE or BASS, the change is routed by
its role, and BUTTON is raised: a playing press or release to the Voice Table, a press of a register switch as a
selection, the change of a group's occupancy between 0 and 1 to the Override Stack or to Silencing Control, a press of a
CUE crosspoint as a trigger, and nothing else anywhere. While the part is HALTED a pass routes nothing: besides the
scanner's own state only pending notices and the output can change. -/
def Obligations.PassesRouteTheirChanges : Prop :=
  ∀ (readings : Readings) (s : State), (∃ e ∈ s.bsc.passTimer, s.bsc.interval ≤ e) →
    (∀ (flips : Crosspoint → Bool) (releases presses : List Crosspoint) (u : State),
        (∀ x : Crosspoint, flips x = (readings.getLsbD x.val != s.bsc.buttons[x].pressed
          && s.bsc.buttons[x].count + 1 == s.bsc.depth)) →
        releases = ((List.finRange 256).filter fun x => flips x && s.bsc.buttons[x].pressed) →
        presses = ((List.finRange 256).filter fun x => flips x && !s.bsc.buttons[x].pressed) →
        u = { s with bsc := { s.bsc with
          buttons := tabulate fun x : Crosspoint =>
            if flips x = true then { pressed := readings.getLsbD x.val, count := 0 }
            else { s.bsc.buttons[x] with
              count := if readings.getLsbD x.val = s.bsc.buttons[x].pressed then 0 else s.bsc.buttons[x].count + 1 }
          passTimer := some 0 } } →
        exec (.scanPass readings) s = .next (presses.foldl (handOn true) (releases.foldl (handOn false) u)).arbitrate)
      ∧ ((∀ x : Crosspoint, readings.getLsbD x.val = s.bsc.buttons[x].pressed
          ∨ s.bsc.buttons[x].count + 1 ≠ s.bsc.depth) →
        ∀ t : State, t = { s with bsc := { s.bsc with
            buttons := tabulate fun x : Crosspoint => { s.bsc.buttons[x] with
              count := if readings.getLsbD x.val = s.bsc.buttons[x].pressed then 0 else s.bsc.buttons[x].count + 1 }
            passTimer := some 0 } } →
          exec (.scanPass readings) s = .next t.arbitrate)
      ∧ (∀ (x : Crosspoint) (press : Bool) (u : State), s.slc.part = .playing →
          readings.getLsbD x.val = press → s.bsc.buttons[x].pressed = !press →
          s.bsc.buttons[x].count + 1 = s.bsc.depth →
          (∀ y : Crosspoint, y ≠ x → readings.getLsbD y.val = s.bsc.buttons[y].pressed
            ∨ s.bsc.buttons[y].count + 1 ≠ s.bsc.depth) →
          u = { s with bsc := { s.bsc with
            buttons := tabulate fun y : Crosspoint => if y = x then { pressed := press, count := 0 }
              else { s.bsc.buttons[y] with
                count := if readings.getLsbD y.val = s.bsc.buttons[y].pressed then 0 else s.bsc.buttons[y].count + 1 }
            held := if s.bsc.roles[x].plays = true then (if press = true then s.bsc.held + 1 else s.bsc.held - 1)
              else s.bsc.held
            passTimer := some 0 } } →
          ∃ routed : State, exec (.scanPass readings) s = .next (routed.raise (.button x press)).arbitrate
            ∧ (s.bsc.roles[x] = .none → routed = u)
            ∧ (s.bsc.roles[x].plays = true → routed = if press = true then pressKey u x else releaseKey u x)
            ∧ (∀ n : RegNo, s.bsc.roles[x] = .trebleRegister n →
                routed = if press = true then selectRegisterIn .treble n u else u)
            ∧ (∀ n : RegNo, s.bsc.roles[x] = .bassRegister n →
                routed = if press = true then selectRegisterIn .bass n u else u)
            ∧ (∀ (n : Fin 4) (w : State), s.bsc.roles[x] = .override n →
                w = { u with bsc := { u.bsc with
                  groupOcc := s.bsc.groupOcc.set n.val
                    (if press = true then s.bsc.groupOcc[n] + 1 else s.bsc.groupOcc[n] - 1) n.isLt } } →
                routed = if press = true ∧ s.bsc.groupOcc[n] = 0 then switchPush n w
                  else if press = false ∧ s.bsc.groupOcc[n] = 1 then switchRelease n w else w)
            ∧ (∀ w : State, s.bsc.roles[x] = .hush →
                w = { u with bsc := { u.bsc with
                  hushOcc := if press = true then s.bsc.hushOcc + 1 else s.bsc.hushOcc - 1 } } →
                routed = if press = true ∧ s.bsc.hushOcc = 0 then hushPart w
                  else if press = false ∧ s.bsc.hushOcc = 1 then unhushPart w else w)
            ∧ (s.bsc.roles[x] = .cue → routed = if press = true then triggerCue .cueButton u else u))
      ∧ (s.slc.part = .halted →
          ∃ t : State, exec (.scanPass readings) s = .next t
            ∧ t = { s with
                bsc := t.bsc, ntu := { s.ntu with slots := t.ntu.slots }, mlk := { s.mlk with output := t.mlk.output } }
            ∧ ∀ k : Fin 13, k ≠ 11 → t.ntu.slots[k] = s.ntu.slots[k] ∨ (t.ntu.slots[k] = none ∧ t.mlk.output ≠ .idle))

/-- Set Scan: the checks in their order, and the effect: interval and D stored, every debounce count 0, the pass timer
from zero, the debounced states and everything else unchanged. A pass that the request is taken before does not
happen. -/
def Obligations.SetScanStoresAndRestarts : Prop :=
  ∀ (tag : Byte) (p : List Byte) (s : State), s.mlk.reply = none →
    (p.length ≠ 2 → Refuses (.setScan tag p) s 0x08 tag .badLength)
      ∧ (∀ i d : Byte, p = [i, d] →
          (s.slc.part = .halted → Refuses (.setScan tag p) s 0x08 tag .halted)
            ∧ (s.slc.part = .playing → ¬ ((1 ≤ i.toNat ∧ i.toNat ≤ 16) ∧ 1 ≤ d.toNat ∧ d.toNat ≤ 15) →
                Refuses (.setScan tag p) s 0x08 tag .outOfRange)
            ∧ (s.slc.part = .playing → (1 ≤ i.toNat ∧ i.toNat ≤ 16) → (1 ≤ d.toNat ∧ d.toNat ≤ 15) →
                ∀ t : State, t = { s with bsc := { s.bsc with
                    interval := i.toNat, depth := d.toNat, passTimer := some 0
                    buttons := tabulate fun x : Crosspoint => { s.bsc.buttons[x] with count := 0 } } } →
                  Accepts (.setScan tag p) s t 0x08 tag []
                    ∧ ∀ readings : Readings, exec (.scanPass readings) (t.replied 0x08 tag .ok [])
                      = .next (t.replied 0x08 tag .ok [])))

/-- Load Roles: a payload of 1 to 32 entries, each within its ranges, is refused WRONG_STATE when it names a PRESSED
crosspoint; otherwise each crosspoint named takes the role of its last entry, and nothing else changes. With an entry
that is the coding of no role, the request is refused OUT_OF_RANGE, pressed crosspoints or not. -/
def Obligations.LoadRolesWritesEntries : Prop :=
  ∀ (tag : Byte) (s : State), s.Taking →
    (∀ es : List (Crosspoint × Role), 1 ≤ es.length → es.length ≤ 32 →
        ((∃ e ∈ es, s.bsc.buttons[e.1].pressed = true) →
            Refuses (.loadRoles tag (es.flatMap roleBytes)) s 0x09 tag .wrongState)
          ∧ ((∀ e ∈ es, s.bsc.buttons[e.1].pressed = false) →
              ∃ t : State, Accepts (.loadRoles tag (es.flatMap roleBytes)) s t 0x09 tag []
                ∧ t = { s with bsc := { s.bsc with roles := t.bsc.roles } }
                ∧ ∀ x : Crosspoint, t.bsc.roles[x]
                    = ((es.reverse.find? fun e => e.1 == x).map Prod.snd).getD s.bsc.roles[x]))
      ∧ ∀ (before : List (Crosspoint × Role)) (bad after : List Byte),
          bad.length = 4 → after.length % 4 = 0 → 4 * before.length + 4 + after.length ≤ 128 →
          (∀ e : Crosspoint × Role, roleBytes e ≠ bad) →
            Refuses (.loadRoles tag (before.flatMap roleBytes ++ bad ++ after)) s 0x09 tag .outOfRange

/-! ## The note expander -/

/-- Folding keeps the pitch class, leaves a note of 0..127 alone, and brings a higher note into 116..127 and a lower
one into 0..11. -/
def Obligations.FoldKeepsPitchClass : Prop :=
  ∀ v : Int, ((foldPitch v).val : Int) % 12 = v % 12
    ∧ (0 ≤ v → v ≤ 127 → ((foldPitch v).val : Int) = v)
    ∧ (127 < v → 116 ≤ (foldPitch v).val)
    ∧ (v < 0 → (foldPitch v).val ≤ 11)

/-- The expansion of a treble key and of a bass button. A treble key gives one entry for each present TREBLE layer
whose register mask holds the active treble register and whose key range holds the folded note. A bass button gives,
for each present BASS layer that serves the row and the active bass register, one entry for each note of the row's
form whose folded note lies in the key range. Layers come in ascending order, the notes of one layer in the order in
which the form first gives them, no entry twice, and at most 32 entries when forms hold at most four intervals. -/
def Obligations.ExpansionNamesTheEntries : Prop :=
  ∀ (s : State) (x : Crosspoint) (d : Dir),
    (∀ (k : Fin 96) (base : Pitch), s.bsc.roles[x] = .treble k →
        base = (if s.sst.live.settings.trebleMode = .bisonoric ∧ d = .pull then s.nex.trebleTable[k].pull
          else s.nex.trebleTable[k].push) →
        (∀ (i : LayerPos) (v : Pitch), (i, v) ∈ s.expand x d ↔
            ∃ l : Layer, s.sst.live.layers[i] = some l ∧ l.sect = .treble
              ∧ l.regMask.getLsbD s.sst.live.settings.trebleReg.val = true
              ∧ v = foldPitch (base.val + l.transpose + s.sst.live.settings.transpose) ∧ l.keyLow ≤ v ∧ v ≤ l.keyHigh)
          ∧ (s.expand x d).Pairwise (fun a b => a.1 < b.1))
      ∧ (∀ (c : Fin 20) (r : Fin 6) (root : Pitch), s.bsc.roles[x] = .bass c r →
          root = (if s.sst.live.settings.bassMode = .bisonoric ∧ d = .pull then s.nex.bassTable[c].pull
            else s.nex.bassTable[c].push) →
          (∀ (i : LayerPos) (v : Pitch), (i, v) ∈ s.expand x d ↔
              ∃ l : Layer, s.sst.live.layers[i] = some l ∧ l.sect = .bass
                ∧ l.regMask.getLsbD s.sst.live.settings.bassReg.val = true ∧ l.rowMask.getLsbD r.val = true
                ∧ l.keyLow ≤ v ∧ v ≤ l.keyHigh
                ∧ ∃ interval ∈ s.nex.forms[s.nex.rowForms[r]],
                    v = foldPitch (root.val + interval.val + l.transpose + s.sst.live.settings.transpose))
            ∧ (s.expand x d).Pairwise (fun a b => a.1 ≤ b.1) ∧ (s.expand x d).Nodup
            ∧ (s.expand x d).Pairwise (fun a b => a.1 = b.1 →
                ∀ (l : Layer) (notes : List Pitch), s.sst.live.layers[a.1] = some l →
                  notes = (s.nex.forms[s.nex.rowForms[r]].map fun interval =>
                    foldPitch (root.val + interval.val + l.transpose + s.sst.live.settings.transpose)) →
                  notes.idxOf a.2 < notes.idxOf b.2)
            ∧ (s.nex.forms[s.nex.rowForms[r]].length ≤ 4 → (s.expand x d).length ≤ 32))

/-- Load Treble Pitches and Load Bass Roots: the pairs go to consecutive entries from the first one named; a run past
the end of the table, or a pitch above 127, is refused OUT_OF_RANGE. -/
def Obligations.PitchTablesAreLoaded : Prop :=
  ∀ (tag : Byte) (s : State), s.Taking →
    (∀ (first : Fin 96) (pairs : List PitchPair), 1 ≤ pairs.length → pairs.length ≤ 32 →
        (first.val + pairs.length ≤ 96 →
            ∃ t : State,
              Accepts (.loadTreblePitches tag
                (byte first.val :: pairs.flatMap fun q => [byte q.push.val, byte q.pull.val])) s t 0x0C tag []
              ∧ t = { s with nex := { s.nex with trebleTable := t.nex.trebleTable } }
              ∧ ∀ k : Fin 96, t.nex.trebleTable[k] =
                  if first ≤ k then (pairs[k.val - first.val]?).getD s.nex.trebleTable[k] else s.nex.trebleTable[k])
          ∧ ∀ f : Byte, 96 < f.toNat + pairs.length →
              Refuses (.loadTreblePitches tag
                (f :: pairs.flatMap fun q => [byte q.push.val, byte q.pull.val])) s 0x0C tag .outOfRange)
      ∧ (∀ (first : Fin 20) (pairs : List PitchPair), 1 ≤ pairs.length → pairs.length ≤ 20 →
          (first.val + pairs.length ≤ 20 →
              ∃ t : State,
                Accepts (.loadBassRoots tag
                  (byte first.val :: pairs.flatMap fun q => [byte q.push.val, byte q.pull.val])) s t 0x0D tag []
                ∧ t = { s with nex := { s.nex with bassTable := t.nex.bassTable } }
                ∧ ∀ k : Fin 20, t.nex.bassTable[k] =
                    if first ≤ k then (pairs[k.val - first.val]?).getD s.nex.bassTable[k] else s.nex.bassTable[k])
            ∧ ∀ f : Byte, 20 < f.toNat + pairs.length →
                Refuses (.loadBassRoots tag
                  (f :: pairs.flatMap fun q => [byte q.push.val, byte q.pull.val])) s 0x0D tag .outOfRange)
      ∧ ∀ (first b : Byte) (before after : List Byte), 127 < b.toNat →
          (before.length + after.length) % 2 = 1 →
          (before.length + after.length ≤ 63 →
              Refuses (.loadTreblePitches tag (first :: before ++ b :: after)) s 0x0C tag .outOfRange)
            ∧ (before.length + after.length ≤ 39 →
                Refuses (.loadBassRoots tag (first :: before ++ b :: after)) s 0x0D tag .outOfRange)

/-- Load Chord Form replaces one form whole by the 1 to 4 intervals given, and Set Row Forms all six row entries; a
form above 7 or an interval above 36 is refused OUT_OF_RANGE. -/
def Obligations.ChordTablesAreLoaded : Prop :=
  ∀ (tag : Byte) (s : State), s.Taking →
    (∀ (form : Fin 8) (intervals : List (Fin 37)), 1 ≤ intervals.length → intervals.length ≤ 4 →
        Accepts (.loadChordForm tag (byte form.val :: intervals.map fun i => byte i.val)) s
          { s with nex := { s.nex with forms := s.nex.forms.set form.val intervals form.isLt } } 0x0E tag [])
      ∧ (∀ (form : Byte) (intervals : List Byte), 1 ≤ intervals.length → intervals.length ≤ 4 →
          (7 < form.toNat ∨ ∃ i ∈ intervals, 36 < i.toNat) →
            Refuses (.loadChordForm tag (form :: intervals)) s 0x0E tag .outOfRange)
      ∧ (∀ forms : Vector (Fin 8) 6,
          Accepts (.setRowForms tag (forms.toList.map fun f => byte f.val)) s
            { s with nex := { s.nex with rowForms := forms } } 0x0F tag [])
      ∧ ∀ forms : List Byte, forms.length = 6 → (∃ f ∈ forms, 7 < f.toNat) →
          Refuses (.setRowForms tag forms) s 0x0F tag .outOfRange

/-- Set Transpose: the checks in their order, and the effect: the live transpose takes the value given, whatever it
was; no voice is re-expanded and nothing else changes. -/
def Obligations.SetTransposeWritesTheValue : Prop :=
  ∀ (tag : Byte) (p : List Byte) (s : State), s.mlk.reply = none →
    (p.length ≠ 1 → Refuses (.setTranspose tag p) s 0x11 tag .badLength)
      ∧ ∀ b : Byte, p = [b] →
          (s.slc.part = .halted → Refuses (.setTranspose tag p) s 0x11 tag .halted)
            ∧ (s.slc.part = .playing → (b.toInt < -24 ∨ 24 < b.toInt) →
                Refuses (.setTranspose tag p) s 0x11 tag .outOfRange)
            ∧ (s.slc.part = .playing → -24 ≤ b.toInt → b.toInt ≤ 24 →
                Accepts (.setTranspose tag p) s
                  { s with sst := { s.sst with live := { s.sst.live with
                      settings := { s.sst.live.settings with transpose := b.toInt } } } } 0x11 tag [])

/-- Set Section Modes: both modes are written; with neither changed nothing else happens; with one or both changed the
voiced crosspoints of the changed sections are re-expanded under BD, as one re-expansion that reads both new modes, and
only the Voice Table's work follows. A byte above 1 is refused OUT_OF_RANGE. -/
def Obligations.SetSectionModesWritesBoth : Prop :=
  ∀ (tag : Byte) (s : State), s.Taking →
    (∀ (treble bass : Mode) (u : State),
        u = { s with sst := { s.sst with live := { s.sst.live with
            settings := { s.sst.live.settings with trebleMode := treble, bassMode := bass } } } } →
        ∃ t : State, Accepts (.setSectionModes tag [treble.byte, bass.byte]) s t 0x10 tag []
          ∧ OnlyVoiceWork u t
          ∧ t = reexpand false s.bfe.bd (s.voicedOf fun
              | .treble => treble != s.sst.live.settings.trebleMode
              | .bass => bass != s.sst.live.settings.bassMode) u
          ∧ (treble = s.sst.live.settings.trebleMode → bass = s.sst.live.settings.bassMode → t = s)
          ∧ ((∀ x : Crosspoint, s.vtb.voicedAs[x] = none) → t = u))
      ∧ ∀ a b : Byte, (1 < a.toNat ∨ 1 < b.toNat) → Refuses (.setSectionModes tag [a, b]) s 0x10 tag .outOfRange

/-! ## The scene store -/

/-- Begin Scene and Erase Scene: the checks in their order, and the effect: the scene becomes PARTIAL, or EMPTY, and
is cleared whatever it was; nothing else changes. -/
def Obligations.BeginAndEraseClearTheScene : Prop :=
  ∀ (tag : Byte) (p : List Byte) (s : State), s.mlk.reply = none →
    (p.length ≠ 1 → Refuses (.beginScene tag p) s 0x14 tag .badLength
        ∧ Refuses (.eraseScene tag p) s 0x18 tag .badLength)
      ∧ ∀ b : Byte, p = [b] →
          (s.slc.part = .halted → Refuses (.beginScene tag p) s 0x14 tag .halted
              ∧ Refuses (.eraseScene tag p) s 0x18 tag .halted)
            ∧ (s.slc.part = .playing → 15 < b.toNat → Refuses (.beginScene tag p) s 0x14 tag .outOfRange
                ∧ Refuses (.eraseScene tag p) s 0x18 tag .outOfRange)
            ∧ ∀ (n : SceneNo) (begun erased : Scene), s.slc.part = .playing → b = byte n.val →
                begun = ⟨.loading, Vector.replicate 8 none, ⟨0, 0, 0, .unisonoric, .unisonoric⟩,
                  ⟨#[0, 1, 2, 3, 4, 5, 6, 7], rfl⟩⟩ →
                erased = ⟨.empty, Vector.replicate 8 none, ⟨0, 0, 0, .unisonoric, .unisonoric⟩,
                  ⟨#[0, 1, 2, 3, 4, 5, 6, 7], rfl⟩⟩ →
                Accepts (.beginScene tag p) s
                    { s with sst := { s.sst with library := s.sst.library.set n.val begun n.isLt } } 0x14 tag []
                  ∧ Accepts (.eraseScene tag p) s
                    { s with sst := { s.sst with library := s.sst.library.set n.val erased n.isLt } } 0x18 tag []

/-- Loading a scene: Load Layer writes one position and Set Scene Defaults all defaults of a PARTIAL scene; Finish
Scene makes a PARTIAL scene with a layer VALID. In any other state of the scene each is refused WRONG_STATE. Before that, a
payload with a field out of its range is refused OUT_OF_RANGE, whatever the scene's state: for Load Layer also a row mask
that does not suit the section, an empty row, register or lane mask, and a key high below the key low. -/
def Obligations.ScenesAreLoadedWhilePartial : Prop :=
  ∀ (tag : Byte) (n : SceneNo) (c : Scene) (s : State), s.Taking → s.sst.library[n] = c →
    (∀ (i : LayerPos) (l : Layer), l.Valid →
        (c.state = .loading →
            Accepts (.loadLayer tag (layerBytes n i l)) s
              (s.setScene n { c with layers := c.layers.set i.val (some l) i.isLt }) 0x15 tag [])
          ∧ (c.state ≠ .loading → Refuses (.loadLayer tag (layerBytes n i l)) s 0x15 tag .wrongState))
      ∧ (∀ (d : Settings) (map : Vector TierCode 8) (p : List Byte), -24 ≤ d.transpose → d.transpose ≤ 24 →
          p = [byte n.val, byte d.trebleReg.val, byte d.bassReg.val, signedByte d.transpose, d.trebleMode.byte,
              d.bassMode.byte] ++ map.toList.map (fun code => byte code.val) →
          (c.state = .loading →
              Accepts (.setSceneDefaults tag p) s (s.setScene n { c with defaults := d, tierMap := map }) 0x16 tag [])
            ∧ (c.state ≠ .loading → Refuses (.setSceneDefaults tag p) s 0x16 tag .wrongState))
      ∧ (c.state = .loading → (∃ i : LayerPos, c.layers[i] ≠ none) →
          Accepts (.finishScene tag [byte n.val]) s (s.setScene n { c with state := .valid }) 0x17 tag [])
      ∧ (c.state ≠ .loading ∨ (∀ i : LayerPos, c.layers[i] = none) →
          Refuses (.finishScene tag [byte n.val]) s 0x17 tag .wrongState)
      ∧ (∀ scene pos sect rows regsHi regsLo progHi progLo lanes transpose low high priority carry : Byte,
          (15 < scene.toNat ∨ 7 < pos.toNat ∨ 1 < sect.toNat ∨ (sect = 0 ∧ rows ≠ 0)
            ∨ (sect = 1 ∧ (rows = 0 ∨ 63 < rows.toNat)) ∨ (regsHi = 0 ∧ regsLo = 0)
            ∨ 16383 < progHi.toNat * 256 + progLo.toNat ∨ lanes = 0 ∨ 15 < lanes.toNat
            ∨ transpose.toInt < -48 ∨ 48 < transpose.toInt ∨ 127 < low.toNat ∨ 127 < high.toNat
            ∨ high.toNat < low.toNat ∨ 3 < priority.toNat ∨ 1 < carry.toNat) →
          Refuses (.loadLayer tag
              [scene, pos, sect, rows, regsHi, regsLo, progHi, progLo, lanes, transpose, low, high, priority, carry])
            s 0x15 tag .outOfRange)
      ∧ (∀ (scene treble bass transpose trebleMode bassMode : Byte) (codes : List Byte), codes.length = 8 →
          (15 < scene.toNat ∨ 15 < treble.toNat ∨ 15 < bass.toNat ∨ transpose.toInt < -24 ∨ 24 < transpose.toInt
            ∨ 1 < trebleMode.toNat ∨ 1 < bassMode.toNat ∨ ∃ code ∈ codes, 15 < code.toNat) →
          Refuses (.setSceneDefaults tag ([scene, treble, bass, transpose, trebleMode, bassMode] ++ codes))
            s 0x16 tag .outOfRange)
      ∧ ∀ b : Byte, 15 < b.toNat → Refuses (.finishScene tag [b]) s 0x17 tag .outOfRange

/-- Arm Cue replaces the armed cue, whatever the target's state, and says whether one was armed; Cancel Cue removes it,
or is refused WRONG_STATE when none is armed. Neither fires a cue or raises a notice. -/
def Obligations.CueIsArmedAndCancelled : Prop :=
  ∀ (tag : Byte) (s : State), s.Taking →
    (∀ (target triggers items : Byte),
        (15 < target.toNat ∨ triggers = 0 ∨ 15 < triggers.toNat ∨ items = 0 ∨ 7 < items.toNat →
            Refuses (.armCue tag [target, triggers, items]) s 0x19 tag .outOfRange)
          ∧ (target.toNat ≤ 15 → triggers ≠ 0 → triggers.toNat ≤ 15 → items ≠ 0 → items.toNat ≤ 7 →
              Accepts (.armCue tag [target, triggers, items]) s
                { s with sst := { s.sst with
                    armed := some ⟨Fin.ofNat 16 target.toNat, triggers.setWidth 4, items.setWidth 3⟩ } }
                0x19 tag [if s.sst.armed = none then 0 else 1]))
      ∧ (s.sst.armed = none → Refuses (.cancelCue tag []) s 0x1A tag .wrongState)
      ∧ (s.sst.armed ≠ none →
          Accepts (.cancelCue tag []) s { s with sst := { s.sst with armed := none } } 0x1A tag [])

/-- Fire Cue: refused WRONG_STATE without an armed cue that has HOST among its triggers; otherwise the cue is disarmed
and CUE raised, and the transfer is carried out, or fails with outcome 1 and no other effect when the target is not
VALID. -/
def Obligations.FireCueFiresOnce : Prop :=
  (∀ (tag : Byte) (s : State), s.Taking →
    (s.sst.armed = none → Refuses (.fireCue tag []) s 0x1B tag .wrongState)
      ∧ ∀ c ∈ s.sst.armed,
          (c.triggers.getLsbD 0 = false → Refuses (.fireCue tag []) s 0x1B tag .wrongState)
            ∧ (c.triggers.getLsbD 0 = true → s.sst.library[c.target].state ≠ .valid →
                Accepts (.fireCue tag []) s
                  (({ s with sst := { s.sst with armed := none } } : State).raise (.cue false c.target .host))
                  0x1B tag [1])
            ∧ (c.triggers.getLsbD 0 = true → s.sst.library[c.target].state = .valid →
                ∃ t : State, Accepts (.fireCue tag []) s t 0x1B tag [0] ∧ t = triggerCue .host s
                  ∧ OnlyVoiceAndTierWork
                      { s with sst := { s.sst with
                          armed := none
                          live := s.sst.live.transferred c.target s.sst.library[c.target] c.items } } t
                  ∧ (∃ p ∈ t.ntu.slots[(5 : Fin 13)], p.notice = .cue true c.target .host)
                  ∧ ∀ x : Crosspoint, t.vtb.voicedAs[x] = none ↔ s.vtb.voicedAs[x] = none))
    ∧ ∀ (trigger : Trigger) (bit : Nat) (s : State),
        bit = (match trigger with | .host => 0 | .cueLine => 1 | .cueButton => 2 | .reversal => 3) →
        ((∀ c ∈ s.sst.armed, c.triggers.getLsbD bit = false) → triggerCue trigger s = s)
          ∧ ∀ c ∈ s.sst.armed, c.triggers.getLsbD bit = true →
              (s.sst.library[c.target].state ≠ .valid →
                  triggerCue trigger s
                    = ({ s with sst := { s.sst with armed := none } } : State).raise (.cue false c.target trigger))
                ∧ (s.sst.library[c.target].state = .valid → ∀ t : State, t = triggerCue trigger s →
                    (∃ u : State,
                        Transferred c.target c.items (trigger != .reversal)
                            { s with sst := { s.sst with armed := none } } u
                          ∧ t = u.raise (.cue true c.target trigger))
                      ∧ OnlyVoiceAndTierWork
                        { s with sst := { s.sst with
                            armed := none
                            live := s.sst.live.transferred c.target s.sst.library[c.target] c.items } } t
                      ∧ (∃ p ∈ t.ntu.slots[(5 : Fin 13)], p.notice = .cue true c.target trigger)
                      ∧ (∀ x : Crosspoint, t.vtb.voicedAs[x] = none ↔ s.vtb.voicedAs[x] = none)
                      ∧ (trigger = .reversal → c.items.getLsbD 0 = false → t.vtb = s.vtb))

/-- Take Scene: refused WRONG_STATE when the scene is not VALID; otherwise all three items are copied, the tier check
follows, and then the cue transfer of LAYERS (R80): the SOUNDING voices of carry positions end, ascending, the voiced
crosspoints join the entries of carry layers, ascending and in list order, and the other voices sound on. Every voice
that had been SOUNDING or OWED and still is has become ORPHAN unless it was started by the take, and the armed cue, the
stack and the voiced-as table stay as they were. -/
def Obligations.TakeSceneCopiesAllItems : Prop :=
  ∀ (tag : Byte) (n : SceneNo) (s : State), s.Taking →
    (s.sst.library[n].state ≠ .valid → Refuses (.takeScene tag [byte n.val]) s 0x1C tag .wrongState)
      ∧ (s.sst.library[n].state = .valid →
          ∃ t : State, Accepts (.takeScene tag [byte n.val]) s t 0x1C tag []
            ∧ Transferred n 7 true s t
            ∧ OnlyVoiceAndTierWork
                { s with sst := { s.sst with live := s.sst.live.transferred n s.sst.library[n] 7 } } t
            ∧ t.vtb.voicedAs = s.vtb.voicedAs
            ∧ ∀ v : Slot, t.vtb.voices[v].state ≠ .free → t.vtb.voices[v].origin = .live →
                ∃ l : Layer, s.sst.library[n].layers[t.vtb.voices[v].layer] = some l ∧ l.carry = true
                  ∧ t.vtb.voices[v].program = l.program ∧ t.vtb.voices[v].priority = l.priority)
      ∧ ∀ b : Byte, 15 < b.toNat → Refuses (.takeScene tag [b]) s 0x1C tag .outOfRange

/-- The cue line detector: what a rise, a fall and the timer's expiry do in each of its states. An expiry in
QUALIFYING, 1 ms after the rise, is a CUE_LINE trigger: it fires an armed cue that has the trigger, whether its target is
VALID or not, and has no other effect otherwise. The model's choice (log entry 4): an event that the table says does not
occur, a rise in QUALIFYING or WAIT_FALL and an expiry outside QUALIFYING or before its time, changes nothing but the
level of the pin. -/
def Obligations.CueLineDetectorMoves : Prop :=
  ∀ s : State,
    exec .cueLineRise s = .next
        { s with sst := { s.sst with
            cuePin := true
            detector := if s.sst.detector = .waitRise then .qualifying else s.sst.detector
            qualTimer := if s.sst.detector = .waitRise then some 0 else s.sst.qualTimer } }
      ∧ exec .cueLineFall s = .next
        { s with sst := { s.sst with
            cuePin := false, detector := .waitRise
            qualTimer := if s.sst.detector = .waitRise then s.sst.qualTimer else none } }
      ∧ (s.sst.detector = .qualifying → (∃ e ∈ s.sst.qualTimer, 4 ≤ e) → ∀ u : State,
          u = { s with sst := { s.sst with detector := .waitFall, qualTimer := none } } →
          exec .cueQualificationExpiry s = .next (triggerCue .cueLine u).arbitrate
            ∧ ((∀ c ∈ s.sst.armed, c.triggers.getLsbD 1 = false) →
              exec .cueQualificationExpiry s = .next u.arbitrate)
            ∧ ∀ c ∈ s.sst.armed, c.triggers.getLsbD 1 = true → s.sst.library[c.target].state ≠ .valid →
                exec .cueQualificationExpiry s = .next
                  (({ u with sst := { u.sst with armed := none } } : State).raise
                    (.cue false c.target .cueLine)).arbitrate)
      ∧ (s.sst.detector ≠ .qualifying ∨ (∀ e ∈ s.sst.qualTimer, e < 4) → exec .cueQualificationExpiry s = .next s)

/-- Select Register: the register that is active already changes nothing; another becomes the section's active
register, the other section's stays, the voiced crosspoints of that section are re-expanded under BD, and only the
Voice Table's work follows. A register switch's selection (`selectRegisterIn`) does the same. -/
def Obligations.SelectRegisterChangesOneSection : Prop :=
  (∀ (tag : Byte) (n : RegNo) (s : State), s.Taking →
    (∃ t : State, Accepts (.selectRegister tag [0, byte n.val]) s t 0x1D tag []
        ∧ t = selectRegisterIn .treble n s
        ∧ OnlyVoiceWork { s with sst := { s.sst with live := { s.sst.live with
            settings := { s.sst.live.settings with trebleReg := n } } } } t)
      ∧ (∃ t : State, Accepts (.selectRegister tag [1, byte n.val]) s t 0x1D tag []
          ∧ t = selectRegisterIn .bass n s
          ∧ OnlyVoiceWork { s with sst := { s.sst with live := { s.sst.live with
              settings := { s.sst.live.settings with bassReg := n } } } } t)
      ∧ ∀ a b : Byte, (1 < a.toNat ∨ 15 < b.toNat) → Refuses (.selectRegister tag [a, b]) s 0x1D tag .outOfRange)
    ∧ ∀ (n : RegNo) (s : State),
      (s.sst.live.settings.trebleReg = n → selectRegisterIn .treble n s = s)
        ∧ (s.sst.live.settings.trebleReg ≠ n → ∀ u : State,
            u = { s with sst := { s.sst with live := { s.sst.live with
              settings := { s.sst.live.settings with trebleReg := n } } } } →
            selectRegisterIn .treble n s = reexpand false s.bfe.bd (s.voicedOf fun c => c == .treble) u)
        ∧ (s.sst.live.settings.bassReg = n → selectRegisterIn .bass n s = s)
        ∧ (s.sst.live.settings.bassReg ≠ n → ∀ u : State,
            u = { s with sst := { s.sst with live := { s.sst.live with
              settings := { s.sst.live.settings with bassReg := n } } } } →
            selectRegisterIn .bass n s = reexpand false s.bfe.bd (s.voicedOf fun c => c == .bass) u)

/-- Load Override replaces one definition whole, whatever the library holds, and changes nothing else. A definition number
above 3, a target or a register of 16 to 254, a delta outside −24..+24, or a mode byte other than 0, 1 and 0xFF is refused
OUT_OF_RANGE. -/
def Obligations.LoadOverrideReplacesTheDefinition : Prop :=
  ∀ (tag : Byte) (s : State), s.Taking →
    (∀ (n : Fin 4) (d : OverrideDef), -24 ≤ d.delta → d.delta ≤ 24 →
        Accepts (.loadOverride tag (byte n.val :: overrideBytes d)) s
          { s with sst := { s.sst with overrides := s.sst.overrides.set n.val d n.isLt } } 0x1E tag [])
      ∧ ∀ n target treble bass delta trebleMode bassMode : Byte,
          (3 < n.toNat ∨ DefinitionOutOfRange target treble bass delta trebleMode bassMode) →
          Refuses (.loadOverride tag [n, target, treble, bass, delta, trebleMode, bassMode]) s 0x1E tag .outOfRange

/-! ## The voice table -/

/-- End of a SOUNDING voice: no holder and no lane is left, each lane of its lane set is settled by withdrawing the
unsent Start, by accepting the Stop, or by owing it, and the voice is FREE exactly when no lane owes. A withdrawal leaves
the in-transmission mark and the ready line alone; the stall timer runs on while records remain, and stops when the queue
is then empty. An accepted Stop joins the tail, where in an empty queue the lane begins to send or to wait (`Lane.joined`).
Each lane is given whole. -/
def Obligations.EndSettlesEveryLane : Prop :=
  ∀ (s t : State) (v : Slot), s.vtb.voices[v].state = .sounding → t = endVoice s v →
    (t.vtb.voices[v].holders = [] ∧ t.vtb.voices[v].lanes = 0
        ∧ t.vtb.voices[v].state = if t.vtb.voices[v].owed = 0 then .free else .owed)
      ∧ (∀ w : Slot, w ≠ v → t.vtb.voices[w] = s.vtb.voices[w])
      ∧ (∀ n : LaneNo, s.vtb.voices[v].lanes.getLsbD n.val = false →
          t.lanes[n] = s.lanes[n]
            ∧ t.vtb.voices[v].owed.getLsbD n.val = s.vtb.voices[v].owed.getLsbD n.val)
      ∧ (∀ n : LaneNo, s.vtb.voices[v].lanes.getLsbD n.val = true →
          if s.lanes[n].unsent.any (LaneRecord.isStartOf v) then
            (∀ queue : List LaneRecord,
                queue = s.lanes[n].sent ++ s.lanes[n].unsent.eraseP (LaneRecord.isStartOf v) →
                t.lanes[n] = { s.lanes[n] with queue := queue, stall := if queue = [] then none else s.lanes[n].stall })
              ∧ t.vtb.voices[v].owed.getLsbD n.val = s.vtb.voices[v].owed.getLsbD n.val
          else if (s.lanes[n].state = .live ∨ s.lanes[n].state = .closing) ∧ s.lanes[n].queue.length < 32 then
            t.lanes[n] = s.lanes[n].joined (.stop v)
              ∧ t.vtb.voices[v].owed.getLsbD n.val = s.vtb.voices[v].owed.getLsbD n.val
          else t.lanes[n] = { s.lanes[n] with owed := s.lanes[n].owed ++ [v] }
              ∧ t.vtb.voices[v].owed.getLsbD n.val = true)
      ∧ t = { s with vtb := { s.vtb with voices := t.vtb.voices }, lanes := t.lanes }

/-- A join finds the one SOUNDING LIVE voice of its layer and pitch: with room the crosspoint is appended to its
holders, and with six holders VOICE_LOSS is raised. A crosspoint among the holders already changes nothing (log entry 6,
DEDUCED). With no such voice the join is an allocation. A press joins the entries of its expansion under BD in list order
and voices the crosspoint; with E = 0 it changes nothing. -/
def Obligations.JoinSharesTheVoice : Prop :=
  (∀ (s : State) (x : Crosspoint) (i : LayerPos) (pitch : Pitch) (v : Slot),
    s.vtb.LiveDistinct → s.vtb.voices[v].state = .sounding → s.vtb.voices[v].origin = .live →
    s.vtb.voices[v].layer = i → s.vtb.voices[v].pitch = pitch →
    (x ∈ s.vtb.voices[v].holders → joinEntry x s (i, pitch) = s)
      ∧ (x ∉ s.vtb.voices[v].holders → s.vtb.voices[v].holders.length < 6 →
        joinEntry x s (i, pitch) = s.setVoice v { s.vtb.voices[v] with holders := s.vtb.voices[v].holders ++ [x] })
      ∧ (x ∉ s.vtb.voices[v].holders → 6 ≤ s.vtb.voices[v].holders.length →
        joinEntry x s (i, pitch) = s.raise (.voiceLoss .holderFull (some v) x)))
    ∧ (∀ (s : State) (x : Crosspoint) (i : LayerPos) (pitch : Pitch),
        (∀ v : Slot, s.vtb.voices[v].state = .sounding → s.vtb.voices[v].origin = .live →
          ¬ (s.vtb.voices[v].layer = i ∧ s.vtb.voices[v].pitch = pitch)) →
        joinEntry x s (i, pitch) = allocate x s (i, pitch))
    ∧ ∀ (s : State) (x : Crosspoint), s.slc.part = .playing →
        (s.slc.enable = true →
            pressKey s x
              = ((s.expand x s.bfe.bd).foldl (joinEntry x) s).setVoicedAs [x] (some s.bfe.bd)
            ∧ OnlyVoiceWork s (pressKey s x) ∧ (pressKey s x).vtb.voicedAs[x] = some s.bfe.bd
            ∧ ∀ y : Crosspoint, y ≠ x → (pressKey s x).vtb.voicedAs[y] = s.vtb.voicedAs[y])
          ∧ (s.slc.enable = false → pressKey s x = s)

/-- Allocation. In the lowest FREE slot the voice is written and its Start offered to the lanes of the layer: a LIVE
lane with fewer than 28 records takes it at its tail (`Lane.joined`) and joins the voice's lane set, a LIVE lane
without room raises LANE_OVERRUN, which names it (the highest lane, where several refuse), and with no lane taking it
the slot is FREE again and VOICE_LOSS (dropped) is raised. With no FREE slot the SOUNDING voice of lowest priority, of
those the oldest, and of those the lowest slot, is ended if its priority is not above the layer's, and its slot is
filled if that leaves it FREE; otherwise the request is dropped, naming no voice. That this is so too when all 48
slots are OWED is the model's reading (log entry 13, DEDUCED). -/
def Obligations.AllocationFillsOrSteals : Prop :=
  ∀ (s t : State) (x : Crosspoint) (i : LayerPos) (pitch : Pitch) (l : Layer), s.sst.live.layers[i] = some l →
    t = allocate x s (i, pitch) →
    (∀ v : Slot, s.vtb.voices[v].state = .free → (∀ w : Slot, w < v → s.vtb.voices[w].state ≠ .free) →
        ∀ taken : LaneNo → Bool,
          (∀ n : LaneNo, taken n = (l.laneMask.getLsbD n.val && s.lanes[n].state == .live
            && decide (s.lanes[n].queue.length < 28))) →
          t.vtb.seqCounter = s.vtb.seqCounter + 1
            ∧ t = fillSlot x (i, pitch) l s v
            ∧ (∀ n : LaneNo, t.lanes[n] =
                if taken n = true then s.lanes[n].joined (.start v l.program pitch s.tierCode) else s.lanes[n])
            ∧ t.vtb.voices[v] =
                { state := if ∃ n, taken n = true then .sounding else .free
                  origin := .live, layer := i, priority := l.priority, program := l.program, pitch := pitch
                  lanes := t.vtb.voices[v].lanes, owed := 0
                  holders := if ∃ n, taken n = true then [x] else [], startSeq := s.vtb.seqCounter }
            ∧ (∀ n : LaneNo, t.vtb.voices[v].lanes.getLsbD n.val = taken n)
            ∧ ((∀ n : LaneNo, taken n = false) →
                ∃ p ∈ t.ntu.slots[(8 : Fin 13)], p.notice = .voiceLoss .dropped (some v) x)
            ∧ ((∃ n : LaneNo, taken n = true) → t.ntu.slots[(8 : Fin 13)] = s.ntu.slots[(8 : Fin 13)])
            ∧ (∀ n : LaneNo, l.laneMask.getLsbD n.val = true → s.lanes[n].state = .live → taken n = false →
                (∀ k : LaneNo, n < k → l.laneMask.getLsbD k.val = true → s.lanes[k].state = .live → taken k = true) →
                ∃ p ∈ t.ntu.slots[(7 : Fin 13)], p.notice = .laneOverrun n v)
            ∧ ((∀ n : LaneNo, l.laneMask.getLsbD n.val = true → s.lanes[n].state = .live → taken n = true) →
                t.ntu.slots[(7 : Fin 13)] = s.ntu.slots[(7 : Fin 13)])
            ∧ (∀ w : Slot, w ≠ v → t.vtb.voices[w] = s.vtb.voices[w])
            ∧ OnlyVoiceWork s t)
      ∧ ((∀ v : Slot, s.vtb.voices[v].state ≠ .free) →
          ((∀ v : Slot, s.vtb.voices[v].state = .sounding → l.priority < s.vtb.voices[v].priority) →
              t = s.raise (.voiceLoss .dropped none x))
            ∧ ∀ (v : Slot) (u : State), s.vtb.voices[v].state = .sounding → s.vtb.voices[v].priority ≤ l.priority →
                (∀ w : Slot, w ≠ v → s.vtb.voices[w].state = .sounding →
                  s.vtb.voices[v].priority < s.vtb.voices[w].priority
                    ∨ (s.vtb.voices[v].priority = s.vtb.voices[w].priority
                      ∧ ((s.vtb.seqCounter - s.vtb.voices[w].startSeq).toNat
                            < (s.vtb.seqCounter - s.vtb.voices[v].startSeq).toNat
                        ∨ (s.vtb.voices[v].startSeq = s.vtb.voices[w].startSeq ∧ v < w)))) →
                u = endVoice s v →
                (u.vtb.voices[v].state = .free →
                    t = fillSlot x (i, pitch) l (u.raise (.voiceLoss .stolen (some v) x)) v)
                  ∧ (u.vtb.voices[v].state ≠ .free → t = u.raise (.voiceLoss .dropped none x)))

/-- A release: the crosspoint leaves every voice that holds it, by ascending slot, each leave taking it from the holders and
making End (`endVoice`) at its turn when no holder is left; then the crosspoint is unvoiced. So it is in no holder list any
more, every other holder stays in its place, a voice that another crosspoint holds keeps its state and its lanes, and each
lane keeps its state, its timeout and its ready line. -/
def Obligations.ReleaseLeavesEveryVoice : Prop :=
  ∀ (s t : State) (x : Crosspoint), s.vtb.Coherent → t = releaseKey s x →
    (∀ v : Slot, t.vtb.voices[v].holders = s.vtb.voices[v].holders.erase x ∧ x ∉ t.vtb.voices[v].holders)
      ∧ (∀ v : Slot, x ∉ s.vtb.voices[v].holders → t.vtb.voices[v] = s.vtb.voices[v])
      ∧ (∀ v : Slot, s.vtb.voices[v].holders.erase x ≠ [] →
          t.vtb.voices[v] = { s.vtb.voices[v] with holders := s.vtb.voices[v].holders.erase x })
      ∧ (∀ v : Slot, x ∈ s.vtb.voices[v].holders → s.vtb.voices[v].holders.erase x = [] →
          t.vtb.voices[v].state ≠ .sounding)
      ∧ (∀ y : Crosspoint, t.vtb.voicedAs[y] = if y = x then none else s.vtb.voicedAs[y])
      ∧ (∀ leave : State → Slot → State,
          (∀ (u : State) (v : Slot), leave u v =
            if u.vtb.voices[v].holders.erase x = [] then
              endVoice (u.setVoice v { u.vtb.voices[v] with holders := [] }) v
            else u.setVoice v { u.vtb.voices[v] with holders := u.vtb.voices[v].holders.erase x }) →
          t = (((List.finRange 48).filter fun v => x ∈ s.vtb.voices[v].holders).foldl leave s).setVoicedAs [x] none)
      ∧ KeepsLaneStates s t
      ∧ t = { s with vtb := { s.vtb with voices := t.vtb.voices, voicedAs := t.vtb.voicedAs }, lanes := t.lanes }

/-- A re-expansion. The voices a crosspoint leaves are those of its old set, the SOUNDING LIVE voices it holds, that
stand for no entry of its new list, and at a reversal also the SOUNDING ORPHAN voices it holds if its section is
BISONORIC; what it joins are the entries that no voice of its old set stands for. All leaves come before all joins, each
crosspoint by crosspoint, leaves by ascending slot and joins in list order; then the crosspoints are voiced in the new
direction. The sets are those at the event (log entry 7, DEDUCED). A re-expansion whose new lists name exactly the voices
the crosspoints hold touches no voice and no lane. A reversal re-expands every voiced crosspoint under BD. -/
def Obligations.MatchedVoicesAreUntouched : Prop :=
  (∀ (s : State) (d : Dir) (xs : List Crosspoint),
    (∀ x ∈ xs, ∀ v : Slot, x ∈ s.vtb.voices[v].holders → s.vtb.voices[v].state = .sounding →
        s.vtb.voices[v].origin = .live → (s.vtb.voices[v].layer, s.vtb.voices[v].pitch) ∈ s.expand x d) →
    (∀ x ∈ xs, ∀ e ∈ s.expand x d, ∃ v : Slot, x ∈ s.vtb.voices[v].holders ∧ s.vtb.voices[v].state = .sounding
        ∧ s.vtb.voices[v].origin = .live ∧ s.vtb.voices[v].layer = e.1 ∧ s.vtb.voices[v].pitch = e.2) →
    reexpand false d xs s = s.setVoicedAs xs (some d))
    ∧ (∀ (s left joined : State) (orphans : Bool) (d : Dir) (xs : List Crosspoint)
        (leave : Crosspoint → State → Slot → State), s.vtb.Coherent → xs.Nodup →
        (∀ (x : Crosspoint) (t : State) (v : Slot), leave x t v =
          if t.vtb.voices[v].holders.erase x = [] then endVoice (t.setVoice v { t.vtb.voices[v] with holders := [] }) v
          else t.setVoice v { t.vtb.voices[v] with holders := t.vtb.voices[v].holders.erase x }) →
        left = xs.foldl (fun t x =>
          ((List.finRange 48).filter fun v => x ∈ s.vtb.voices[v].holders ∧ s.vtb.voices[v].soundsOrphan = true
              ∧ orphans = true ∧ s.modeOf x = some .bisonoric).foldl (leave x)
            (((List.finRange 48).filter fun v => x ∈ s.vtb.voices[v].holders ∧ s.vtb.voices[v].soundsLive = true
              ∧ (s.vtb.voices[v].layer, s.vtb.voices[v].pitch) ∉ s.expand x d).foldl (leave x) t)) s →
        joined = xs.foldl (fun t x =>
          ((s.expand x d).filter fun e => ∀ v : Slot, ¬ (x ∈ s.vtb.voices[v].holders
              ∧ s.vtb.voices[v].soundsLive = true ∧ s.vtb.voices[v].layer = e.1 ∧ s.vtb.voices[v].pitch = e.2)).foldl
            (joinEntry x) t) left →
        reexpand orphans d xs s = joined.setVoicedAs xs (some d))
    ∧ ∀ s : State,
      (∀ x : Crosspoint, s.modeOf x = some .bisonoric ↔
          ((∃ k, s.bsc.roles[x] = .treble k) ∧ s.sst.live.settings.trebleMode = .bisonoric)
            ∨ ((∃ c r, s.bsc.roles[x] = .bass c r) ∧ s.sst.live.settings.bassMode = .bisonoric))
        ∧ reversalReexpand s
          = reexpand true s.bfe.bd ((List.finRange 256).filter fun x => s.vtb.voicedAs[x] ≠ none) s

/-- Read Buttons: the held count, the interval, D, the more flag, and up to 64 PRESSED crosspoints from the first one
asked for, ascending. Read Voices: the more flag, the count, and seven bytes for each of up to 32 non-FREE voices from
the first slot asked for, or OUT_OF_RANGE for a slot above 47. Neither changes any state, in either part state. -/
def Obligations.ReadsReportAndChangeNothing : Prop :=
  ∀ (tag : Byte) (s : State), s.mlk.reply = none →
    (∀ (first : Byte) (found : List Crosspoint),
        found = (List.finRange 256).filter (fun x => first.toNat ≤ x.val ∧ s.bsc.buttons[x].pressed = true) →
        Accepts (.readButtons tag [first]) s s 0x0A tag
          ([byte (s.bsc.held / 256), byte s.bsc.held, byte s.bsc.interval, byte s.bsc.depth,
              if 64 < found.length then 1 else 0, byte (min 64 found.length)]
            ++ (found.take 64).map fun x => byte x.val))
      ∧ (∀ b : Byte, 47 < b.toNat → Refuses (.readVoices tag [b]) s 0x20 tag .outOfRange)
      ∧ ∀ (first : Slot) (found : List Slot),
          found = (List.finRange 48).filter (fun v => first.val ≤ v.val ∧ s.vtb.voices[v].state ≠ .free) →
          Accepts (.readVoices tag [byte first.val]) s s 0x20 tag
            ([if 32 < found.length then 1 else 0, byte (min 32 found.length)]
              ++ (found.take 32).flatMap fun v =>
                [byte v.val,
                  match s.vtb.voices[v].state, s.vtb.voices[v].origin with
                    | .owed, .live => 3
                    | .owed, .orphan => 4
                    | _, .live => 1
                    | _, .orphan => 2,
                  byte s.vtb.voices[v].layer.val, byte s.vtb.voices[v].pitch.val,
                  byte (s.vtb.voices[v].lanes.toNat + 16 * s.vtb.voices[v].owed.toNat),
                  byte s.vtb.voices[v].holders.length,
                  match s.vtb.voices[v].holders with | [] => 0 | x :: _ => byte x.val])

/-! ## The bellows and the dynamics -/

/-- Stage 1 of a sample arrival and the stream's loss. The rail fault flag, the rail run and the clear run are as the
rule's cases say, and the loss is cleared with its timer from zero. An arrival that leaves the sensor faulted changes
nothing past stage 1: only the sensor's own state, a SENSOR notice when the sensor state has changed, and the output's
choice. The timer's expiry, 20 ms after its start, makes the stream lost, leaves the timer stopped, and raises SENSOR
(lost) unless the state was LOST already; before that it does not occur, and the command for it changes nothing (log
entry 4). -/
def Obligations.SensorChecksAreStageOne : Prop :=
  ∀ s : State,
    (∀ (w : BitVec 16) (rail : Bool), rail = (w.toInt == -32768 || w.toInt == 32767) →
        ∃ t : State, exec (.sampleArrival w) s = .next t
          ∧ (s.bfe.railFault = false → rail = false → t.bfe.railFault = false ∧ t.bfe.railRun = 0)
          ∧ (s.bfe.railFault = false → rail = true → s.bfe.railRun + 1 ≠ 64 →
              t.bfe.railFault = false ∧ t.bfe.railRun = s.bfe.railRun + 1)
          ∧ (s.bfe.railFault = false → rail = true → s.bfe.railRun + 1 = 64 →
              t.bfe.railFault = true ∧ t.bfe.railRun = 0)
          ∧ (s.bfe.railFault = false → t.bfe.clearRun = s.bfe.clearRun)
          ∧ (s.bfe.railFault = true → rail = true → t.bfe.railFault = true ∧ t.bfe.clearRun = 0)
          ∧ (s.bfe.railFault = true → rail = false → s.bfe.clearRun + 1 ≠ 64 →
              t.bfe.railFault = true ∧ t.bfe.clearRun = s.bfe.clearRun + 1)
          ∧ (s.bfe.railFault = true → rail = false → s.bfe.clearRun + 1 = 64 →
              t.bfe.railFault = false ∧ t.bfe.clearRun = 0)
          ∧ (s.bfe.railFault = true → t.bfe.railRun = s.bfe.railRun)
          ∧ t.bfe.lost = false ∧ t.bfe.lossTimer = some 0 ∧ t.bfe.settings = s.bfe.settings
          ∧ (t.bfe.railFault = true →
              t.bfe = { s.bfe with
                  railFault := true, railRun := t.bfe.railRun, clearRun := t.bfe.clearRun, lossTimer := some 0
                  lost := false, partialWord := [] }
                ∧ t = (if s.bfe.sensor = .rail then ({ s with bfe := t.bfe } : State).arbitrate
                  else (({ s with bfe := t.bfe } : State).raise (.sensor .rail)).arbitrate)))
      ∧ ((∀ e ∈ s.bfe.lossTimer, e < 80) → exec .streamLossTimeout s = .next s)
      ∧ (∀ u : State, (∃ e ∈ s.bfe.lossTimer, 80 ≤ e) →
          u = { s with bfe := { s.bfe with lost := true, lossTimer := none } } →
          (s.bfe.lost = false → exec .streamLossTimeout s = .next (u.raise (.sensor .lost)).arbitrate)
            ∧ (s.bfe.lost = true → exec .streamLossTimeout s = .next u.arbitrate))

/-- Stages 2 to 5 of an arrival that leaves the sensor OK: the corrected sample, its class, tracking, and the direction
state, in the three cases of the class against BD. A held sample, an opposite one short of the confirmation or a STILL
one while the hold runs, reaches neither the Dynamics Unit nor any other block; SENSOR (ok) is raised if the sensor was
not OK before. -/
def Obligations.DirectionIsJudged : Prop :=
  ∀ (w : BitVec 16) (s : State) (c : Int) (cls : SampleClass) (h : Nat),
    s.bfe.Judges w → c = max (-32768) (min 32767 (w.toInt - s.bfe.acc / 256)) →
    cls = (if (s.bfe.settings.still : Int) < c then .push else if c < -(s.bfe.settings.still : Int) then .pull
      else .still) →
    h = (if s.bfe.lastClass ≠ .still ∧ 0 < s.bfe.settings.hold then s.bfe.settings.hold else s.bfe.holdLeft) →
    ∃ t : State, exec (.sampleArrival w) s = .next t
      ∧ t.bfe.lastClass = cls
      ∧ t.bfe.acc = (if s.bfe.settings.mode = .track ∧ cls = .still ∧ s.bsc.held = 0 then
          max (-8388608) (min 8388352 (s.bfe.acc + c *
            match s.bfe.settings.speed with | .k4 => 16 | .k6 => 4 | .k8 => 1))
        else s.bfe.acc)
      ∧ (cls = s.bfe.bd.asClass → t.bfe.bd = s.bfe.bd ∧ t.bfe.run = 0 ∧ t.bfe.holdLeft = 0)
      ∧ (cls = .still → t.bfe.bd = s.bfe.bd ∧ t.bfe.run = 0 ∧ t.bfe.holdLeft = h - 1)
      ∧ (cls = s.bfe.bd.opposite.asClass → s.bfe.run + 1 < s.bfe.settings.confirm →
          t.bfe.bd = s.bfe.bd ∧ t.bfe.run = s.bfe.run + 1 ∧ t.bfe.holdLeft = s.bfe.holdLeft)
      ∧ (cls = s.bfe.bd.opposite.asClass → s.bfe.settings.confirm ≤ s.bfe.run + 1 →
          t.bfe.bd = s.bfe.bd.opposite ∧ t.bfe.run = 0 ∧ t.bfe.holdLeft = 0)
      ∧ ((cls = s.bfe.bd.opposite.asClass ∧ s.bfe.run + 1 < s.bfe.settings.confirm) ∨ (cls = .still ∧ 0 < h) →
          t = (if s.bfe.sensor = .ok then ({ s with bfe := t.bfe } : State)
            else ({ s with bfe := t.bfe } : State).raise (.sensor .ok)).arbitrate)

/-- The dynamics of a processed sample, one of the class of BD or a STILL one with no hold left: the surge and its
hold-off, the window and its end, the smoothed pressure and the expression, from the magnitude of the corrected sample;
by the surge first, then the window, then the tier check of the new level, then the expression. After the tier check a
LIVE lane whose last-posted swell differs enough from X, or differs with X at 0 or 127, takes a Swell: in place of its
unsent Swell, or at the tail while it has room; any other lane stays as the tier check left it. -/
def Obligations.ProcessedSampleMovesTheDynamics : Prop :=
  ∀ (w : BitVec 16) (s : State) (c : Int) (m : Nat) (l1 : Fin 65536) (a : Nat),
    s.bfe.Judges w → c = max (-32768) (min 32767 (w.toInt - s.bfe.acc / 256)) → m = min c.natAbs 32767 →
    (s.bfe.bd = .push ∧ (s.bfe.settings.still : Int) < c) ∨ (s.bfe.bd = .pull ∧ c < -(s.bfe.settings.still : Int))
      ∨ (-(s.bfe.settings.still : Int) ≤ c ∧ c ≤ s.bfe.settings.still
        ∧ (if s.bfe.lastClass ≠ .still ∧ 0 < s.bfe.settings.hold then s.bfe.settings.hold else s.bfe.holdLeft) = 0) →
    l1 = (if s.dyn.settings.tsurge < m ∧ s.dyn.holdOffLeft = 0 then
        clampLevel (s.dyn.level.val + s.dyn.settings.surge) s.dyn.settings.floor s.dyn.settings.ceil
      else s.dyn.level) →
    a = (s.dyn.winSum + m) / 2 ^ s.dyn.settings.winShift →
    ∃ t : State, exec (.sampleArrival w) s = .next t
      ∧ t.dyn.holdOffLeft = (if s.dyn.settings.tsurge < m ∧ s.dyn.holdOffLeft = 0 then s.dyn.settings.holdOff
          else s.dyn.holdOffLeft - 1)
      ∧ (s.dyn.winPos + 1 < 2 ^ s.dyn.settings.winShift →
          t.dyn.level = l1 ∧ t.dyn.winSum = s.dyn.winSum + m ∧ t.dyn.winPos = s.dyn.winPos + 1
            ∧ t.dyn.average = s.dyn.average)
      ∧ (2 ^ s.dyn.settings.winShift ≤ s.dyn.winPos + 1 →
          t.dyn.winSum = 0 ∧ t.dyn.winPos = 0 ∧ t.dyn.average = a
            ∧ t.dyn.level = clampLevel (l1.val + (if s.dyn.settings.tu < a then (s.dyn.settings.rise : Int)
                else if a < s.dyn.settings.td then -(s.dyn.settings.fall : Int) else s.dyn.settings.drift))
              s.dyn.settings.floor s.dyn.settings.ceil)
      ∧ (t.dyn.f16 : Int) = max 0 (s.dyn.f16 + ((m : Int) * 16 - s.dyn.f16) / 2 ^ s.dyn.settings.smooth)
      ∧ t.dyn.expr.val = min 127 (t.dyn.f16 / 16 * s.dyn.settings.gain / 65536)
      ∧ t.dyn.settings = s.dyn.settings
      ∧ (∀ u : State, u = (if s.bfe.sensor = .ok then ({ s with bfe := t.bfe } : State)
            else ({ s with bfe := t.bfe } : State).raise (.sensor .ok)) →
          ∃ p : State,
            TierChecked { u with dyn := { s.dyn with
                level := t.dyn.level, holdOffLeft := t.dyn.holdOffLeft, winSum := t.dyn.winSum
                winPos := t.dyn.winPos, average := t.dyn.average } } p
              ∧ t.dyn = { p.dyn with f16 := t.dyn.f16, expr := t.dyn.expr, lastSwell := t.dyn.lastSwell }
              ∧ t = ({ p with dyn := t.dyn, lanes := t.lanes } : State).arbitrate
              ∧ (∀ n : LaneNo, s.lanes[n].state ≠ .live →
                  t.lanes[n] = s.lanes[n] ∧ t.dyn.lastSwell[n] = s.dyn.lastSwell[n])
              ∧ ∀ (n : LaneNo) (due : Prop), s.lanes[n].state = .live →
                  (due ↔ s.dyn.settings.swellStep ≤ ((t.dyn.expr.val : Int) - s.dyn.lastSwell[n].val).natAbs
                    ∨ ((t.dyn.expr = 0 ∨ t.dyn.expr = 127) ∧ t.dyn.expr ≠ s.dyn.lastSwell[n])) →
                  (¬ due → t.lanes[n] = p.lanes[n] ∧ t.dyn.lastSwell[n] = s.dyn.lastSwell[n])
                    ∧ (due → ∀ (before after : List LaneRecord) (q : LaneRecord),
                        p.lanes[n].unsent = before ++ q :: after → q.isSwell = true →
                        (∀ r ∈ before, r.isSwell = false) →
                        t.lanes[n] = { p.lanes[n] with
                            queue := p.lanes[n].sent ++ before ++ .swell t.dyn.expr :: after }
                          ∧ t.dyn.lastSwell[n] = t.dyn.expr)
                    ∧ (due → (∀ r ∈ p.lanes[n].unsent, r.isSwell = false) →
                        if p.lanes[n].queue.length < 32 then
                          t.lanes[n].queue = p.lanes[n].queue ++ [.swell t.dyn.expr]
                            ∧ t.dyn.lastSwell[n] = t.dyn.expr
                        else t.lanes[n] = p.lanes[n] ∧ t.dyn.lastSwell[n] = s.dyn.lastSwell[n]))
      ∧ t = { s with
          bfe := t.bfe, dyn := t.dyn, lanes := t.lanes, ntu := { s.ntu with slots := t.ntu.slots }
          mlk := { s.mlk with output := t.mlk.output } }

/-- A reversal: BD turns; the armed cue with REVERSAL among its triggers fires first; then every voiced crosspoint and
no other is re-expanded under the new BD, and is voiced under it; then REVERSAL is raised, and the sample goes on to the
Dynamics Unit. With no such cue the scene store is untouched. With the output busy REVERSAL is pending with the new
BD. -/
def Obligations.ReversalReexpandsVoicedKeys : Prop :=
  ∀ (w : BitVec 16) (s : State) (c : Int),
    s.bfe.Judges w → c = max (-32768) (min 32767 (w.toInt - s.bfe.acc / 256)) →
    (s.bfe.bd = .push ∧ c < -(s.bfe.settings.still : Int) ∨ s.bfe.bd = .pull ∧ (s.bfe.settings.still : Int) < c) →
    s.bfe.settings.confirm ≤ s.bfe.run + 1 →
    ∃ t : State, exec (.sampleArrival w) s = .next t ∧ t.bfe.bd = s.bfe.bd.opposite
      ∧ (∀ u : State, u = (if s.bfe.sensor = .ok then ({ s with bfe := t.bfe } : State)
            else ({ s with bfe := t.bfe } : State).raise (.sensor .ok)) →
          t = (processSample (min c.natAbs 32767)
                ((reversalReexpand (triggerCue .reversal u)).raise (.reversal s.bfe.bd.opposite))).arbitrate
            ∧ t.vtb = (reversalReexpand (triggerCue .reversal u)).vtb
            ∧ t.sst = (triggerCue .reversal u).sst)
      ∧ (∀ x : Crosspoint, t.vtb.voicedAs[x]
          = if s.vtb.voicedAs[x] = none then none else some s.bfe.bd.opposite)
      ∧ (s.mlk.output ≠ .idle → ∃ p ∈ t.ntu.slots[(9 : Fin 13)], p.notice = .reversal s.bfe.bd.opposite)
      ∧ ((∀ q ∈ s.sst.armed, q.triggers.getLsbD 3 = false) →
        t = { s with
          bfe := t.bfe, dyn := t.dyn, vtb := t.vtb, lanes := t.lanes, ntu := { s.ntu with slots := t.ntu.slots }
          mlk := { s.mlk with output := t.mlk.output } })
      ∧ KeepsLaneStates s t

/-- Set Bellows: the checks in their order, and the effect: the six settings stored, A the new fixed offset × 256 in
FIXED mode and kept in TRACK mode, the run and the hold 0; nothing else changes. -/
def Obligations.SetBellowsStoresSettings : Prop :=
  ∀ (tag mode offHi offLo k tsHi tsLo nr hr : Byte) (p : List Byte) (s : State), s.mlk.reply = none →
    p = [mode, offHi, offLo, k, tsHi, tsLo, nr, hr] →
    (∀ q : List Byte, q.length ≠ 8 → Refuses (.setBellows tag q) s 0x22 tag .badLength)
      ∧ (s.slc.part = .halted → Refuses (.setBellows tag p) s 0x22 tag .halted)
      ∧ (s.slc.part = .playing →
          (1 < mode.toNat ∨ (k.toNat ≠ 4 ∧ k.toNat ≠ 6 ∧ k.toNat ≠ 8) ∨ 32767 < tsHi.toNat * 256 + tsLo.toNat
            ∨ nr = 0 ∨ 64 < nr.toNat) →
          Refuses (.setBellows tag p) s 0x22 tag .outOfRange)
      ∧ (s.slc.part = .playing → mode.toNat ≤ 1 → (k.toNat = 4 ∨ k.toNat = 6 ∨ k.toNat = 8) →
          tsHi.toNat * 256 + tsLo.toNat ≤ 32767 → nr ≠ 0 → nr.toNat ≤ 64 →
          ∀ t : State, t = { s with bfe := { s.bfe with
              settings := ⟨if mode = 0 then .track else .fixed, (offHi ++ offLo).toInt,
                if k.toNat = 4 then .k4 else if k.toNat = 6 then .k6 else .k8,
                tsHi.toNat * 256 + tsLo.toNat, nr.toNat, hr.toNat⟩
              acc := if mode = 0 then s.bfe.acc else (offHi ++ offLo).toInt * 256
              run := 0, holdLeft := 0 } } →
            Accepts (.setBellows tag p) s t 0x22 tag [])

/-- The four requests of the Dynamics Unit: what each writes, and the tier check that follows three of them. With the
current code posted already nothing more happens; otherwise TIER is raised, every LIVE lane is offered a Tier record,
which replaces its unsent Tier, or joins its tail while there is room, or is discarded, and the last code posted becomes
the code, or NONE exactly when a LIVE lane discarded the record. Set Expression makes no tier check. A field of Set Dynamics
out of its range, Td above Tu, floor above ceil, or a tier code above 15 is refused OUT_OF_RANGE. -/
def Obligations.DynamicsRequestsWrite : Prop :=
  ∀ (tag : Byte) (s : State), s.Taking →
    (∀ (d : DynSettings) (p : List Byte),
        (1 ≤ d.winShift ∧ d.winShift ≤ 12) → d.td ≤ d.tu → d.tu ≤ 32767 → d.rise ≤ 16383 → d.fall ≤ 16383 →
        (-8192 ≤ d.drift ∧ d.drift ≤ 8191) → d.tsurge ≤ 32767 → d.surge ≤ 16383 → d.holdOff ≤ 255 →
        d.floor ≤ d.ceil → d.smooth = s.dyn.settings.smooth → d.gain = s.dyn.settings.gain →
        d.swellStep = s.dyn.settings.swellStep →
        p = byte d.winShift :: bytes16 d.tu ++ bytes16 d.td ++ bytes16 d.rise ++ bytes16 d.fall ++ bytes16s d.drift
          ++ bytes16 d.tsurge ++ bytes16 d.surge ++ [byte d.holdOff] ++ bytes16 d.floor.val ++ bytes16 d.ceil.val →
        ∃ t : State, Accepts (.setDynamics tag p) s t 0x23 tag []
          ∧ TierChecked
              { s with dyn := { s.dyn with
                  settings := d, winSum := 0, winPos := 0, holdOffLeft := 0
                  level := clampLevel s.dyn.level.val d.floor d.ceil } } t)
      ∧ (∀ (w tuHi tuLo tdHi tdLo riseHi riseLo fallHi fallLo driftHi driftLo tsurgeHi tsurgeLo surgeHi surgeLo holdOff
            floorHi floorLo ceilHi ceilLo : Byte),
          (w = 0 ∨ 12 < w.toNat ∨ 32767 < tuHi.toNat * 256 + tuLo.toNat ∨ 32767 < tdHi.toNat * 256 + tdLo.toNat
            ∨ 16383 < riseHi.toNat * 256 + riseLo.toNat ∨ 16383 < fallHi.toNat * 256 + fallLo.toNat
            ∨ (driftHi ++ driftLo).toInt < -8192 ∨ 8191 < (driftHi ++ driftLo).toInt
            ∨ 32767 < tsurgeHi.toNat * 256 + tsurgeLo.toNat ∨ 16383 < surgeHi.toNat * 256 + surgeLo.toNat
            ∨ tuHi.toNat * 256 + tuLo.toNat < tdHi.toNat * 256 + tdLo.toNat
            ∨ ceilHi.toNat * 256 + ceilLo.toNat < floorHi.toNat * 256 + floorLo.toNat) →
          Refuses (.setDynamics tag
              [w, tuHi, tuLo, tdHi, tdLo, riseHi, riseLo, fallHi, fallLo, driftHi, driftLo, tsurgeHi, tsurgeLo, surgeHi,
                surgeLo, holdOff, floorHi, floorLo, ceilHi, ceilLo]) s 0x23 tag .outOfRange)
      ∧ (∀ (smooth step : Byte) (gHi gLo : Byte),
          (smooth.toNat ≤ 7 ∧ 1 ≤ step.toNat ∧ step.toNat ≤ 32 →
              Accepts (.setExpression tag [smooth, gHi, gLo, step]) s
                { s with dyn := { s.dyn with settings := { s.dyn.settings with
                    smooth := smooth.toNat, gain := gHi.toNat * 256 + gLo.toNat, swellStep := step.toNat } } }
                0x24 tag [])
            ∧ (7 < smooth.toNat ∨ step = 0 ∨ 32 < step.toNat →
                Refuses (.setExpression tag [smooth, gHi, gLo, step]) s 0x24 tag .outOfRange))
      ∧ (∀ map : Vector TierCode 8, ∃ t : State,
          Accepts (.loadTierMap tag (map.toList.map fun c => byte c.val)) s t 0x25 tag []
            ∧ TierChecked { s with sst := { s.sst with live := { s.sst.live with tierMap := map } } } t)
      ∧ (∀ codes : List Byte, codes.length = 8 → (∃ code ∈ codes, 15 < code.toNat) →
          Refuses (.loadTierMap tag codes) s 0x25 tag .outOfRange)
      ∧ ∀ (v level : Fin 65536), level = clampLevel v.val s.dyn.settings.floor s.dyn.settings.ceil →
          ∃ t : State,
            Accepts (.setLevel tag (bytes16 v.val)) s t 0x26 tag
                (bytes16 level.val ++ [byte (s.sst.live.tierMap[tierOf level]).val])
              ∧ TierChecked { s with dyn := { s.dyn with level := level } } t

/-! ## Overrides and silencing -/

/-- Push Override: OUT_OF_RANGE for a tag outside 4 to 7 or a definition field out of range, before any state is looked at;
DUPLICATE before a full stack before an unusable target; an accepted push saves the context in a new
top entry, transfers the target's LAYERS and TIERMAP (R46, R80), writes registers and modes with one re-expansion of the
changed sections, and then adds the delta, clamped, to the transpose it finds. A switch
push whose tag is on the stack clears the released mark; with a full stack, or a target that is not VALID, it only
raises OVERRIDE; otherwise it pushes its definition in the same way. -/
def Obligations.PushOverrideSavesAndApplies : Prop :=
  (∀ (tag : Byte) (h : Fin 8) (d : OverrideDef) (s : State), s.Taking → 4 ≤ h.val → -24 ≤ d.delta → d.delta ≤ 24 →
    ((∃ e ∈ s.stack, e.tag = h) →
        Refuses (.pushOverride tag (byte h.val :: overrideBytes d)) s 0x28 tag .duplicate)
      ∧ ((∀ e ∈ s.stack, e.tag ≠ h) →
          (4 ≤ s.stack.length ∨ (∃ n ∈ d.target, s.sst.library[n].state ≠ .valid) →
              Refuses (.pushOverride tag (byte h.val :: overrideBytes d)) s 0x28 tag .wrongState)
            ∧ (s.stack.length < 4 → (∀ n ∈ d.target, s.sst.library[n].state = .valid) →
                ∃ t : State,
                  Accepts (.pushOverride tag (byte h.val :: overrideBytes d)) s t 0x28 tag
                      [byte (s.stack.length + 1)]
                    ∧ s.Pushed t h d ∧ OnlyVoiceAndTierWork (s.withPushed h d) t)))
    ∧ (∀ (tag : Byte) (s : State), s.Taking → ∀ h target treble bass delta trebleMode bassMode : Byte,
          (h.toNat < 4 ∨ 7 < h.toNat ∨ DefinitionOutOfRange target treble bass delta trebleMode bassMode) →
          Refuses (.pushOverride tag [h, target, treble, bass, delta, trebleMode, bassMode]) s 0x28 tag .outOfRange)
    ∧ ∀ (n : Fin 4) (k : Fin 8) (s : State), k.val = n.val →
          ((∃ e ∈ s.stack, e.tag = k) →
              switchPush n s
                = { s with stack := s.stack.map fun e => if e.tag = k then { e with released := false } else e })
            ∧ ((∀ e ∈ s.stack, e.tag ≠ k) → 4 ≤ s.stack.length → switchPush n s = s.raise (.override .full k))
            ∧ ((∀ e ∈ s.stack, e.tag ≠ k) → s.stack.length < 4 →
                (∃ m ∈ s.sst.overrides[n].target, s.sst.library[m].state ≠ .valid) →
                switchPush n s = s.raise (.override .pushFailed k))
            ∧ ((∀ e ∈ s.stack, e.tag ≠ k) → s.stack.length < 4 →
                (∀ m ∈ s.sst.overrides[n].target, s.sst.library[m].state = .valid) →
                s.Pushed (switchPush n s) k s.sst.overrides[n]
                  ∧ OnlyVoiceAndTierWork (s.withPushed k s.sst.overrides[n]) (switchPush n s))

/-- Pop Override: TAG_MISMATCH unless the tag is on top; otherwise the popped run is the top entry and the released
entries right below it, and the context of its deepest entry comes back. When an entry of the run replaced the
scene, the deepest saved origin's scene is transferred if VALID, else scene 0 if VALID, with the voice work of a transfer
(R46, R80); with neither the part halts: each LIVE lane takes a Silence as `Lane.silenced` says, the lanes are cleared from
every voice (`State.silencedOn`), E falls and the stack and the cue are cleared; with voices and lanes in agreement the
lanes that are not LIVE stay as they were, and every voice is FREE but, with E at 0 before, a SOUNDING one. Otherwise the
saved registers and modes are written, with one re-expansion of the changed sections, and the transpose. A switch release
of a tag that is not on the stack does nothing, of one that is not on top only marks its entry released, and of one on top
does to the part what Pop Override does. -/
def Obligations.PopOverrideRestores : Prop :=
  (∀ (tag : Byte) (h : Fin 8) (s : State), s.Taking →
    ((∀ e ∈ s.stack.head?, e.tag ≠ h) → Refuses (.popOverride tag [byte h.val]) s 0x29 tag .tagMismatch)
      ∧ (∀ b : Byte, 7 < b.toNat → Refuses (.popOverride tag [b]) s 0x29 tag .outOfRange)
      ∧ ∀ (top deepest : StackEntry) (run rest : List StackEntry), s.stack = run ++ rest →
          run.head? = some top → run.getLast? = some deepest → top.tag = h →
          (∀ e ∈ run.tail, e.released = true) → (∀ e ∈ rest.head?, e.released = false) →
          ((∀ e ∈ run, e.sceneReplaced = false) →
              ∃ t : State, Accepts (.popOverride tag [byte h.val]) s t 0x29 tag [byte run.length, 0]
                ∧ ({ s with stack := rest } : State).SettingsApplied t deepest.saved
                ∧ OnlyVoiceWork
                    { s with stack := rest, sst := { s.sst with live := { s.sst.live with
                        settings := deepest.saved } } } t)
            ∧ (∀ n : SceneNo, (∃ e ∈ run, e.sceneReplaced = true) → deepest.origin = some n →
                s.sst.library[n].state = .valid →
                ∃ t : State, Accepts (.popOverride tag [byte h.val]) s t 0x29 tag [byte run.length, 0]
                  ∧ (∃ u : State, Transferred n 5 true { s with stack := rest } u ∧ u.SettingsApplied t deepest.saved)
                  ∧ OnlyVoiceAndTierWork
                      { s with stack := rest, sst := { s.sst with live :=
                          { s.sst.live.transferred n s.sst.library[n] 5 with settings := deepest.saved } } } t)
            ∧ ((∃ e ∈ run, e.sceneReplaced = true) →
                (∀ n ∈ deepest.origin, s.sst.library[n].state ≠ .valid) →
                s.sst.library[(0 : SceneNo)].state = .valid →
                ∃ t : State, Accepts (.popOverride tag [byte h.val]) s t 0x29 tag [byte run.length, 1]
                  ∧ (∃ p ∈ t.ntu.slots[(6 : Fin 13)], p.notice = .override .fallback h)
                  ∧ (∃ u : State,
                      Transferred 0 5 true (({ s with stack := rest } : State).raise (.override .fallback h)) u
                        ∧ u.SettingsApplied t deepest.saved)
                  ∧ OnlyVoiceAndTierWork
                      { s with stack := rest, sst := { s.sst with live :=
                          { s.sst.live.transferred 0 s.sst.library[(0 : SceneNo)] 5 with
                            settings := deepest.saved } } } t)
            ∧ ((∃ e ∈ run, e.sceneReplaced = true) →
                (∀ n ∈ deepest.origin, s.sst.library[n].state ≠ .valid) →
                s.sst.library[(0 : SceneNo)].state ≠ .valid →
                ∃ t : State, Accepts (.popOverride tag [byte h.val]) s t 0x29 tag [byte run.length, 2]
                  ∧ t.slc = { s.slc with enable := false, shadow := false, part := .halted }
                  ∧ t.stack = [] ∧ t.sst = { s.sst with armed := none }
                  ∧ (∃ p ∈ t.ntu.slots[(1 : Fin 13)], p.notice = .halted)
                  ∧ (∃ p ∈ t.ntu.slots[(6 : Fin 13)], p.notice = .override .fallback h)
                  ∧ (s.slc.enable = true → (∀ v : Slot, t.vtb.voices[v].state ≠ .sounding)
                      ∧ ∀ x : Crosspoint, t.vtb.voicedAs[x] = none)
                  ∧ (∀ n : LaneNo, s.lanes[n].state = .live →
                      t.lanes[n] = s.lanes[n].silenced [.tier s.tierCode, .swell s.dyn.expr]
                        ∧ t.dyn.lastSwell[n] = s.dyn.expr)
                  ∧ (∀ n : LaneNo, s.lanes[n].state ≠ .live → t.dyn.lastSwell[n] = s.dyn.lastSwell[n])
                  ∧ (s.VoicesAndLanesAgree → ∀ n : LaneNo, s.lanes[n].state ≠ .live → t.lanes[n] = s.lanes[n])
                  ∧ (s.VoicesAndLanesAgree → s.vtb.Coherent → ∀ v : Slot,
                      s.slc.enable = true ∨ s.vtb.voices[v].state ≠ .sounding → t.vtb.voices[v].state = .free)
                  ∧ (s.vtb.Coherent → ∀ (liveLanes : LaneSet) (u : State),
                      (∀ n : LaneNo, liveLanes.getLsbD n.val = (s.lanes[n].state == .live)) →
                      u = { s.silencedOn liveLanes with stack := [], sst := t.sst, slc := t.slc } →
                      t = ((if s.slc.enable = true then u.voicesFallen else u).raise (.override .fallback h)).raise
                        .halted)
                  ∧ KeepsLaneStates s t ∧ t.vtb.seqCounter = s.vtb.seqCounter
                  ∧ t = { s with
                      slc := t.slc, stack := [], sst := t.sst, lanes := t.lanes, vtb := t.vtb
                      dyn := { s.dyn with lastSwell := t.dyn.lastSwell }
                      ntu := { s.ntu with slots := t.ntu.slots } }))
    ∧ ∀ (n : Fin 4) (k : Fin 8) (s : State), k.val = n.val →
          ((∀ e ∈ s.stack, e.tag ≠ k) → switchRelease n s = s)
            ∧ ((∃ e ∈ s.stack, e.tag = k) → (∀ e ∈ s.stack.head?, e.tag ≠ k) →
                switchRelease n s
                  = { s with stack := s.stack.map fun e => if e.tag = k then { e with released := true } else e })
            ∧ ∀ tag : Byte, s.Taking → (∃ e ∈ s.stack.head?, e.tag = k) →
                ∃ data : List Byte, Accepts (.popOverride tag [byte k.val]) s (switchRelease n s) 0x29 tag data

/-- The enable requests write the pair as the table says and answer with it; a fall of E ends every SOUNDING voice, by
ascending slot, and unvoices every crosspoint; a rise presses every crosspoint that is PRESSED with a playing role, in
ascending order, with its joins complete before the next, and so voices it under BD; and a write that leaves E as it was
does no voice work. -/
def Obligations.EnablePairIsWritten : Prop :=
  ∀ (tag : Byte) (s : State) (i : Instr) (kind : Byte) (e sh : Bool), s.Taking →
    (i, kind, e, sh) ∈ [(Instr.mute tag [], (0x2A : Byte), false, false), (.unmute tag [], 0x2B, true, true),
      (.hush tag [], 0x2C, false, s.slc.enable), (.unhush tag [], 0x2D, s.slc.shadow, s.slc.shadow)] →
    ∃ t : State, Accepts i s t kind tag [byteOfBool e, byteOfBool sh]
      ∧ OnlyVoiceWork { s with slc := { s.slc with enable := e, shadow := sh } } t
      ∧ (e = s.slc.enable → t = { s with slc := { s.slc with enable := e, shadow := sh } })
      ∧ (s.slc.enable = true → e = false →
          (∀ v : Slot, t.vtb.voices[v].state ≠ .sounding) ∧ ∀ x : Crosspoint, t.vtb.voicedAs[x] = none)
      ∧ (∀ u : State, s.slc.enable = true → e = false →
          u = ((List.finRange 48).filter fun v => s.vtb.voices[v].state == .sounding).foldl endVoice
            { s with slc := { s.slc with enable := e, shadow := sh } } →
          t = { u with vtb := { u.vtb with voicedAs := Vector.replicate 256 none } })
      ∧ (s.slc.enable = false → e = true →
          t = ((List.finRange 256).filter fun x =>
              s.bsc.buttons[x].pressed && (s.bsc.roles[x].sect == some .treble || s.bsc.roles[x].sect == some .bass)).foldl
            pressKey { s with slc := { s.slc with enable := e, shadow := sh } })
      ∧ (s.slc.enable = false → e = true →
          ∀ x : Crosspoint, t.vtb.voicedAs[x] =
            if s.bsc.buttons[x].pressed = true ∧ s.bsc.roles[x].plays = true then some s.bfe.bd
            else s.vtb.voicedAs[x])

/-- Panic: every LIVE or CLOSING lane is emptied behind the record being sent, takes a Silence (and on a LIVE lane the
Tier and the Swell in force behind it), owes nothing, serves no voice any more, and is in the silence-pending set; a
waiting lane's stall timer runs on, and an empty lane begins to send or to wait (`Lane.silenced`). A lane whose Silence is
in transmission is marked, so that this Silence does not count for it, and any other lane that joins is unmarked (the mark
is the model's, log entry 9, DEDUCED from R137). E and S are 0, and if E was 1 every SOUNDING voice ends and every
crosspoint is unvoiced. With voices and lanes in agreement OFF and DEAD lanes stay as they were, and every voice becomes
FREE but, with E at 0 before, a SOUNDING one. SILENCE_DONE is raised when the set is then empty, and no other notice. -/
def Obligations.PanicSilencesEveryLane : Prop :=
  ∀ (tag : Byte) (s : State), s.Taking →
    ∃ t : State, Accepts (.panic tag []) s t 0x2E tag [0, 0, byte t.slc.pending.toNat]
      ∧ (∀ n : LaneNo, t.slc.pending.getLsbD n.val
          = (s.slc.pending.getLsbD n.val || s.lanes[n].state == .live || s.lanes[n].state == .closing))
      ∧ t.slc = { s.slc with enable := false, shadow := false, pending := t.slc.pending, stale := t.slc.stale }
      ∧ (∀ n : LaneNo, t.slc.stale.getLsbD n.val =
          if s.lanes[n].state = .live ∨ s.lanes[n].state = .closing then
            s.lanes[n].sending && s.lanes[n].queue.head? == some .silence
          else s.slc.stale.getLsbD n.val)
      ∧ (∀ n : LaneNo, s.lanes[n].state = .live →
          t.lanes[n] = s.lanes[n].silenced [.tier s.tierCode, .swell s.dyn.expr] ∧ t.dyn.lastSwell[n] = s.dyn.expr)
      ∧ (∀ n : LaneNo, s.lanes[n].state = .closing → t.lanes[n] = s.lanes[n].silenced [])
      ∧ (∀ n : LaneNo, s.lanes[n].state ≠ .live → t.dyn.lastSwell[n] = s.dyn.lastSwell[n])
      ∧ (s.VoicesAndLanesAgree → ∀ n : LaneNo, s.lanes[n].state = .off ∨ s.lanes[n].state = .dead →
          t.lanes[n] = s.lanes[n])
      ∧ (s.VoicesAndLanesAgree → s.vtb.Coherent → ∀ v : Slot,
          s.slc.enable = true ∨ s.vtb.voices[v].state ≠ .sounding → t.vtb.voices[v].state = .free)
      ∧ (s.vtb.Coherent → ∀ (joining : LaneSet) (u w : State),
          (∀ n : LaneNo, joining.getLsbD n.val = (s.lanes[n].state == .live || s.lanes[n].state == .closing)) →
          u = { s.silencedOn joining with slc := t.slc } → w = (if s.slc.enable = true then u.voicesFallen else u) →
          t = if t.slc.pending = 0 then w.raise .silenceDone else w)
      ∧ (∀ n : LaneNo, s.lanes[n].state = .live ∨ s.lanes[n].state = .closing →
          t.lanes[n].owed = [] ∧ ∀ v : Slot, t.vtb.voices[v].state ≠ .free →
            t.vtb.voices[v].lanes.getLsbD n.val = false ∧ t.vtb.voices[v].owed.getLsbD n.val = false)
      ∧ (s.slc.enable = true → (∀ v : Slot, t.vtb.voices[v].state ≠ .sounding)
          ∧ ∀ x : Crosspoint, t.vtb.voicedAs[x] = none)
      ∧ (t.slc.pending = 0 → ∃ p ∈ t.ntu.slots[(4 : Fin 13)], p.notice = .silenceDone)
      ∧ t.vtb.seqCounter = s.vtb.seqCounter
      ∧ t = { s with
          slc := t.slc, lanes := t.lanes, vtb := t.vtb, dyn := { s.dyn with lastSwell := t.dyn.lastSwell }
          ntu := { s.ntu with slots := t.ntu.slots } }
      ∧ KeepsLaneStates s t

/-! ## The voice lanes -/

/-- A ready line: a rise makes a waiting lane begin to send its head and stops the stall timer, a fall makes a lane
with records queued and none being sent begin to wait with its timer from zero, or stopped when T is 0; every other
lane only takes the level of its line. The bytes of a record that a lane sends: the first has bit 7 set, the others
have it clear, and no two records have the same bytes. -/
def Obligations.ReadyLineStartsAndStopsWaiting : Prop :=
  (∀ (n : LaneNo) (s : State) (l : Lane), s.lanes[n] = l →
    (l.ready = false →
        exec (.readyRise n) s = .next (s.setLane n
          (if (l.state = .live ∨ l.state = .closing) ∧ l.queue ≠ [] ∧ l.sending = false then
            { l with ready := true, sending := true, stall := none }
          else { l with ready := true })))
      ∧ (l.ready = true →
          exec (.readyFall n) s = .next (s.setLane n
            (if (l.state = .live ∨ l.state = .closing) ∧ l.queue ≠ [] ∧ l.sending = false then
              { l with ready := false, stall := if l.timeout = 0 then none else some 0 }
            else { l with ready := false }))))
    ∧ (∀ (v : Slot) (program : Program) (pitch : Pitch) (code : TierCode) (x : Fin 128),
        (LaneRecord.start v program pitch code).wire
            = [0x90 + byte code.val, byte v.val, byte (program.val / 128), byte (program.val % 128), byte pitch.val]
          ∧ (LaneRecord.stop v).wire = [0x80, byte v.val] ∧ (LaneRecord.swell x).wire = [0xB0, byte x.val]
          ∧ (LaneRecord.tier code).wire = [0xC0, byte code.val] ∧ LaneRecord.silence.wire = [0xF0])
    ∧ (∀ r : LaneRecord, (∃ b ∈ r.wire.head?, 128 ≤ b.toNat) ∧ ∀ b ∈ r.wire.tail, b.toNat < 128)
    ∧ ∀ r q : LaneRecord, r.wire = q.wire → r = q

/-- The completion of a record: it leaves the head; a LIVE lane takes owed Stops from the front while it has room, and
each frees its voice when no other lane owes it; the next record begins, or the lane waits. After a Silence the lane has
left the silence-pending set, unless that Silence was already being sent when the lane joined it (log entry 9, DEDUCED);
a CLOSING lane whose last Silence is sent becomes OFF and has left the set. SILENCE_DONE is raised when a leave empties the
set, and no other notice; then the idle output makes its choice. -/
def Obligations.CompletionTakesTheNextRecord : Prop :=
  ∀ (n : LaneNo) (s : State) (l : Lane) (r : LaneRecord) (rest : List LaneRecord),
    s.lanes[n] = l → l.sending = true → l.queue = r :: rest → l.state = .live ∨ l.state = .closing →
    (r ≠ .silence → (l.owed = [] ∨ l.state = .closing) →
        exec (.recordCompletion n) s = .next (s.setLane n
          (if rest = [] then { l with queue := [], sending := false }
            else if l.ready = true then { l with queue := rest, stall := none }
            else { l with queue := rest, sending := false, stall := if l.timeout = 0 then none else some 0 })).arbitrate)
      ∧ (r = .silence → l.state = .closing → .silence ∉ rest →
          ∃ t : State, exec (.recordCompletion n) s = .next t
            ∧ t.lanes[n] = { l with state := .off, queue := rest, sending := false, stall := none }
            ∧ t.slc.pending.getLsbD n.val = false
            ∧ t.slc.stale.getLsbD n.val = false
            ∧ (∀ k : LaneNo, k ≠ n → t.lanes[k] = s.lanes[k]
                ∧ t.slc.pending.getLsbD k.val = s.slc.pending.getLsbD k.val
                ∧ t.slc.stale.getLsbD k.val = s.slc.stale.getLsbD k.val)
            ∧ (s.mlk.output ≠ .idle → s.slc.pending ≠ 0 → t.slc.pending = 0 →
                ∃ p ∈ t.ntu.slots[(4 : Fin 13)], p.notice = .silenceDone)
            ∧ (∀ u : State, u = { t with
                  ntu := if s.slc.pending ≠ 0 ∧ t.slc.pending = 0 then (s.raise .silenceDone).ntu else s.ntu
                  mlk := s.mlk } → t = u.arbitrate)
            ∧ t = { s with
                slc := { s.slc with pending := t.slc.pending, stale := t.slc.stale }
                lanes := t.lanes, ntu := { s.ntu with slots := t.ntu.slots }
                mlk := { s.mlk with output := t.mlk.output } })
      ∧ (∀ (taken owed : List Slot) (queue : List LaneRecord), l.state = .live ∨ .silence ∈ rest →
          taken = (if l.state = .live then l.owed.take (32 - rest.length) else []) → owed = l.owed.drop taken.length →
          queue = rest ++ taken.map (LaneRecord.stop ·) →
          ∃ t : State, exec (.recordCompletion n) s = .next t
            ∧ t.lanes[n] = (if queue = [] then { l with queue := [], sending := false }
                else if l.ready = true then { l with queue := queue, owed := owed, stall := none }
                else { l with
                  queue := queue, owed := owed, sending := false, stall := if l.timeout = 0 then none else some 0 })
            ∧ (∀ k : LaneNo, k ≠ n → t.lanes[k] = s.lanes[k])
            ∧ (∀ v : Slot, v ∉ taken → t.vtb.voices[v] = s.vtb.voices[v])
            ∧ (∀ v : Slot, v ∈ taken →
                (∀ k : LaneNo, t.vtb.voices[v].owed.getLsbD k.val = (s.vtb.voices[v].owed.getLsbD k.val && k != n))
                  ∧ t.vtb.voices[v] = { s.vtb.voices[v] with
                    owed := t.vtb.voices[v].owed
                    state := if s.vtb.voices[v].state = .owed ∧ t.vtb.voices[v].owed = 0 then .free
                      else s.vtb.voices[v].state })
            ∧ (∀ k : LaneNo, t.slc.pending.getLsbD k.val = (s.slc.pending.getLsbD k.val
                && !(k == n && r == .silence && !s.slc.stale.getLsbD n.val)))
            ∧ (∀ k : LaneNo, t.slc.stale.getLsbD k.val = (s.slc.stale.getLsbD k.val && !(k == n && r == .silence)))
            ∧ (s.mlk.output ≠ .idle → s.slc.pending ≠ 0 → t.slc.pending = 0 →
                ∃ p ∈ t.ntu.slots[(4 : Fin 13)], p.notice = .silenceDone)
            ∧ (s.slc.pending = 0 ∨ t.slc.pending ≠ 0 → s.mlk.output ≠ .idle → t.ntu = s.ntu)
            ∧ (∀ u : State, u = { t with
                  ntu := if s.slc.pending ≠ 0 ∧ t.slc.pending = 0 then (s.raise .silenceDone).ntu else s.ntu
                  mlk := s.mlk } → t = u.arbitrate)
            ∧ t = { s with
                vtb := { s.vtb with voices := t.vtb.voices }, lanes := t.lanes
                slc := { s.slc with pending := t.slc.pending, stale := t.slc.stale }
                ntu := { s.ntu with slots := t.ntu.slots }, mlk := { s.mlk with output := t.mlk.output } })

/-- The expiry of the stall timer of a waiting lane: the lane is DEAD with an empty queue and owed-stop list, it serves
no voice any more, an OWED voice it alone owed is FREE, a SOUNDING voice keeps its state and holders, the lane has left
the silence-pending set, SILENCE_DONE is raised when that empties the set, and LANE_DEAD with the lane is raised; then the
idle output makes its choice. The timer expires when it has run for T × 10 ms
since it was last started; before that, as right after a Reset Lane, the event does not occur and the command for it
changes nothing (log entry 4). -/
def Obligations.StallKillsTheLane : Prop :=
  ∀ (n : LaneNo) (s : State) (l : Lane), s.lanes[n] = l → (l.state = .live ∨ l.state = .closing) → l.queue ≠ [] →
    l.sending = false → l.ready = false →
    ((∀ e ∈ l.stall, e < 40 * l.timeout) → exec (.stallExpiry n) s = .next s)
      ∧ ((∃ e ∈ l.stall, 40 * l.timeout ≤ e) → ∃ t : State, exec (.stallExpiry n) s = .next t
      ∧ t.lanes[n] = { l with state := .dead, queue := [], owed := [], stall := none }
      ∧ (∀ k : LaneNo, k ≠ n → t.lanes[k] = s.lanes[k])
      ∧ (∀ v : Slot, s.vtb.voices[v].state = .free → t.vtb.voices[v] = s.vtb.voices[v])
      ∧ (∀ v : Slot, s.vtb.voices[v].state ≠ .free →
          (∀ k : LaneNo, t.vtb.voices[v].lanes.getLsbD k.val = (s.vtb.voices[v].lanes.getLsbD k.val && k != n)
            ∧ t.vtb.voices[v].owed.getLsbD k.val = (s.vtb.voices[v].owed.getLsbD k.val && k != n))
          ∧ t.vtb.voices[v] = { s.vtb.voices[v] with
              lanes := t.vtb.voices[v].lanes, owed := t.vtb.voices[v].owed
              state := if s.vtb.voices[v].state = .owed ∧ t.vtb.voices[v].owed = 0 then .free
                else s.vtb.voices[v].state })
      ∧ (∀ k : LaneNo, t.slc.pending.getLsbD k.val = (s.slc.pending.getLsbD k.val && k != n)
          ∧ t.slc.stale.getLsbD k.val = (s.slc.stale.getLsbD k.val && k != n))
      ∧ (s.mlk.output ≠ .idle → ∃ p ∈ t.ntu.slots[(2 : Fin 13)], p.notice = .laneDead n)
      ∧ (s.mlk.output ≠ .idle → s.slc.pending ≠ 0 → t.slc.pending = 0 →
          ∃ p ∈ t.ntu.slots[(4 : Fin 13)], p.notice = .silenceDone)
      ∧ (∀ u : State, u = { t with
            ntu := ((if s.slc.pending ≠ 0 ∧ t.slc.pending = 0 then s.raise .silenceDone else s).raise (.laneDead n)).ntu
            mlk := s.mlk } → t = u.arbitrate)
      ∧ t = { s with
          lanes := t.lanes, vtb := { s.vtb with voices := t.vtb.voices }
          slc := { s.slc with pending := t.slc.pending, stale := t.slc.stale }
          ntu := { s.ntu with slots := t.ntu.slots }, mlk := { s.mlk with output := t.mlk.output } })

/-- Set Lane: a lane above 3 or an enable above 1 is refused OUT_OF_RANGE. An enable of 1 on a DEAD lane is refused; otherwise T is stored, the lane state becomes what the table
says and is the reply's one byte, and a Silence is queued where the table says so, which clears the lane from every
voice. A waiting lane's stall timer starts again under the new T; a lane whose empty queue takes the Silence begins to send
or to wait. A Set Lane with enable 1 that finds the lane DEAD stores no T (log entry 17, DEDUCED). -/
def Obligations.SetLaneMovesTheLane : Prop :=
  ∀ (tag timeout : Byte) (n : LaneNo) (enable : Bool) (s : State) (l : Lane) (after : LaneState),
    s.Taking → s.lanes[n] = l →
    after = (match l.state, enable with
      | .off, false => .off | .off, true => .live | .live, false => .closing | .live, true => .live
      | .closing, false => .closing | .closing, true => .live | .dead, _ => .off) →
    (∀ lane enabled : Byte, (3 < lane.toNat ∨ 1 < enabled.toNat) →
        Refuses (.setLane tag [lane, enabled, timeout]) s 0x30 tag .outOfRange)
      ∧ (l.state = .dead → enable = true →
        Refuses (.setLane tag [byte n.val, byteOfBool enable, timeout]) s 0x30 tag .wrongState)
      ∧ (¬ (l.state = .dead ∧ enable = true) →
          ∃ t : State,
            Accepts (.setLane tag [byte n.val, byteOfBool enable, timeout]) s t 0x30 tag
                [match after with | .off => 0 | .live => 1 | .closing => 2 | .dead => 3]
              ∧ t.lanes[n].state = after ∧ t.lanes[n].timeout = timeout.toNat ∧ t.lanes[n].ready = l.ready
              ∧ (after = l.state → t.lanes[n].queue = l.queue ∧ t.lanes[n].owed = l.owed ∧ t.vtb = s.vtb)
              ∧ (l.state = .dead → t.lanes[n] = { l with state := .off, timeout := timeout.toNat } ∧ t.vtb = s.vtb)
              ∧ (after = .closing → l.state = .live → t.lanes[n].queue = l.sent ++ [.silence] ∧ t.lanes[n].owed = [])
              ∧ (after = .live → l.state ≠ .live →
                  t.lanes[n].queue = l.sent ++ [.silence, .tier s.tierCode, .swell s.dyn.expr]
                    ∧ t.lanes[n].owed = [] ∧ t.dyn.lastSwell[n] = s.dyn.expr)
              ∧ (l.waiting = true → t.lanes[n].sending = false
                  ∧ t.lanes[n].stall = if timeout = 0 then none else some 0)
              ∧ (l.sending = true → t.lanes[n].sending = true ∧ t.lanes[n].stall = l.stall)
              ∧ (after ≠ l.state → l.state ≠ .dead → l.queue = [] → l.sending = false →
                  t.lanes[n].sending = l.ready
                    ∧ t.lanes[n].stall = if l.ready = true then none else if timeout = 0 then none else some 0)
              ∧ (after ≠ l.state → l.state ≠ .dead → ∀ v : Slot,
                  (s.vtb.voices[v].state = .free → t.vtb.voices[v] = s.vtb.voices[v])
                    ∧ (s.vtb.voices[v].state ≠ .free →
                        (∀ k : LaneNo,
                          t.vtb.voices[v].lanes.getLsbD k.val = (s.vtb.voices[v].lanes.getLsbD k.val && k != n)
                            ∧ t.vtb.voices[v].owed.getLsbD k.val = (s.vtb.voices[v].owed.getLsbD k.val && k != n))
                        ∧ t.vtb.voices[v] = { s.vtb.voices[v] with
                            lanes := t.vtb.voices[v].lanes, owed := t.vtb.voices[v].owed
                            state := if s.vtb.voices[v].state = .owed ∧ t.vtb.voices[v].owed = 0 then .free
                              else s.vtb.voices[v].state }))
              ∧ (l.state ≠ .dead → t.slc = s.slc ∧ t.ntu = s.ntu)
              ∧ (∀ k : LaneNo, k ≠ n → t.lanes[k] = s.lanes[k] ∧ t.dyn.lastSwell[k] = s.dyn.lastSwell[k])
              ∧ t = { s with
                  lanes := t.lanes, vtb := { s.vtb with voices := t.vtb.voices }
                  dyn := { s.dyn with lastSwell := t.dyn.lastSwell }
                  slc := { s.slc with pending := t.slc.pending, stale := t.slc.stale }
                  ntu := { s.ntu with slots := t.ntu.slots } })

/-- Reset Lane: refused OUT_OF_RANGE for a lane above 3 and WRONG_STATE for an OFF lane; any other lane is LIVE with a
Silence, the Tier and the Swell in force behind the record being sent, owes nothing, and either sends or waits with its
timer from zero. The lane is cleared from every voice: a SOUNDING voice keeps its state and its holders, an OWED voice left
with nothing owed is FREE, and a FREE voice is as it was. Read Lanes reports every lane and changes nothing, in either part
state. -/
def Obligations.ResetLaneRevivesAndReadLanesReports : Prop :=
  ∀ (tag : Byte) (n : LaneNo) (s : State) (l : Lane), s.mlk.reply = none → s.lanes[n] = l →
    (s.slc.part = .playing → l.state = .off → Refuses (.resetLane tag [byte n.val]) s 0x31 tag .wrongState)
      ∧ (s.slc.part = .playing → ∀ b : Byte, 3 < b.toNat → Refuses (.resetLane tag [b]) s 0x31 tag .outOfRange)
      ∧ (s.slc.part = .playing → l.state ≠ .off →
          ∃ t : State, Accepts (.resetLane tag [byte n.val]) s t 0x31 tag []
            ∧ t.lanes[n] = { l with
                state := .live, owed := [], queue := l.sent ++ [.silence, .tier s.tierCode, .swell s.dyn.expr]
                sending := l.sending || l.ready
                stall := if l.sending = true then l.stall
                  else if l.ready = true ∨ l.timeout = 0 then none else some 0 }
            ∧ (∀ v : Slot,
                (s.vtb.voices[v].state = .free → t.vtb.voices[v] = s.vtb.voices[v])
                  ∧ (s.vtb.voices[v].state ≠ .free →
                      (∀ k : LaneNo,
                        t.vtb.voices[v].lanes.getLsbD k.val = (s.vtb.voices[v].lanes.getLsbD k.val && k != n)
                          ∧ t.vtb.voices[v].owed.getLsbD k.val = (s.vtb.voices[v].owed.getLsbD k.val && k != n))
                      ∧ t.vtb.voices[v] = { s.vtb.voices[v] with
                          lanes := t.vtb.voices[v].lanes, owed := t.vtb.voices[v].owed
                          state := if s.vtb.voices[v].state = .owed ∧ t.vtb.voices[v].owed = 0 then .free
                            else s.vtb.voices[v].state }))
            ∧ t.dyn.lastSwell[n] = s.dyn.expr
            ∧ (∀ k : LaneNo, k ≠ n → t.lanes[k] = s.lanes[k] ∧ t.dyn.lastSwell[k] = s.dyn.lastSwell[k])
            ∧ t = { s with
                lanes := t.lanes, vtb := { s.vtb with voices := t.vtb.voices }
                dyn := { s.dyn with lastSwell := t.dyn.lastSwell } })
      ∧ Accepts (.readLanes tag []) s s 0x32 tag
          (([0, 1, 2, 3] : List LaneNo).flatMap fun k =>
            [match s.lanes[k].state with | .off => 0 | .live => 1 | .closing => 2 | .dead => 3,
              byte s.lanes[k].queue.length, if s.lanes[k].ready = true then 1 else 0,
              if s.lanes[k].sending = true then 1 else 0, byte s.lanes[k].timeout, byte s.lanes[k].owed.length]
            ++ s.lanes[k].owed.map fun v => byte v.val)

/-! ## The notice mask and the meter -/

/-- Set Notice Mask: the reserved bits must be 0; the mask becomes the value given, which is also the reply's data. Set
Meter stores the interval and the items and restarts or stops the timer; Read Meter answers with a snapshot and
changes nothing, in either part state; the timer's expiry, one interval after its start, restarts it and raises METER with
a snapshot, and before that the command for it changes nothing (log entry 4). The snapshot is the count of the items and,
for each in order, its code and its value. -/
def Obligations.MaskAndMeterRequests : Prop :=
  ∀ (tag : Byte) (s : State),
    (∀ h l : Byte, s.Taking →
        ((h ++ l) &&& (0xE003 : BitVec 16) ≠ 0 → Refuses (.setNoticeMask tag [h, l]) s 0x04 tag .outOfRange)
          ∧ ((h ++ l) &&& (0xE003 : BitVec 16) = 0 →
              Accepts (.setNoticeMask tag [h, l]) s { s with ntu := { s.ntu with mask := h ++ l } } 0x04 tag [h, l]))
      ∧ (∀ (interval : Nat) (items : List MeterItem), s.Taking → interval = 0 ∨ (10 ≤ interval ∧ interval ≤ 10000) →
        1 ≤ items.length → items.length ≤ 8 →
        Accepts (.setMeter tag (bytes16 interval ++ items.map fun i => byte i.val)) s
          { s with ntu := { s.ntu with
              interval := interval, items := items, meterTimer := if interval = 0 then none else some 0 } }
          0x05 tag [])
      ∧ (∀ (interval : Nat) (items : List Byte), s.Taking → interval < 65536 → 1 ≤ items.length → items.length ≤ 8 →
          ((1 ≤ interval ∧ interval ≤ 9) ∨ 10000 < interval ∨ ∃ i ∈ items, 9 < i.toNat) →
          Refuses (.setMeter tag (bytes16 interval ++ items)) s 0x05 tag .outOfRange)
      ∧ ∀ snapshot : List Byte,
          snapshot = byte s.ntu.items.length :: s.ntu.items.flatMap (fun i => byte i.val :: match i with
            | 0 => bytes16 s.dyn.level.val
            | 1 => [byte (s.dyn.level.val / 8192)]
            | 2 => [byte (s.sst.live.tierMap[tierOf s.dyn.level]).val]
            | 3 => [byte s.dyn.expr.val]
            | 4 => bytes16 s.dyn.average
            | 5 => bytes16s (s.bfe.acc / 256)
            | 6 => [(match s.bfe.bd with | .push => 0 | .pull => 1)
                + if s.bfe.lost = true ∨ s.bfe.railFault = true then 2 else 0]
            | 7 => [byte ((List.finRange 48).filter fun v => s.vtb.voices[v].state = .sounding).length]
            | 8 => [byte ((List.finRange 48).map fun v =>
                (([0, 1, 2, 3] : List LaneNo).filter fun n => s.vtb.voices[v].owed.getLsbD n.val).length).sum]
            | 9 => bytes16 s.bsc.held) →
          (s.mlk.reply = none → Accepts (.readMeter tag []) s s 0x06 tag snapshot)
            ∧ ((∀ e ∈ s.ntu.meterTimer, e < 4 * s.ntu.interval) → exec .meterExpiry s = .next s)
            ∧ ((∃ e ∈ s.ntu.meterTimer, 4 * s.ntu.interval ≤ e) →
                exec .meterExpiry s = .next
                  (({ s with ntu := { s.ntu with meterTimer := some 0 } } : State).raise (.meter snapshot)).arbitrate)

/-! ## What every step keeps -/

/-- Every step keeps the scanner's settings and counts in their ranges, and the held count and the group occupancies
equal to what they count. -/
def Obligations.StepKeepsScannerCounts : Prop :=
  ∀ s t : State, s.bsc.InRange → s.bsc.CountsAgree → step s = .next t → t.bsc.InRange ∧ t.bsc.CountsAgree

/-- Every step keeps the voice table coherent: a SOUNDING voice has one to six holders, none twice, and owes nothing;
a FREE or OWED voice has no holder and no lane, and owes exactly when it is OWED. -/
def Obligations.StepKeepsVoicesCoherent : Prop :=
  ∀ s t : State, s.vtb.Coherent → step s = .next t → t.vtb.Coherent

/-- Every step keeps what the enable and the halt promise: with E = 0 no voice is SOUNDING and no crosspoint voiced;
while HALTED E is 0, the stack is empty and no cue is armed. And every step keeps voices, lanes and silence in
agreement: the records of voices and of lanes are coherent with their states, a queue holds at most 32 records, one
unsent Swell and one unsent Tier, the lane sets, owed sets, owed-stop lists and unsent Starts name one another, no two
SOUNDING LIVE voices share layer and pitch, only voiced keys hold voices, a silence-pending lane has a Silence to send,
and with E = 0 no lane holds an unsent Start. -/
def Obligations.StepKeepsSilenceWhenDisabled : Prop :=
  (∀ s t : State,
    (s.slc.enable = false → (∀ v : Slot, s.vtb.voices[v].state ≠ .sounding)
      ∧ ∀ x : Crosspoint, s.vtb.voicedAs[x] = none) →
    (s.slc.part = .halted → s.slc.enable = false ∧ s.stack = [] ∧ s.sst.armed = none) →
    step s = .next t →
    (t.slc.enable = false → (∀ v : Slot, t.vtb.voices[v].state ≠ .sounding)
        ∧ ∀ x : Crosspoint, t.vtb.voicedAs[x] = none)
      ∧ (t.slc.part = .halted → t.slc.enable = false ∧ t.stack = [] ∧ t.sst.armed = none))
    ∧ ∀ s t : State, s.VoicesLanesCoherent → step s = .next t → t.VoicesLanesCoherent

/-- Every step keeps the link served: the counts stay bytes, a reply being sent is the one in the slot, an idle output
has nothing to send, and every pending slot holds a notice of its own kind with a count of at most 255. -/
def Obligations.StepKeepsOutputServed : Prop :=
  ∀ s t : State, s.OutputServed → s.ntu.SlotsCoherent → step s = .next t → t.OutputServed ∧ t.ntu.SlotsCoherent

/-- Every step keeps the bellows front end's and the Dynamics Unit's values in their ranges: A and the offset, the run
below Nr, the rail counters, the level between floor and ceiling, the window, F16. -/
def Obligations.StepKeepsBellowsAndDynamicsInRange : Prop :=
  ∀ s t : State, s.bfe.InRange → s.dyn.InRange → step s = .next t → t.bfe.InRange ∧ t.dyn.InRange

/-- Every step keeps every scene in a state its contents suit, every transpose in its range, and the override stack at
most four deep with no tag twice and no host entry marked released. -/
def Obligations.StepKeepsScenesAndStackCoherent : Prop :=
  ∀ s t : State, s.ScenesCoherent → s.TransposesInRange → s.StackBounded → step s = .next t →
    t.ScenesCoherent ∧ t.TransposesInRange ∧ t.StackBounded

/-- The state after reset has every property that the steps keep, and the lanes and the voices agree in it. -/
def Obligations.ResetStateIsCoherent : Prop :=
  State.reset.bsc.InRange ∧ State.reset.bsc.CountsAgree ∧ State.reset.vtb.Coherent
    ∧ State.reset.SilencedWhenDisabled ∧ State.reset.StackBounded ∧ State.reset.OutputServed
    ∧ State.reset.ntu.SlotsCoherent ∧ State.reset.bfe.InRange ∧ State.reset.dyn.InRange
    ∧ State.reset.ScenesCoherent ∧ State.reset.TransposesInRange ∧ State.reset.LanesCoherent
    ∧ State.reset.VoicesAndLanesAgree ∧ State.reset.HoldersPressed ∧ State.reset.PendingSilences
    ∧ State.reset.vtb.LiveDistinct
end

