-- ==== Sys2Proof/Laws/State.lean ====
section
/-! SUPPORT. What each named update of the state leaves alone and what it writes, one lemma for each field and update,
so that no later proof unfolds a record update; and reading a table after one entry was written. -/

namespace Sys2Proof.Machine

/-! ## One entry of a table -/

/-- Reading a table after one entry was written. -/
theorem get_put {α : Type} {n : Nat} (v : Vector α n) (i j : Fin n) (a : α) :
    (put v i a)[j] = if j = i then a else v[j] := by
  simp only [put, Fin.getElem_fin, Vector.getElem_set, Fin.ext_iff, eq_comm]

@[simp] theorem get_put_self {α : Type} {n : Nat} (v : Vector α n) (i : Fin n) (a : α) : (put v i a)[i] = a := by
  rw [get_put, if_pos rfl]

theorem get_put_ne {α : Type} {n : Nat} (v : Vector α n) {i j : Fin n} (a : α) (h : j ≠ i) :
    (put v i a)[j] = v[j] := by
  rw [get_put, if_neg h]

/-- The second of two writes of one entry stands. -/
@[simp] theorem put_put {α : Type} {n : Nat} (v : Vector α n) (i : Fin n) (a b : α) :
    put (put v i a) i b = put v i b := by
  apply Vector.ext
  intro k hk
  simp only [put, Vector.getElem_set]
  split <;> rfl

/-- Writing the entry a table has changes nothing. -/
@[simp] theorem put_same {α : Type} {n : Nat} (v : Vector α n) (i : Fin n) : put v i v[i] = v := by
  apply Vector.ext
  intro k hk
  simp only [put, Vector.getElem_set]
  split
  · subst_vars; rfl
  · rfl

/-- Two tables with the same entries are equal. -/
theorem table_ext {α : Type} {n : Nat} {v w : Vector α n} (h : ∀ i : Fin n, v[i] = w[i]) : v = w :=
  Vector.ext fun k hk => h ⟨k, hk⟩

/-- Reading a table given entry by entry. -/
@[simp] theorem get_tabulate {α : Type} {n : Nat} (f : Fin n → α) (i : Fin n) : (tabulate f)[i] = f i := by
  simp only [tabulate, Fin.getElem_fin, Vector.getElem_ofFn]

/-- The same, for an index that stands as a number. -/
@[simp] theorem get_tabulate_nat {α : Type} {n k : Nat} (f : Fin n → α) (h : k < n) : (tabulate f)[k] = f ⟨k, h⟩ := by
  simp only [tabulate, Vector.getElem_ofFn]

/-- Reading a table of equal entries. -/
@[simp] theorem get_replicate {α : Type} {n : Nat} (a : α) (i : Fin n) : (Vector.replicate n a)[i] = a := by
  simp [Fin.getElem_fin]

/-! ## `State.setBsc` -/

section

variable (s : State) (b : Scanner)
@[simp] theorem State.setBsc_bsc : (s.setBsc b).bsc = b := rfl
@[simp] theorem State.setBsc_nex : (s.setBsc b).nex = s.nex := rfl
@[simp] theorem State.setBsc_sst : (s.setBsc b).sst = s.sst := rfl
@[simp] theorem State.setBsc_vtb : (s.setBsc b).vtb = s.vtb := rfl
@[simp] theorem State.setBsc_bfe : (s.setBsc b).bfe = s.bfe := rfl
@[simp] theorem State.setBsc_dyn : (s.setBsc b).dyn = s.dyn := rfl
@[simp] theorem State.setBsc_stack : (s.setBsc b).stack = s.stack := rfl
@[simp] theorem State.setBsc_slc : (s.setBsc b).slc = s.slc := rfl
@[simp] theorem State.setBsc_lanes : (s.setBsc b).lanes = s.lanes := rfl
@[simp] theorem State.setBsc_ntu : (s.setBsc b).ntu = s.ntu := rfl
@[simp] theorem State.setBsc_mlk : (s.setBsc b).mlk = s.mlk := rfl
@[simp] theorem State.setBsc_pending : (s.setBsc b).pending = s.pending := rfl
@[simp] theorem State.setBsc_freeDraws : (s.setBsc b).freeDraws = s.freeDraws := rfl

end

/-! ## `State.setNex` -/

section

variable (s : State) (b : Expander)
@[simp] theorem State.setNex_bsc : (s.setNex b).bsc = s.bsc := rfl
@[simp] theorem State.setNex_nex : (s.setNex b).nex = b := rfl
@[simp] theorem State.setNex_sst : (s.setNex b).sst = s.sst := rfl
@[simp] theorem State.setNex_vtb : (s.setNex b).vtb = s.vtb := rfl
@[simp] theorem State.setNex_bfe : (s.setNex b).bfe = s.bfe := rfl
@[simp] theorem State.setNex_dyn : (s.setNex b).dyn = s.dyn := rfl
@[simp] theorem State.setNex_stack : (s.setNex b).stack = s.stack := rfl
@[simp] theorem State.setNex_slc : (s.setNex b).slc = s.slc := rfl
@[simp] theorem State.setNex_lanes : (s.setNex b).lanes = s.lanes := rfl
@[simp] theorem State.setNex_ntu : (s.setNex b).ntu = s.ntu := rfl
@[simp] theorem State.setNex_mlk : (s.setNex b).mlk = s.mlk := rfl
@[simp] theorem State.setNex_pending : (s.setNex b).pending = s.pending := rfl
@[simp] theorem State.setNex_freeDraws : (s.setNex b).freeDraws = s.freeDraws := rfl

end

/-! ## `State.setSst` -/

section

variable (s : State) (b : SceneStore)
@[simp] theorem State.setSst_bsc : (s.setSst b).bsc = s.bsc := rfl
@[simp] theorem State.setSst_nex : (s.setSst b).nex = s.nex := rfl
@[simp] theorem State.setSst_sst : (s.setSst b).sst = b := rfl
@[simp] theorem State.setSst_vtb : (s.setSst b).vtb = s.vtb := rfl
@[simp] theorem State.setSst_bfe : (s.setSst b).bfe = s.bfe := rfl
@[simp] theorem State.setSst_dyn : (s.setSst b).dyn = s.dyn := rfl
@[simp] theorem State.setSst_stack : (s.setSst b).stack = s.stack := rfl
@[simp] theorem State.setSst_slc : (s.setSst b).slc = s.slc := rfl
@[simp] theorem State.setSst_lanes : (s.setSst b).lanes = s.lanes := rfl
@[simp] theorem State.setSst_ntu : (s.setSst b).ntu = s.ntu := rfl
@[simp] theorem State.setSst_mlk : (s.setSst b).mlk = s.mlk := rfl
@[simp] theorem State.setSst_pending : (s.setSst b).pending = s.pending := rfl
@[simp] theorem State.setSst_freeDraws : (s.setSst b).freeDraws = s.freeDraws := rfl

end

/-! ## `State.setVtb` -/

section

variable (s : State) (b : VoiceTable)
@[simp] theorem State.setVtb_bsc : (s.setVtb b).bsc = s.bsc := rfl
@[simp] theorem State.setVtb_nex : (s.setVtb b).nex = s.nex := rfl
@[simp] theorem State.setVtb_sst : (s.setVtb b).sst = s.sst := rfl
@[simp] theorem State.setVtb_vtb : (s.setVtb b).vtb = b := rfl
@[simp] theorem State.setVtb_bfe : (s.setVtb b).bfe = s.bfe := rfl
@[simp] theorem State.setVtb_dyn : (s.setVtb b).dyn = s.dyn := rfl
@[simp] theorem State.setVtb_stack : (s.setVtb b).stack = s.stack := rfl
@[simp] theorem State.setVtb_slc : (s.setVtb b).slc = s.slc := rfl
@[simp] theorem State.setVtb_lanes : (s.setVtb b).lanes = s.lanes := rfl
@[simp] theorem State.setVtb_ntu : (s.setVtb b).ntu = s.ntu := rfl
@[simp] theorem State.setVtb_mlk : (s.setVtb b).mlk = s.mlk := rfl
@[simp] theorem State.setVtb_pending : (s.setVtb b).pending = s.pending := rfl
@[simp] theorem State.setVtb_freeDraws : (s.setVtb b).freeDraws = s.freeDraws := rfl

end

/-! ## `State.setBfe` -/

section

variable (s : State) (b : Bellows)
@[simp] theorem State.setBfe_bsc : (s.setBfe b).bsc = s.bsc := rfl
@[simp] theorem State.setBfe_nex : (s.setBfe b).nex = s.nex := rfl
@[simp] theorem State.setBfe_sst : (s.setBfe b).sst = s.sst := rfl
@[simp] theorem State.setBfe_vtb : (s.setBfe b).vtb = s.vtb := rfl
@[simp] theorem State.setBfe_bfe : (s.setBfe b).bfe = b := rfl
@[simp] theorem State.setBfe_dyn : (s.setBfe b).dyn = s.dyn := rfl
@[simp] theorem State.setBfe_stack : (s.setBfe b).stack = s.stack := rfl
@[simp] theorem State.setBfe_slc : (s.setBfe b).slc = s.slc := rfl
@[simp] theorem State.setBfe_lanes : (s.setBfe b).lanes = s.lanes := rfl
@[simp] theorem State.setBfe_ntu : (s.setBfe b).ntu = s.ntu := rfl
@[simp] theorem State.setBfe_mlk : (s.setBfe b).mlk = s.mlk := rfl
@[simp] theorem State.setBfe_pending : (s.setBfe b).pending = s.pending := rfl
@[simp] theorem State.setBfe_freeDraws : (s.setBfe b).freeDraws = s.freeDraws := rfl

end

/-! ## `State.setDyn` -/

section

variable (s : State) (b : Dynamics)
@[simp] theorem State.setDyn_bsc : (s.setDyn b).bsc = s.bsc := rfl
@[simp] theorem State.setDyn_nex : (s.setDyn b).nex = s.nex := rfl
@[simp] theorem State.setDyn_sst : (s.setDyn b).sst = s.sst := rfl
@[simp] theorem State.setDyn_vtb : (s.setDyn b).vtb = s.vtb := rfl
@[simp] theorem State.setDyn_bfe : (s.setDyn b).bfe = s.bfe := rfl
@[simp] theorem State.setDyn_dyn : (s.setDyn b).dyn = b := rfl
@[simp] theorem State.setDyn_stack : (s.setDyn b).stack = s.stack := rfl
@[simp] theorem State.setDyn_slc : (s.setDyn b).slc = s.slc := rfl
@[simp] theorem State.setDyn_lanes : (s.setDyn b).lanes = s.lanes := rfl
@[simp] theorem State.setDyn_ntu : (s.setDyn b).ntu = s.ntu := rfl
@[simp] theorem State.setDyn_mlk : (s.setDyn b).mlk = s.mlk := rfl
@[simp] theorem State.setDyn_pending : (s.setDyn b).pending = s.pending := rfl
@[simp] theorem State.setDyn_freeDraws : (s.setDyn b).freeDraws = s.freeDraws := rfl

end

/-! ## `State.setStack` -/

section

variable (s : State) (b : List StackEntry)
@[simp] theorem State.setStack_bsc : (s.setStack b).bsc = s.bsc := rfl
@[simp] theorem State.setStack_nex : (s.setStack b).nex = s.nex := rfl
@[simp] theorem State.setStack_sst : (s.setStack b).sst = s.sst := rfl
@[simp] theorem State.setStack_vtb : (s.setStack b).vtb = s.vtb := rfl
@[simp] theorem State.setStack_bfe : (s.setStack b).bfe = s.bfe := rfl
@[simp] theorem State.setStack_dyn : (s.setStack b).dyn = s.dyn := rfl
@[simp] theorem State.setStack_stack : (s.setStack b).stack = b := rfl
@[simp] theorem State.setStack_slc : (s.setStack b).slc = s.slc := rfl
@[simp] theorem State.setStack_lanes : (s.setStack b).lanes = s.lanes := rfl
@[simp] theorem State.setStack_ntu : (s.setStack b).ntu = s.ntu := rfl
@[simp] theorem State.setStack_mlk : (s.setStack b).mlk = s.mlk := rfl
@[simp] theorem State.setStack_pending : (s.setStack b).pending = s.pending := rfl
@[simp] theorem State.setStack_freeDraws : (s.setStack b).freeDraws = s.freeDraws := rfl

end

/-! ## `State.setSlc` -/

section

variable (s : State) (b : Silencing)
@[simp] theorem State.setSlc_bsc : (s.setSlc b).bsc = s.bsc := rfl
@[simp] theorem State.setSlc_nex : (s.setSlc b).nex = s.nex := rfl
@[simp] theorem State.setSlc_sst : (s.setSlc b).sst = s.sst := rfl
@[simp] theorem State.setSlc_vtb : (s.setSlc b).vtb = s.vtb := rfl
@[simp] theorem State.setSlc_bfe : (s.setSlc b).bfe = s.bfe := rfl
@[simp] theorem State.setSlc_dyn : (s.setSlc b).dyn = s.dyn := rfl
@[simp] theorem State.setSlc_stack : (s.setSlc b).stack = s.stack := rfl
@[simp] theorem State.setSlc_slc : (s.setSlc b).slc = b := rfl
@[simp] theorem State.setSlc_lanes : (s.setSlc b).lanes = s.lanes := rfl
@[simp] theorem State.setSlc_ntu : (s.setSlc b).ntu = s.ntu := rfl
@[simp] theorem State.setSlc_mlk : (s.setSlc b).mlk = s.mlk := rfl
@[simp] theorem State.setSlc_pending : (s.setSlc b).pending = s.pending := rfl
@[simp] theorem State.setSlc_freeDraws : (s.setSlc b).freeDraws = s.freeDraws := rfl

end

/-! ## `State.setNtu` -/

section

variable (s : State) (b : NoticeUnit)
@[simp] theorem State.setNtu_bsc : (s.setNtu b).bsc = s.bsc := rfl
@[simp] theorem State.setNtu_nex : (s.setNtu b).nex = s.nex := rfl
@[simp] theorem State.setNtu_sst : (s.setNtu b).sst = s.sst := rfl
@[simp] theorem State.setNtu_vtb : (s.setNtu b).vtb = s.vtb := rfl
@[simp] theorem State.setNtu_bfe : (s.setNtu b).bfe = s.bfe := rfl
@[simp] theorem State.setNtu_dyn : (s.setNtu b).dyn = s.dyn := rfl
@[simp] theorem State.setNtu_stack : (s.setNtu b).stack = s.stack := rfl
@[simp] theorem State.setNtu_slc : (s.setNtu b).slc = s.slc := rfl
@[simp] theorem State.setNtu_lanes : (s.setNtu b).lanes = s.lanes := rfl
@[simp] theorem State.setNtu_ntu : (s.setNtu b).ntu = b := rfl
@[simp] theorem State.setNtu_mlk : (s.setNtu b).mlk = s.mlk := rfl
@[simp] theorem State.setNtu_pending : (s.setNtu b).pending = s.pending := rfl
@[simp] theorem State.setNtu_freeDraws : (s.setNtu b).freeDraws = s.freeDraws := rfl

end

/-! ## `State.setMlk` -/

section

variable (s : State) (b : Link)
@[simp] theorem State.setMlk_bsc : (s.setMlk b).bsc = s.bsc := rfl
@[simp] theorem State.setMlk_nex : (s.setMlk b).nex = s.nex := rfl
@[simp] theorem State.setMlk_sst : (s.setMlk b).sst = s.sst := rfl
@[simp] theorem State.setMlk_vtb : (s.setMlk b).vtb = s.vtb := rfl
@[simp] theorem State.setMlk_bfe : (s.setMlk b).bfe = s.bfe := rfl
@[simp] theorem State.setMlk_dyn : (s.setMlk b).dyn = s.dyn := rfl
@[simp] theorem State.setMlk_stack : (s.setMlk b).stack = s.stack := rfl
@[simp] theorem State.setMlk_slc : (s.setMlk b).slc = s.slc := rfl
@[simp] theorem State.setMlk_lanes : (s.setMlk b).lanes = s.lanes := rfl
@[simp] theorem State.setMlk_ntu : (s.setMlk b).ntu = s.ntu := rfl
@[simp] theorem State.setMlk_mlk : (s.setMlk b).mlk = b := rfl
@[simp] theorem State.setMlk_pending : (s.setMlk b).pending = s.pending := rfl
@[simp] theorem State.setMlk_freeDraws : (s.setMlk b).freeDraws = s.freeDraws := rfl

end

/-! ## `State.setLive` -/

section

variable (s : State) (c : LiveCopy)
@[simp] theorem State.setLive_bsc : (s.setLive c).bsc = s.bsc := rfl
@[simp] theorem State.setLive_nex : (s.setLive c).nex = s.nex := rfl
@[simp] theorem State.setLive_vtb : (s.setLive c).vtb = s.vtb := rfl
@[simp] theorem State.setLive_bfe : (s.setLive c).bfe = s.bfe := rfl
@[simp] theorem State.setLive_dyn : (s.setLive c).dyn = s.dyn := rfl
@[simp] theorem State.setLive_stack : (s.setLive c).stack = s.stack := rfl
@[simp] theorem State.setLive_slc : (s.setLive c).slc = s.slc := rfl
@[simp] theorem State.setLive_lanes : (s.setLive c).lanes = s.lanes := rfl
@[simp] theorem State.setLive_ntu : (s.setLive c).ntu = s.ntu := rfl
@[simp] theorem State.setLive_mlk : (s.setLive c).mlk = s.mlk := rfl
@[simp] theorem State.setLive_pending : (s.setLive c).pending = s.pending := rfl
@[simp] theorem State.setLive_freeDraws : (s.setLive c).freeDraws = s.freeDraws := rfl

end

/-! ## `State.countStart` -/

section

variable (s : State)
@[simp] theorem State.countStart_bsc : (s.countStart).bsc = s.bsc := rfl
@[simp] theorem State.countStart_nex : (s.countStart).nex = s.nex := rfl
@[simp] theorem State.countStart_sst : (s.countStart).sst = s.sst := rfl
@[simp] theorem State.countStart_bfe : (s.countStart).bfe = s.bfe := rfl
@[simp] theorem State.countStart_dyn : (s.countStart).dyn = s.dyn := rfl
@[simp] theorem State.countStart_stack : (s.countStart).stack = s.stack := rfl
@[simp] theorem State.countStart_slc : (s.countStart).slc = s.slc := rfl
@[simp] theorem State.countStart_lanes : (s.countStart).lanes = s.lanes := rfl
@[simp] theorem State.countStart_ntu : (s.countStart).ntu = s.ntu := rfl
@[simp] theorem State.countStart_mlk : (s.countStart).mlk = s.mlk := rfl
@[simp] theorem State.countStart_pending : (s.countStart).pending = s.pending := rfl
@[simp] theorem State.countStart_freeDraws : (s.countStart).freeDraws = s.freeDraws := rfl

end

/-! ## `State.unvoiceAll` -/

section

variable (s : State)
@[simp] theorem State.unvoiceAll_bsc : (s.unvoiceAll).bsc = s.bsc := rfl
@[simp] theorem State.unvoiceAll_nex : (s.unvoiceAll).nex = s.nex := rfl
@[simp] theorem State.unvoiceAll_sst : (s.unvoiceAll).sst = s.sst := rfl
@[simp] theorem State.unvoiceAll_bfe : (s.unvoiceAll).bfe = s.bfe := rfl
@[simp] theorem State.unvoiceAll_dyn : (s.unvoiceAll).dyn = s.dyn := rfl
@[simp] theorem State.unvoiceAll_stack : (s.unvoiceAll).stack = s.stack := rfl
@[simp] theorem State.unvoiceAll_slc : (s.unvoiceAll).slc = s.slc := rfl
@[simp] theorem State.unvoiceAll_lanes : (s.unvoiceAll).lanes = s.lanes := rfl
@[simp] theorem State.unvoiceAll_ntu : (s.unvoiceAll).ntu = s.ntu := rfl
@[simp] theorem State.unvoiceAll_mlk : (s.unvoiceAll).mlk = s.mlk := rfl
@[simp] theorem State.unvoiceAll_pending : (s.unvoiceAll).pending = s.pending := rfl
@[simp] theorem State.unvoiceAll_freeDraws : (s.unvoiceAll).freeDraws = s.freeDraws := rfl

end

/-! ## `State.setLane` -/

section

variable (s : State) (n : LaneNo) (l : Lane)
@[simp] theorem State.setLane_bsc : (s.setLane n l).bsc = s.bsc := rfl
@[simp] theorem State.setLane_nex : (s.setLane n l).nex = s.nex := rfl
@[simp] theorem State.setLane_sst : (s.setLane n l).sst = s.sst := rfl
@[simp] theorem State.setLane_vtb : (s.setLane n l).vtb = s.vtb := rfl
@[simp] theorem State.setLane_bfe : (s.setLane n l).bfe = s.bfe := rfl
@[simp] theorem State.setLane_dyn : (s.setLane n l).dyn = s.dyn := rfl
@[simp] theorem State.setLane_stack : (s.setLane n l).stack = s.stack := rfl
@[simp] theorem State.setLane_slc : (s.setLane n l).slc = s.slc := rfl
@[simp] theorem State.setLane_ntu : (s.setLane n l).ntu = s.ntu := rfl
@[simp] theorem State.setLane_mlk : (s.setLane n l).mlk = s.mlk := rfl
@[simp] theorem State.setLane_pending : (s.setLane n l).pending = s.pending := rfl
@[simp] theorem State.setLane_freeDraws : (s.setLane n l).freeDraws = s.freeDraws := rfl

end

/-! ## `State.setVoice` -/

section

variable (s : State) (v : Slot) (y : Voice)
@[simp] theorem State.setVoice_bsc : (s.setVoice v y).bsc = s.bsc := rfl
@[simp] theorem State.setVoice_nex : (s.setVoice v y).nex = s.nex := rfl
@[simp] theorem State.setVoice_sst : (s.setVoice v y).sst = s.sst := rfl
@[simp] theorem State.setVoice_bfe : (s.setVoice v y).bfe = s.bfe := rfl
@[simp] theorem State.setVoice_dyn : (s.setVoice v y).dyn = s.dyn := rfl
@[simp] theorem State.setVoice_stack : (s.setVoice v y).stack = s.stack := rfl
@[simp] theorem State.setVoice_slc : (s.setVoice v y).slc = s.slc := rfl
@[simp] theorem State.setVoice_lanes : (s.setVoice v y).lanes = s.lanes := rfl
@[simp] theorem State.setVoice_ntu : (s.setVoice v y).ntu = s.ntu := rfl
@[simp] theorem State.setVoice_mlk : (s.setVoice v y).mlk = s.mlk := rfl
@[simp] theorem State.setVoice_pending : (s.setVoice v y).pending = s.pending := rfl
@[simp] theorem State.setVoice_freeDraws : (s.setVoice v y).freeDraws = s.freeDraws := rfl

end

/-! ## `State.mapVoices` -/

section

variable (s : State) (f : Slot → Voice → Voice)
@[simp] theorem State.mapVoices_bsc : (s.mapVoices f).bsc = s.bsc := rfl
@[simp] theorem State.mapVoices_nex : (s.mapVoices f).nex = s.nex := rfl
@[simp] theorem State.mapVoices_sst : (s.mapVoices f).sst = s.sst := rfl
@[simp] theorem State.mapVoices_bfe : (s.mapVoices f).bfe = s.bfe := rfl
@[simp] theorem State.mapVoices_dyn : (s.mapVoices f).dyn = s.dyn := rfl
@[simp] theorem State.mapVoices_stack : (s.mapVoices f).stack = s.stack := rfl
@[simp] theorem State.mapVoices_slc : (s.mapVoices f).slc = s.slc := rfl
@[simp] theorem State.mapVoices_lanes : (s.mapVoices f).lanes = s.lanes := rfl
@[simp] theorem State.mapVoices_ntu : (s.mapVoices f).ntu = s.ntu := rfl
@[simp] theorem State.mapVoices_mlk : (s.mapVoices f).mlk = s.mlk := rfl
@[simp] theorem State.mapVoices_pending : (s.mapVoices f).pending = s.pending := rfl
@[simp] theorem State.mapVoices_freeDraws : (s.mapVoices f).freeDraws = s.freeDraws := rfl

end

/-! ## `State.setVoicedAs` -/

section

variable (s : State) (xs : List Crosspoint) (d : Option Dir)
@[simp] theorem State.setVoicedAs_bsc : (s.setVoicedAs xs d).bsc = s.bsc := rfl
@[simp] theorem State.setVoicedAs_nex : (s.setVoicedAs xs d).nex = s.nex := rfl
@[simp] theorem State.setVoicedAs_sst : (s.setVoicedAs xs d).sst = s.sst := rfl
@[simp] theorem State.setVoicedAs_bfe : (s.setVoicedAs xs d).bfe = s.bfe := rfl
@[simp] theorem State.setVoicedAs_dyn : (s.setVoicedAs xs d).dyn = s.dyn := rfl
@[simp] theorem State.setVoicedAs_stack : (s.setVoicedAs xs d).stack = s.stack := rfl
@[simp] theorem State.setVoicedAs_slc : (s.setVoicedAs xs d).slc = s.slc := rfl
@[simp] theorem State.setVoicedAs_lanes : (s.setVoicedAs xs d).lanes = s.lanes := rfl
@[simp] theorem State.setVoicedAs_ntu : (s.setVoicedAs xs d).ntu = s.ntu := rfl
@[simp] theorem State.setVoicedAs_mlk : (s.setVoicedAs xs d).mlk = s.mlk := rfl
@[simp] theorem State.setVoicedAs_pending : (s.setVoicedAs xs d).pending = s.pending := rfl
@[simp] theorem State.setVoicedAs_freeDraws : (s.setVoicedAs xs d).freeDraws = s.freeDraws := rfl

end

/-! ## `State.setSettings` -/

section

variable (s : State) (t : Settings)
@[simp] theorem State.setSettings_bsc : (s.setSettings t).bsc = s.bsc := rfl
@[simp] theorem State.setSettings_nex : (s.setSettings t).nex = s.nex := rfl
@[simp] theorem State.setSettings_vtb : (s.setSettings t).vtb = s.vtb := rfl
@[simp] theorem State.setSettings_bfe : (s.setSettings t).bfe = s.bfe := rfl
@[simp] theorem State.setSettings_dyn : (s.setSettings t).dyn = s.dyn := rfl
@[simp] theorem State.setSettings_stack : (s.setSettings t).stack = s.stack := rfl
@[simp] theorem State.setSettings_slc : (s.setSettings t).slc = s.slc := rfl
@[simp] theorem State.setSettings_lanes : (s.setSettings t).lanes = s.lanes := rfl
@[simp] theorem State.setSettings_ntu : (s.setSettings t).ntu = s.ntu := rfl
@[simp] theorem State.setSettings_mlk : (s.setSettings t).mlk = s.mlk := rfl
@[simp] theorem State.setSettings_pending : (s.setSettings t).pending = s.pending := rfl
@[simp] theorem State.setSettings_freeDraws : (s.setSettings t).freeDraws = s.freeDraws := rfl

end

/-! ## `State.raise` -/

section

variable (s : State) (n : Notice)
@[simp] theorem State.raise_bsc : (s.raise n).bsc = s.bsc := rfl
@[simp] theorem State.raise_nex : (s.raise n).nex = s.nex := rfl
@[simp] theorem State.raise_sst : (s.raise n).sst = s.sst := rfl
@[simp] theorem State.raise_vtb : (s.raise n).vtb = s.vtb := rfl
@[simp] theorem State.raise_bfe : (s.raise n).bfe = s.bfe := rfl
@[simp] theorem State.raise_dyn : (s.raise n).dyn = s.dyn := rfl
@[simp] theorem State.raise_stack : (s.raise n).stack = s.stack := rfl
@[simp] theorem State.raise_slc : (s.raise n).slc = s.slc := rfl
@[simp] theorem State.raise_lanes : (s.raise n).lanes = s.lanes := rfl
@[simp] theorem State.raise_mlk : (s.raise n).mlk = s.mlk := rfl
@[simp] theorem State.raise_pending : (s.raise n).pending = s.pending := rfl
@[simp] theorem State.raise_freeDraws : (s.raise n).freeDraws = s.freeDraws := rfl

end

/-! ## `State.rxDone` -/

section

variable (s : State)
@[simp] theorem State.rxDone_bsc : (s.rxDone).bsc = s.bsc := rfl
@[simp] theorem State.rxDone_nex : (s.rxDone).nex = s.nex := rfl
@[simp] theorem State.rxDone_sst : (s.rxDone).sst = s.sst := rfl
@[simp] theorem State.rxDone_vtb : (s.rxDone).vtb = s.vtb := rfl
@[simp] theorem State.rxDone_bfe : (s.rxDone).bfe = s.bfe := rfl
@[simp] theorem State.rxDone_dyn : (s.rxDone).dyn = s.dyn := rfl
@[simp] theorem State.rxDone_stack : (s.rxDone).stack = s.stack := rfl
@[simp] theorem State.rxDone_slc : (s.rxDone).slc = s.slc := rfl
@[simp] theorem State.rxDone_lanes : (s.rxDone).lanes = s.lanes := rfl
@[simp] theorem State.rxDone_ntu : (s.rxDone).ntu = s.ntu := rfl
@[simp] theorem State.rxDone_pending : (s.rxDone).pending = s.pending := rfl
@[simp] theorem State.rxDone_freeDraws : (s.rxDone).freeDraws = s.freeDraws := rfl

end

/-! ## `State.placeReply` -/

section

variable (s : State) (kind tag : Byte) (st : Status) (data : List Byte)
@[simp] theorem State.placeReply_bsc : (s.placeReply kind tag st data).bsc = s.bsc := rfl
@[simp] theorem State.placeReply_nex : (s.placeReply kind tag st data).nex = s.nex := rfl
@[simp] theorem State.placeReply_sst : (s.placeReply kind tag st data).sst = s.sst := rfl
@[simp] theorem State.placeReply_vtb : (s.placeReply kind tag st data).vtb = s.vtb := rfl
@[simp] theorem State.placeReply_bfe : (s.placeReply kind tag st data).bfe = s.bfe := rfl
@[simp] theorem State.placeReply_dyn : (s.placeReply kind tag st data).dyn = s.dyn := rfl
@[simp] theorem State.placeReply_stack : (s.placeReply kind tag st data).stack = s.stack := rfl
@[simp] theorem State.placeReply_slc : (s.placeReply kind tag st data).slc = s.slc := rfl
@[simp] theorem State.placeReply_lanes : (s.placeReply kind tag st data).lanes = s.lanes := rfl
@[simp] theorem State.placeReply_ntu : (s.placeReply kind tag st data).ntu = s.ntu := rfl
@[simp] theorem State.placeReply_pending : (s.placeReply kind tag st data).pending = s.pending := rfl
@[simp] theorem State.placeReply_freeDraws : (s.placeReply kind tag st data).freeDraws = s.freeDraws := rfl

end

/-! ## `State.replied` -/

section

variable (s : State) (kind tag : Byte) (st : Status) (data : List Byte)
@[simp] theorem State.replied_bsc : (s.replied kind tag st data).bsc = s.bsc := rfl
@[simp] theorem State.replied_nex : (s.replied kind tag st data).nex = s.nex := rfl
@[simp] theorem State.replied_sst : (s.replied kind tag st data).sst = s.sst := rfl
@[simp] theorem State.replied_vtb : (s.replied kind tag st data).vtb = s.vtb := rfl
@[simp] theorem State.replied_bfe : (s.replied kind tag st data).bfe = s.bfe := rfl
@[simp] theorem State.replied_dyn : (s.replied kind tag st data).dyn = s.dyn := rfl
@[simp] theorem State.replied_stack : (s.replied kind tag st data).stack = s.stack := rfl
@[simp] theorem State.replied_slc : (s.replied kind tag st data).slc = s.slc := rfl
@[simp] theorem State.replied_lanes : (s.replied kind tag st data).lanes = s.lanes := rfl
@[simp] theorem State.replied_ntu : (s.replied kind tag st data).ntu = s.ntu := rfl
@[simp] theorem State.replied_pending : (s.replied kind tag st data).pending = s.pending := rfl
@[simp] theorem State.replied_freeDraws : (s.replied kind tag st data).freeDraws = s.freeDraws := rfl

end

/-! ## `State.discardFrame` -/

section

variable (s : State)
@[simp] theorem State.discardFrame_bsc : (s.discardFrame).bsc = s.bsc := rfl
@[simp] theorem State.discardFrame_nex : (s.discardFrame).nex = s.nex := rfl
@[simp] theorem State.discardFrame_sst : (s.discardFrame).sst = s.sst := rfl
@[simp] theorem State.discardFrame_vtb : (s.discardFrame).vtb = s.vtb := rfl
@[simp] theorem State.discardFrame_bfe : (s.discardFrame).bfe = s.bfe := rfl
@[simp] theorem State.discardFrame_dyn : (s.discardFrame).dyn = s.dyn := rfl
@[simp] theorem State.discardFrame_stack : (s.discardFrame).stack = s.stack := rfl
@[simp] theorem State.discardFrame_slc : (s.discardFrame).slc = s.slc := rfl
@[simp] theorem State.discardFrame_lanes : (s.discardFrame).lanes = s.lanes := rfl
@[simp] theorem State.discardFrame_ntu : (s.discardFrame).ntu = s.ntu := rfl
@[simp] theorem State.discardFrame_pending : (s.discardFrame).pending = s.pending := rfl
@[simp] theorem State.discardFrame_freeDraws : (s.discardFrame).freeDraws = s.freeDraws := rfl

end

/-! ## `State.rxTo` -/

section

variable (s : State) (rx : RxState) (buffer : List Byte)
@[simp] theorem State.rxTo_bsc : (s.rxTo rx buffer).bsc = s.bsc := rfl
@[simp] theorem State.rxTo_nex : (s.rxTo rx buffer).nex = s.nex := rfl
@[simp] theorem State.rxTo_sst : (s.rxTo rx buffer).sst = s.sst := rfl
@[simp] theorem State.rxTo_vtb : (s.rxTo rx buffer).vtb = s.vtb := rfl
@[simp] theorem State.rxTo_bfe : (s.rxTo rx buffer).bfe = s.bfe := rfl
@[simp] theorem State.rxTo_dyn : (s.rxTo rx buffer).dyn = s.dyn := rfl
@[simp] theorem State.rxTo_stack : (s.rxTo rx buffer).stack = s.stack := rfl
@[simp] theorem State.rxTo_slc : (s.rxTo rx buffer).slc = s.slc := rfl
@[simp] theorem State.rxTo_lanes : (s.rxTo rx buffer).lanes = s.lanes := rfl
@[simp] theorem State.rxTo_ntu : (s.rxTo rx buffer).ntu = s.ntu := rfl
@[simp] theorem State.rxTo_pending : (s.rxTo rx buffer).pending = s.pending := rfl
@[simp] theorem State.rxTo_freeDraws : (s.rxTo rx buffer).freeDraws = s.freeDraws := rfl

end

/-! ## `State.clearLinkCounts` -/

section

variable (s : State)
@[simp] theorem State.clearLinkCounts_bsc : (s.clearLinkCounts).bsc = s.bsc := rfl
@[simp] theorem State.clearLinkCounts_nex : (s.clearLinkCounts).nex = s.nex := rfl
@[simp] theorem State.clearLinkCounts_sst : (s.clearLinkCounts).sst = s.sst := rfl
@[simp] theorem State.clearLinkCounts_vtb : (s.clearLinkCounts).vtb = s.vtb := rfl
@[simp] theorem State.clearLinkCounts_bfe : (s.clearLinkCounts).bfe = s.bfe := rfl
@[simp] theorem State.clearLinkCounts_dyn : (s.clearLinkCounts).dyn = s.dyn := rfl
@[simp] theorem State.clearLinkCounts_stack : (s.clearLinkCounts).stack = s.stack := rfl
@[simp] theorem State.clearLinkCounts_slc : (s.clearLinkCounts).slc = s.slc := rfl
@[simp] theorem State.clearLinkCounts_lanes : (s.clearLinkCounts).lanes = s.lanes := rfl
@[simp] theorem State.clearLinkCounts_ntu : (s.clearLinkCounts).ntu = s.ntu := rfl
@[simp] theorem State.clearLinkCounts_pending : (s.clearLinkCounts).pending = s.pending := rfl
@[simp] theorem State.clearLinkCounts_freeDraws : (s.clearLinkCounts).freeDraws = s.freeDraws := rfl

end

/-! ## `State.clearLane` -/

section

variable (s : State) (n : LaneNo)
@[simp] theorem State.clearLane_bsc : (s.clearLane n).bsc = s.bsc := rfl
@[simp] theorem State.clearLane_nex : (s.clearLane n).nex = s.nex := rfl
@[simp] theorem State.clearLane_sst : (s.clearLane n).sst = s.sst := rfl
@[simp] theorem State.clearLane_bfe : (s.clearLane n).bfe = s.bfe := rfl
@[simp] theorem State.clearLane_dyn : (s.clearLane n).dyn = s.dyn := rfl
@[simp] theorem State.clearLane_stack : (s.clearLane n).stack = s.stack := rfl
@[simp] theorem State.clearLane_slc : (s.clearLane n).slc = s.slc := rfl
@[simp] theorem State.clearLane_lanes : (s.clearLane n).lanes = s.lanes := rfl
@[simp] theorem State.clearLane_ntu : (s.clearLane n).ntu = s.ntu := rfl
@[simp] theorem State.clearLane_mlk : (s.clearLane n).mlk = s.mlk := rfl
@[simp] theorem State.clearLane_pending : (s.clearLane n).pending = s.pending := rfl
@[simp] theorem State.clearLane_freeDraws : (s.clearLane n).freeDraws = s.freeDraws := rfl

end

/-! ## `State.setScene` -/

section

variable (s : State) (n : SceneNo) (c : Scene)
@[simp] theorem State.setScene_bsc : (s.setScene n c).bsc = s.bsc := rfl
@[simp] theorem State.setScene_nex : (s.setScene n c).nex = s.nex := rfl
@[simp] theorem State.setScene_vtb : (s.setScene n c).vtb = s.vtb := rfl
@[simp] theorem State.setScene_bfe : (s.setScene n c).bfe = s.bfe := rfl
@[simp] theorem State.setScene_dyn : (s.setScene n c).dyn = s.dyn := rfl
@[simp] theorem State.setScene_stack : (s.setScene n c).stack = s.stack := rfl
@[simp] theorem State.setScene_slc : (s.setScene n c).slc = s.slc := rfl
@[simp] theorem State.setScene_lanes : (s.setScene n c).lanes = s.lanes := rfl
@[simp] theorem State.setScene_ntu : (s.setScene n c).ntu = s.ntu := rfl
@[simp] theorem State.setScene_mlk : (s.setScene n c).mlk = s.mlk := rfl
@[simp] theorem State.setScene_pending : (s.setScene n c).pending = s.pending := rfl
@[simp] theorem State.setScene_freeDraws : (s.setScene n c).freeDraws = s.freeDraws := rfl

end

/-! ## `State.disarm` -/

section

variable (s : State)
@[simp] theorem State.disarm_bsc : (s.disarm).bsc = s.bsc := rfl
@[simp] theorem State.disarm_nex : (s.disarm).nex = s.nex := rfl
@[simp] theorem State.disarm_vtb : (s.disarm).vtb = s.vtb := rfl
@[simp] theorem State.disarm_bfe : (s.disarm).bfe = s.bfe := rfl
@[simp] theorem State.disarm_dyn : (s.disarm).dyn = s.dyn := rfl
@[simp] theorem State.disarm_stack : (s.disarm).stack = s.stack := rfl
@[simp] theorem State.disarm_slc : (s.disarm).slc = s.slc := rfl
@[simp] theorem State.disarm_lanes : (s.disarm).lanes = s.lanes := rfl
@[simp] theorem State.disarm_ntu : (s.disarm).ntu = s.ntu := rfl
@[simp] theorem State.disarm_mlk : (s.disarm).mlk = s.mlk := rfl
@[simp] theorem State.disarm_pending : (s.disarm).pending = s.pending := rfl
@[simp] theorem State.disarm_freeDraws : (s.disarm).freeDraws = s.freeDraws := rfl

end

/-! ## `State.setTransposeTo` -/

section

variable (s : State) (v : Int)
@[simp] theorem State.setTransposeTo_bsc : (s.setTransposeTo v).bsc = s.bsc := rfl
@[simp] theorem State.setTransposeTo_nex : (s.setTransposeTo v).nex = s.nex := rfl
@[simp] theorem State.setTransposeTo_vtb : (s.setTransposeTo v).vtb = s.vtb := rfl
@[simp] theorem State.setTransposeTo_bfe : (s.setTransposeTo v).bfe = s.bfe := rfl
@[simp] theorem State.setTransposeTo_dyn : (s.setTransposeTo v).dyn = s.dyn := rfl
@[simp] theorem State.setTransposeTo_stack : (s.setTransposeTo v).stack = s.stack := rfl
@[simp] theorem State.setTransposeTo_slc : (s.setTransposeTo v).slc = s.slc := rfl
@[simp] theorem State.setTransposeTo_lanes : (s.setTransposeTo v).lanes = s.lanes := rfl
@[simp] theorem State.setTransposeTo_ntu : (s.setTransposeTo v).ntu = s.ntu := rfl
@[simp] theorem State.setTransposeTo_mlk : (s.setTransposeTo v).mlk = s.mlk := rfl
@[simp] theorem State.setTransposeTo_pending : (s.setTransposeTo v).pending = s.pending := rfl
@[simp] theorem State.setTransposeTo_freeDraws : (s.setTransposeTo v).freeDraws = s.freeDraws := rfl

end

/-! ## `State.markReleased` -/

section

variable (s : State) (tag : Fin 8) (b : Bool)
@[simp] theorem State.markReleased_bsc : (s.markReleased tag b).bsc = s.bsc := rfl
@[simp] theorem State.markReleased_nex : (s.markReleased tag b).nex = s.nex := rfl
@[simp] theorem State.markReleased_sst : (s.markReleased tag b).sst = s.sst := rfl
@[simp] theorem State.markReleased_vtb : (s.markReleased tag b).vtb = s.vtb := rfl
@[simp] theorem State.markReleased_bfe : (s.markReleased tag b).bfe = s.bfe := rfl
@[simp] theorem State.markReleased_dyn : (s.markReleased tag b).dyn = s.dyn := rfl
@[simp] theorem State.markReleased_slc : (s.markReleased tag b).slc = s.slc := rfl
@[simp] theorem State.markReleased_lanes : (s.markReleased tag b).lanes = s.lanes := rfl
@[simp] theorem State.markReleased_ntu : (s.markReleased tag b).ntu = s.ntu := rfl
@[simp] theorem State.markReleased_mlk : (s.markReleased tag b).mlk = s.mlk := rfl
@[simp] theorem State.markReleased_pending : (s.markReleased tag b).pending = s.pending := rfl
@[simp] theorem State.markReleased_freeDraws : (s.markReleased tag b).freeDraws = s.freeDraws := rfl

end

/-! ## What the updates write -/

@[simp] theorem State.setLane_get_self (s : State) (n : LaneNo) (l : Lane) : (s.setLane n l).lanes[n] = l :=
  get_put_self _ _ _

theorem State.setLane_get (s : State) (n k : LaneNo) (l : Lane) :
    (s.setLane n l).lanes[k] = if k = n then l else s.lanes[k] := get_put _ _ _ _

theorem State.setLane_get_ne (s : State) {n k : LaneNo} (l : Lane) (h : k ≠ n) :
    (s.setLane n l).lanes[k] = s.lanes[k] := get_put_ne _ _ h

@[simp] theorem State.setLane_setLane (s : State) (n : LaneNo) (l m : Lane) :
    (s.setLane n l).setLane n m = s.setLane n m := by
  simp only [State.setLane, put_put]

@[simp] theorem State.setLane_same (s : State) (n : LaneNo) : s.setLane n s.lanes[n] = s := by
  simp only [State.setLane, put_same]

@[simp] theorem State.setVoice_get_self (s : State) (v : Slot) (y : Voice) : (s.setVoice v y).vtb.voices[v] = y :=
  get_put_self _ _ _

theorem State.setVoice_get (s : State) (v w : Slot) (y : Voice) :
    (s.setVoice v y).vtb.voices[w] = if w = v then y else s.vtb.voices[w] := get_put _ _ _ _

theorem State.setVoice_get_ne (s : State) {v w : Slot} (y : Voice) (h : w ≠ v) :
    (s.setVoice v y).vtb.voices[w] = s.vtb.voices[w] := get_put_ne _ _ h

@[simp] theorem State.setVoice_voicedAs (s : State) (v : Slot) (y : Voice) :
    (s.setVoice v y).vtb.voicedAs = s.vtb.voicedAs := rfl

@[simp] theorem State.setVoice_seqCounter (s : State) (v : Slot) (y : Voice) :
    (s.setVoice v y).vtb.seqCounter = s.vtb.seqCounter := rfl

@[simp] theorem State.setVoice_setVoice (s : State) (v : Slot) (y z : Voice) :
    (s.setVoice v y).setVoice v z = s.setVoice v z := by
  simp only [State.setVoice, put_put]

@[simp] theorem State.setVoice_same (s : State) (v : Slot) : s.setVoice v s.vtb.voices[v] = s := by
  simp only [State.setVoice, put_same]

@[simp] theorem State.mapVoices_get (s : State) (f : Slot → Voice → Voice) (v : Slot) :
    (s.mapVoices f).vtb.voices[v] = f v s.vtb.voices[v] := get_tabulate _ _

@[simp] theorem State.mapVoices_voicedAs (s : State) (f : Slot → Voice → Voice) :
    (s.mapVoices f).vtb.voicedAs = s.vtb.voicedAs := rfl

@[simp] theorem State.mapVoices_seqCounter (s : State) (f : Slot → Voice → Voice) :
    (s.mapVoices f).vtb.seqCounter = s.vtb.seqCounter := rfl

@[simp] theorem State.clearLane_get (s : State) (n : LaneNo) (v : Slot) :
    (s.clearLane n).vtb.voices[v] = s.vtb.voices[v].cleared n := get_tabulate _ _

@[simp] theorem State.clearLane_voicedAs (s : State) (n : LaneNo) :
    (s.clearLane n).vtb.voicedAs = s.vtb.voicedAs := rfl

@[simp] theorem State.clearLane_seqCounter (s : State) (n : LaneNo) :
    (s.clearLane n).vtb.seqCounter = s.vtb.seqCounter := rfl

@[simp] theorem State.setVoicedAs_voices (s : State) (xs : List Crosspoint) (d : Option Dir) :
    (s.setVoicedAs xs d).vtb.voices = s.vtb.voices := rfl

@[simp] theorem State.setVoicedAs_seqCounter (s : State) (xs : List Crosspoint) (d : Option Dir) :
    (s.setVoicedAs xs d).vtb.seqCounter = s.vtb.seqCounter := rfl

theorem State.setVoicedAs_get (s : State) (xs : List Crosspoint) (d : Option Dir) (x : Crosspoint) :
    (s.setVoicedAs xs d).vtb.voicedAs[x] = if x ∈ xs then d else s.vtb.voicedAs[x] := by
  refine (get_tabulate _ x).trans ?_
  simp only [List.contains_iff_mem]

/-- No crosspoint written, nothing changed. -/
@[simp] theorem State.setVoicedAs_nil (s : State) (d : Option Dir) : s.setVoicedAs [] d = s := by
  have h : (s.setVoicedAs [] d).vtb.voicedAs = s.vtb.voicedAs :=
    table_ext fun x => by rw [State.setVoicedAs_get, if_neg (by simp)]
  calc s.setVoicedAs [] d
      = { s with vtb := { s.vtb with voicedAs := (s.setVoicedAs [] d).vtb.voicedAs } } := rfl
    _ = s := by rw [h]

@[simp] theorem State.setSettings_settings (s : State) (t : Settings) :
    (s.setSettings t).sst.live.settings = t := rfl

@[simp] theorem State.setSettings_layers (s : State) (t : Settings) :
    (s.setSettings t).sst.live.layers = s.sst.live.layers := rfl

@[simp] theorem State.setSettings_library (s : State) (t : Settings) :
    (s.setSettings t).sst.library = s.sst.library := rfl

@[simp] theorem State.raise_get_self (s : State) (n : Notice) :
    (s.raise n).ntu.slots[n.kindIndex] = some (raiseInto s.ntu.slots[n.kindIndex] n) := get_put_self _ _ _

theorem State.raise_get_ne (s : State) (n : Notice) {k : Fin 13} (h : k ≠ n.kindIndex) :
    (s.raise n).ntu.slots[k] = s.ntu.slots[k] := get_put_ne _ _ h

@[simp] theorem State.raise_mask (s : State) (n : Notice) : (s.raise n).ntu.mask = s.ntu.mask := rfl

@[simp] theorem State.setLive_live (s : State) (c : LiveCopy) : (s.setLive c).sst.live = c := rfl

@[simp] theorem State.setLive_library (s : State) (c : LiveCopy) : (s.setLive c).sst.library = s.sst.library := rfl

@[simp] theorem State.setLive_armed (s : State) (c : LiveCopy) : (s.setLive c).sst.armed = s.sst.armed := rfl

@[simp] theorem State.countStart_voices (s : State) : s.countStart.vtb.voices = s.vtb.voices := rfl

@[simp] theorem State.countStart_voicedAs (s : State) : s.countStart.vtb.voicedAs = s.vtb.voicedAs := rfl

@[simp] theorem State.countStart_seqCounter (s : State) :
    s.countStart.vtb.seqCounter = s.vtb.seqCounter + 1 := rfl

@[simp] theorem State.unvoiceAll_voices (s : State) : s.unvoiceAll.vtb.voices = s.vtb.voices := rfl

@[simp] theorem State.unvoiceAll_seqCounter (s : State) : s.unvoiceAll.vtb.seqCounter = s.vtb.seqCounter := rfl

@[simp] theorem State.unvoiceAll_get (s : State) (x : Crosspoint) : s.unvoiceAll.vtb.voicedAs[x] = none :=
  get_replicate _ _

@[simp] theorem State.disarm_armed (s : State) : s.disarm.sst.armed = none := rfl

@[simp] theorem State.disarm_live (s : State) : s.disarm.sst.live = s.sst.live := rfl

@[simp] theorem State.disarm_library (s : State) : s.disarm.sst.library = s.sst.library := rfl

theorem State.setScene_get (s : State) (n k : SceneNo) (c : Scene) :
    (s.setScene n c).sst.library[k] = if k = n then c else s.sst.library[k] := get_put _ _ _ _

@[simp] theorem State.setScene_live (s : State) (n : SceneNo) (c : Scene) :
    (s.setScene n c).sst.live = s.sst.live := rfl

@[simp] theorem State.rxDone_reply (s : State) : s.rxDone.mlk.reply = s.mlk.reply := rfl

@[simp] theorem State.rxDone_rx (s : State) : s.rxDone.mlk.rx = .hunt := rfl

@[simp] theorem State.rxDone_buffer (s : State) : s.rxDone.mlk.buffer = [] := rfl

@[simp] theorem State.rxDone_gapTimer (s : State) : s.rxDone.mlk.gapTimer = none := rfl

@[simp] theorem State.rxDone_output (s : State) : s.rxDone.mlk.output = s.mlk.output := rfl

@[simp] theorem State.placeReply_output (s : State) (kind tag : Byte) (st : Status) (data : List Byte) :
    (s.placeReply kind tag st data).mlk.output = s.mlk.output := rfl

/-! ## Timers -/

/-- A timer is due exactly when it runs and has run for its period. -/
theorem Timer.due_iff (t : Timer) (period : Nat) : Timer.due t period = true ↔ ∃ e ∈ t, period ≤ e := by
  cases t <;> simp [Timer.due]

/-- A timer is not due exactly when it is stopped or has not run for its period. -/
theorem Timer.due_false_iff (t : Timer) (period : Nat) : Timer.due t period = false ↔ ∀ e ∈ t, e < period := by
  cases t <;> simp [Timer.due]

/-- A scan pass is taken once the pass timer has run for one interval (R1). -/
theorem scanPass_due (readings : Readings) {s : State} (h : s.bsc.passDue = true) :
    scanPass readings s = takePass readings s := if_pos h

/-- Before that the command changes nothing (R1, R15). -/
theorem scanPass_early (readings : Readings) {s : State} (h : s.bsc.passDue = false) : scanPass readings s = s := by
  simp only [scanPass, h, Bool.false_eq_true, if_false]

/-! ## The receiver -/

/-- The byte that was in the middle of reception when reset ended is passed over (R181). -/
theorem receiveByte_overReset (s : State) {b : RxByte} (h : b.overReset = true) : receiveByte s b = s := by
  simp only [receiveByte, h, if_true]

/-- Any other byte is judged (R166). -/
theorem receiveByte_whole (s : State) {b : RxByte} (h : b.overReset = false) : receiveByte s b = judgeByte s b := by
  simp only [receiveByte, h, Bool.false_eq_true, if_false]

/-- Bytes are received one after the other. -/
@[simp] theorem receiveBytes_nil (s : State) : receiveBytes [] s = s := rfl

@[simp] theorem receiveBytes_cons (b : RxByte) (bytes : List RxByte) (s : State) :
    receiveBytes (b :: bytes) s = receiveBytes bytes (receiveByte s b) := rfl

@[simp] theorem receiveBytes_append (bytes more : List RxByte) (s : State) :
    receiveBytes (bytes ++ more) s = receiveBytes more (receiveBytes bytes s) := List.foldl_append

end Sys2Proof.Machine
end

