-- ==== Sys2Proof/Laws/Lanes.lean ====
section
/-! SUPPORT. What a lane can do with a record offered to it, a withdrawal, a Silence, and its start or its wait: one
lemma for each operation that says all of it, and the parts of a lane that each leaves alone. -/

namespace Sys2Proof.Machine

/-! ## Beginning to send or to wait (R151, R154) -/

/-- A lane that can begin to send begins under ready, or waits with its timer from zero; any other is unchanged. -/
theorem Lane.beginOrWait_cases (l : Lane) :
    (l.hasWork = true ∧ l.ready = true ∧ l.beginOrWait = { l with sending := true, stall := none })
      ∨ (l.hasWork = true ∧ l.ready = false
          ∧ l.beginOrWait = { l with stall := if l.timeout = 0 then none else some 0 })
      ∨ (l.hasWork = false ∧ l.beginOrWait = l) := by
  unfold Lane.beginOrWait
  cases hw : l.hasWork <;> cases hr : l.ready <;> simp

@[simp] theorem Lane.beginOrWait_state (l : Lane) : l.beginOrWait.state = l.state := by
  rcases l.beginOrWait_cases with ⟨_, _, h⟩ | ⟨_, _, h⟩ | ⟨_, h⟩ <;> rw [h]

@[simp] theorem Lane.beginOrWait_queue (l : Lane) : l.beginOrWait.queue = l.queue := by
  rcases l.beginOrWait_cases with ⟨_, _, h⟩ | ⟨_, _, h⟩ | ⟨_, h⟩ <;> rw [h]

@[simp] theorem Lane.beginOrWait_owed (l : Lane) : l.beginOrWait.owed = l.owed := by
  rcases l.beginOrWait_cases with ⟨_, _, h⟩ | ⟨_, _, h⟩ | ⟨_, h⟩ <;> rw [h]

@[simp] theorem Lane.beginOrWait_timeout (l : Lane) : l.beginOrWait.timeout = l.timeout := by
  rcases l.beginOrWait_cases with ⟨_, _, h⟩ | ⟨_, _, h⟩ | ⟨_, h⟩ <;> rw [h]

@[simp] theorem Lane.beginOrWait_ready (l : Lane) : l.beginOrWait.ready = l.ready := by
  rcases l.beginOrWait_cases with ⟨_, _, h⟩ | ⟨_, _, h⟩ | ⟨_, h⟩ <;> rw [h]

/-! ## A record that joins at the tail (R145) -/

@[simp] theorem Lane.append_queue (l : Lane) (r : LaneRecord) : (l.append r).queue = l.queue ++ [r] := by
  unfold Lane.append; simp only []; split <;> simp

@[simp] theorem Lane.append_state (l : Lane) (r : LaneRecord) : (l.append r).state = l.state := by
  unfold Lane.append; simp only []; split <;> simp

@[simp] theorem Lane.append_owed (l : Lane) (r : LaneRecord) : (l.append r).owed = l.owed := by
  unfold Lane.append; simp only []; split <;> simp

@[simp] theorem Lane.append_timeout (l : Lane) (r : LaneRecord) : (l.append r).timeout = l.timeout := by
  unfold Lane.append; simp only []; split <;> simp

@[simp] theorem Lane.append_ready (l : Lane) (r : LaneRecord) : (l.append r).ready = l.ready := by
  unfold Lane.append; simp only []; split <;> simp

/-- Into a queue that is not empty a record is only appended. -/
theorem Lane.append_nonempty {l : Lane} (r : LaneRecord) (h : l.queue ≠ []) :
    l.append r = { l with queue := l.queue ++ [r] } := by
  unfold Lane.append
  rw [if_neg (by simpa using h)]

/-- Into an empty queue a record makes the lane begin to send or to wait. -/
theorem Lane.append_empty {l : Lane} (r : LaneRecord) (h : l.queue = []) :
    l.append r = ({ l with queue := [r] } : Lane).beginOrWait := by
  unfold Lane.append
  simp [h]

/-! ## Offers (R146 to R148) -/

/-- A Start is accepted by a LIVE lane with fewer than 28 records, and by no other. -/
theorem Lane.acceptStart_some {l m : Lane} {r : LaneRecord} (h : l.acceptStart r = some m) :
    l.state = .live ∧ l.queue.length < 28 ∧ m = l.append r := by
  unfold Lane.acceptStart at h
  split at h
  · next c => exact ⟨c.1, c.2, (Option.some.inj h).symm⟩
  · cases h

theorem Lane.acceptStart_none {l : Lane} {r : LaneRecord} (h : l.acceptStart r = none) :
    ¬ (l.state = .live ∧ l.queue.length < 28) := by
  unfold Lane.acceptStart at h
  split at h
  · cases h
  · next c => exact c

/-- A Stop is accepted by a LIVE or CLOSING lane with fewer than 32 records, and by no other. -/
theorem Lane.acceptStop_some {l m : Lane} {v : Slot} (h : l.acceptStop v = some m) :
    (l.state = .live ∨ l.state = .closing) ∧ l.queue.length < 32 ∧ m = l.append (.stop v) := by
  unfold Lane.acceptStop at h
  split at h
  · next c =>
    refine ⟨?_, c.2, (Option.some.inj h).symm⟩
    simpa [Lane.transmits] using c.1
  · cases h

theorem Lane.acceptStop_none {l : Lane} {v : Slot} (h : l.acceptStop v = none) :
    ¬ ((l.state = .live ∨ l.state = .closing) ∧ l.queue.length < 32) := by
  unfold Lane.acceptStop at h
  split at h
  · cases h
  · next c =>
    intro c'
    exact c ⟨by simpa [Lane.transmits] using c'.1, c'.2⟩

/-- An update replaces the unsent record of its kind, or joins at the tail of a queue with room, or is discarded. -/
theorem Lane.takeUpdate_cases (l : Lane) (p : LaneRecord → Bool) (r : LaneRecord) :
    (l.unsent.any p = true
        ∧ l.takeUpdate p r = some { l with queue := l.sent ++ replaceFirst p r l.unsent })
      ∨ (l.unsent.any p = false ∧ l.queue.length < 32 ∧ l.takeUpdate p r = some (l.append r))
      ∨ (l.unsent.any p = false ∧ 32 ≤ l.queue.length ∧ l.takeUpdate p r = none) := by
  unfold Lane.takeUpdate
  cases h : l.unsent.any p
  · by_cases c : l.queue.length < 32
    · simp [Lane.occupancy, c]
    · simp [Lane.occupancy, c, Nat.not_lt.mp c]
  · simp

/-- An update changes the queue, the mark and the stall timer of a lane and nothing else. -/
theorem Lane.takeUpdate_keeps {l m : Lane} {p : LaneRecord → Bool} {r : LaneRecord}
    (h : l.takeUpdate p r = some m) :
    m.state = l.state ∧ m.owed = l.owed ∧ m.timeout = l.timeout ∧ m.ready = l.ready := by
  rcases l.takeUpdate_cases p r with ⟨_, e⟩ | ⟨_, _, e⟩ | ⟨_, _, e⟩ <;> rw [e] at h
  · cases h; simp
  · cases h; simp
  · cases h

/-! ## Withdrawal (R149) -/

/-- A withdrawal takes the first unsent Start of the voice out of the queue, the stall timer stopping when the queue
is then empty; without such a Start there is none. -/
theorem Lane.withdraw_cases (l : Lane) (v : Slot) :
    (l.unsent.any (LaneRecord.isStartOf v) = true
        ∧ l.withdraw v = some { l with
            queue := l.sent ++ l.unsent.eraseP (LaneRecord.isStartOf v)
            stall := if l.sent ++ l.unsent.eraseP (LaneRecord.isStartOf v) = [] then none else l.stall })
      ∨ (l.unsent.any (LaneRecord.isStartOf v) = false ∧ l.withdraw v = none) := by
  unfold Lane.withdraw
  cases h : l.unsent.any (LaneRecord.isStartOf v)
  · simp
  · simp only [if_true, List.isEmpty_iff, true_and, Bool.true_eq_false, false_and, or_false]

/-! ## Silence and resynchronisation (R150, R116) -/

@[simp] theorem Lane.queueSilence_queue (l : Lane) : l.queueSilence.queue = l.sent ++ [.silence] := by
  unfold Lane.queueSilence; simp only []; split <;> simp

@[simp] theorem Lane.queueSilence_owed (l : Lane) : l.queueSilence.owed = [] := by
  unfold Lane.queueSilence; simp only []; split <;> simp

@[simp] theorem Lane.queueSilence_state (l : Lane) : l.queueSilence.state = l.state := by
  unfold Lane.queueSilence; simp only []; split <;> simp

@[simp] theorem Lane.queueSilence_timeout (l : Lane) : l.queueSilence.timeout = l.timeout := by
  unfold Lane.queueSilence; simp only []; split <;> simp

@[simp] theorem Lane.queueSilence_ready (l : Lane) : l.queueSilence.ready = l.ready := by
  unfold Lane.queueSilence; simp only []; split <;> simp

theorem Lane.takeUpdate_getD_keeps (l : Lane) (p : LaneRecord → Bool) (r : LaneRecord) :
    ((l.takeUpdate p r).getD l).state = l.state ∧ ((l.takeUpdate p r).getD l).owed = l.owed
      ∧ ((l.takeUpdate p r).getD l).timeout = l.timeout ∧ ((l.takeUpdate p r).getD l).ready = l.ready := by
  cases h : l.takeUpdate p r with
  | none => simp
  | some m => exact Lane.takeUpdate_keeps h

/-- Resynchronisation changes the queue, the mark and the stall timer of a lane and nothing else. -/
theorem Lane.resync_keeps (l : Lane) (code : TierCode) (x : Fin 128) :
    (l.resync code x).state = l.state ∧ (l.resync code x).owed = l.owed
      ∧ (l.resync code x).timeout = l.timeout ∧ (l.resync code x).ready = l.ready := by
  have a := l.takeUpdate_getD_keeps LaneRecord.isTier (.tier code)
  have b := ((l.takeUpdate LaneRecord.isTier (.tier code)).getD l).takeUpdate_getD_keeps LaneRecord.isSwell (.swell x)
  exact ⟨b.1.trans a.1, b.2.1.trans a.2.1, b.2.2.1.trans a.2.2.1, b.2.2.2.trans a.2.2.2⟩

/-- Behind a Silence just queued only the Silence is unsent, or nothing. -/
theorem Lane.queueSilence_unsent (l : Lane) : l.queueSilence.unsent = [.silence] ∨ l.queueSilence.unsent = [] := by
  have hq := l.queueSilence_queue
  unfold Lane.unsent
  rw [hq]
  cases hs : l.queueSilence.sending with
  | false =>
    have h : l.sending = false := by
      unfold Lane.queueSilence at hs
      simp only [] at hs
      split at hs
      · rcases Lane.beginOrWait_cases { l with queue := l.sent ++ [LaneRecord.silence], owed := [] } with
          ⟨_, _, e⟩ | ⟨_, _, e⟩ | ⟨_, e⟩ <;> rw [e] at hs
        · cases hs
        · exact hs
        · exact hs
      · exact hs
    left
    simp [Lane.sent, h]
  | true =>
    rw [if_pos rfl]
    unfold Lane.sent
    cases l.queue <;> cases l.sending <;> simp

/-- The resynchronisation behind a Silence just queued only adds the Tier and the Swell to the queue (R150, R116). -/
theorem Lane.silence_resync (l : Lane) (code : TierCode) (x : Fin 128) :
    l.queueSilence.resync code x
      = { l.queueSilence with queue := l.sent ++ [.silence, .tier code, .swell x] } := by
  have hq := l.queueSilence_queue
  have hlen : l.sent.length ≤ 1 := by
    unfold Lane.sent; split
    · simp
    · simp
  have hne : l.queueSilence.queue ≠ [] := by rw [hq]; simp
  have h1 : l.queueSilence.takeUpdate LaneRecord.isTier (.tier code)
      = some { l.queueSilence with queue := l.queueSilence.queue ++ [.tier code] } := by
    rcases l.queueSilence.takeUpdate_cases LaneRecord.isTier (.tier code) with ⟨a, _⟩ | ⟨_, _, e⟩ | ⟨_, b, _⟩
    · rcases l.queueSilence_unsent with u | u <;> rw [u] at a <;> cases a
    · rw [e, Lane.append_nonempty _ hne]
    · rw [hq] at b; simp at b; omega
  unfold Lane.resync Lane.takeTier Lane.takeSwell
  simp only [h1, Option.getD_some]
  generalize hm : ({ l.queueSilence with queue := l.queueSilence.queue ++ [.tier code] } : Lane) = m
  have mq : m.queue = l.sent ++ [.silence, .tier code] := by rw [← hm]; simp
  have mu : m.unsent = [.silence, .tier code] ∨ m.unsent = [.tier code] := by
    have hu := l.queueSilence_unsent
    unfold Lane.unsent at hu ⊢
    rw [← hm]
    simp only []
    split at hu
    · next c =>
      rw [if_pos c]
      rw [List.drop_append_of_le_length (by rw [hq]; simp)]
      rcases hu with u | u <;> rw [u] <;> simp
    · next c =>
      rw [if_neg c]
      rcases hu with u | u <;> rw [u] <;> simp
  rcases m.takeUpdate_cases LaneRecord.isSwell (.swell x) with ⟨a, _⟩ | ⟨_, _, e⟩ | ⟨_, b, _⟩
  · rcases mu with u | u <;> rw [u] at a <;> cases a
  · rw [e, Option.getD_some, Lane.append_nonempty _ (by rw [mq]; simp), mq, ← hm]; simp
  · rw [mq] at b; simp at b; omega

/-- What a LIVE lane's queue holds after a Silence and its resynchronisation (R150, R116). -/
theorem Lane.silence_resync_queue (l : Lane) (code : TierCode) (x : Fin 128) :
    (l.queueSilence.resync code x).queue = l.sent ++ [.silence, .tier code, .swell x] := by rw [l.silence_resync]

/-! ## What joins a queue and what a Silence does, as the statements spell them -/

/-- A record that joins a LIVE or CLOSING lane (R145, R151, R154). -/
theorem Lane.append_eq_joined {l : Lane} (r : LaneRecord) (h : l.transmits = true) : l.append r = l.joined r := by
  by_cases hq : l.queue = []
  · cases hs : l.sending <;>
      simp [Lane.append, Lane.joined, Lane.beginOrWait, Lane.hasWork, Lane.transmits, hq, hs] at h ⊢
    exact fun a b => (h.elim a b).elim
  · rw [Lane.append_nonempty r hq, Lane.joined, if_neg fun c => hq c.1]

/-- A Silence queued on a LIVE or CLOSING lane (R150, R151, R154). -/
theorem Lane.queueSilence_eq_silenced {l : Lane} (h : l.transmits = true) : l.queueSilence = l.silenced [] := by
  by_cases hq : l.queue = []
  · cases hs : l.sending <;>
      simp [Lane.queueSilence, Lane.silenced, Lane.beginOrWait, Lane.hasWork, Lane.transmits, Lane.sent, hq, hs] at h ⊢
    exact fun a b => (h.elim a b).elim
  · simp [Lane.queueSilence, Lane.silenced, hq]

/-- The same with the Tier and the Swell of the resynchronisation behind it (R116). -/
theorem Lane.silence_resync_eq_silenced {l : Lane} (code : TierCode) (x : Fin 128) (h : l.transmits = true) :
    l.queueSilence.resync code x = l.silenced [.tier code, .swell x] := by
  rw [l.silence_resync, Lane.queueSilence_eq_silenced h]
  unfold Lane.silenced
  split
  · next c => split <;> simp [Lane.sent, c.2]
  · rfl

end Sys2Proof.Machine
end

