-- ==== Sys2Proof/Laws/Requests.lean ====
section
/-! SUPPORT. What raising a notice, the output arbiter and the taking of a request can do, each said once: the
lemmas that proofs about requests cite instead of unfolding `takeRequest`. -/

namespace Sys2Proof.Machine

/-! ## Notices (R182) -/

/-- The slot of a raised notice's kind, after the raise. -/
theorem State.raise_slot (s : State) (n : Notice) {k : Fin 13} (h : n.kindIndex = k) :
    (s.raise n).ntu.slots[k] = some (raiseInto s.ntu.slots[k] n) := by
  subst h
  exact State.raise_get_self s n

/-- A raised notice is pending. -/
theorem State.raise_noticed (s : State) (n : Notice) {k : Fin 13} (h : n.kindIndex = k) :
    ∃ p ∈ (s.raise n).ntu.slots[k], p.notice = n := by
  refine ⟨_, State.raise_slot s n h, ?_⟩
  unfold raiseInto
  split <;> rfl

/-- A raise changes the pending slots and nothing else. -/
theorem State.raise_frame (s : State) (n : Notice) :
    s.raise n = { s with ntu := { s.ntu with slots := (s.raise n).ntu.slots } } := rfl

/-! ## The arbiter (R171) -/

/-- While a frame is being sent the arbiter chooses nothing. -/
theorem State.arbitrate_busy {s : State} (h : s.mlk.output ≠ .idle) : s.arbitrate = s := by
  unfold State.arbitrate
  split
  · contradiction
  · rfl

/-- A reply in the slot goes first. -/
theorem State.arbitrate_reply {s : State} {f : Frame} (h : s.mlk.output = .idle) (hf : s.mlk.reply = some f) :
    s.arbitrate = { s with mlk := { s.mlk with output := .sendingReply f } } := by
  simp only [State.arbitrate, h, hf]

/-- With nothing to send the output stays idle. -/
theorem State.arbitrate_none {s : State} (hf : s.mlk.reply = none) (hc : s.ntu.choice = none) :
    s.arbitrate = s := by
  by_cases h : s.mlk.output = .idle
  · simp only [State.arbitrate, h, hf, hc]
  · exact State.arbitrate_busy h

/-- Without a reply the chosen notice is sent and its slot is empty. -/
theorem State.arbitrate_notice {s : State} {k : Fin 13} {p : Pending} (h : s.mlk.output = .idle)
    (hf : s.mlk.reply = none) (hc : s.ntu.choice = some k) (hp : s.ntu.slots[k] = some p) :
    s.arbitrate = { s with
      ntu := { s.ntu with slots := put s.ntu.slots k none }
      mlk := { s.mlk with output := .sendingNotice p.frame } } := by
  simp only [State.arbitrate, h, hf, hc, hp]

/-- The arbiter writes pending slots and the output, and nothing else. -/
theorem State.arbitrate_frame (s : State) :
    s.arbitrate = { s with
      ntu := { s.ntu with slots := s.arbitrate.ntu.slots }
      mlk := { s.mlk with output := s.arbitrate.mlk.output } } := by
  unfold State.arbitrate
  repeat' split
  all_goals rfl

@[simp] theorem State.arbitrate_bsc (s : State) : s.arbitrate.bsc = s.bsc := by rw [State.arbitrate_frame]
@[simp] theorem State.arbitrate_nex (s : State) : s.arbitrate.nex = s.nex := by rw [State.arbitrate_frame]
@[simp] theorem State.arbitrate_sst (s : State) : s.arbitrate.sst = s.sst := by rw [State.arbitrate_frame]
@[simp] theorem State.arbitrate_vtb (s : State) : s.arbitrate.vtb = s.vtb := by rw [State.arbitrate_frame]
@[simp] theorem State.arbitrate_bfe (s : State) : s.arbitrate.bfe = s.bfe := by rw [State.arbitrate_frame]
@[simp] theorem State.arbitrate_dyn (s : State) : s.arbitrate.dyn = s.dyn := by rw [State.arbitrate_frame]
@[simp] theorem State.arbitrate_stack (s : State) : s.arbitrate.stack = s.stack := by rw [State.arbitrate_frame]
@[simp] theorem State.arbitrate_slc (s : State) : s.arbitrate.slc = s.slc := by rw [State.arbitrate_frame]
@[simp] theorem State.arbitrate_lanes (s : State) : s.arbitrate.lanes = s.lanes := by rw [State.arbitrate_frame]
@[simp] theorem State.arbitrate_pending (s : State) : s.arbitrate.pending = s.pending := by
  rw [State.arbitrate_frame]
@[simp] theorem State.arbitrate_freeDraws (s : State) : s.arbitrate.freeDraws = s.freeDraws := by
  rw [State.arbitrate_frame]
@[simp] theorem State.arbitrate_mlk_reply (s : State) : s.arbitrate.mlk.reply = s.mlk.reply := by
  rw [State.arbitrate_frame]

/-! ## The answer to a request (R168 to R170) -/

/-- A reply placed while the receiver is in HUNT, and chosen at once if the output is idle, is `replied`. -/
theorem State.placeReply_arbitrate {s : State} (kind tag : Byte) (st : Status) (data : List Byte)
    (hr : s.mlk.rx = .hunt) (hb : s.mlk.buffer = []) (hg : s.mlk.gapTimer = none) :
    (s.placeReply kind tag st data).arbitrate = s.replied kind tag st data := by
  have e : s.placeReply kind tag st data = { s with mlk := { s.mlk with
      rx := .hunt, buffer := [], gapTimer := none, reply := some (replyFrame kind tag st data) } } := by
    simp only [State.placeReply, replyFrame, replyKind, ← hr, ← hb, ← hg]
  cases ho : s.mlk.output with
  | idle =>
    rw [State.arbitrate_reply (f := replyFrame kind tag st data) (by simpa using ho) (by rw [e]), e]
    simp only [State.replied, ho]
  | sendingReply f =>
    rw [State.arbitrate_busy (by simp [ho]), e]
    simp only [State.replied, ho]
  | sendingNotice f =>
    rw [State.arbitrate_busy (by simp [ho]), e]
    simp only [State.replied, ho]

/-- `replied` overwrites the receiver and the reply slot, so what they held does not matter. -/
theorem State.replied_rxDone (s : State) (kind tag : Byte) (st : Status) (data : List Byte) :
    s.rxDone.replied kind tag st data = s.replied kind tag st data := rfl

/-- A request taken while the slot is occupied is discarded (R168). -/
theorem takeRequest_occupied {α : Type} (kind tag : Byte) (admitted : Bool) (parsed : Parsed α)
    (owner : α → State → Verdict) {s : State} (h : s.mlk.reply.isSome = true) :
    takeRequest kind tag admitted parsed owner s = s.rxDone.discardFrame := by
  simp only [takeRequest, State.rxDone_reply, h, if_true]

/-- A request taken with the slot empty is judged and answered (R169). -/
theorem takeRequest_empty {α : Type} (kind tag : Byte) (admitted : Bool) (parsed : Parsed α)
    (owner : α → State → Verdict) {s : State} (h : s.mlk.reply = none) :
    takeRequest kind tag admitted parsed owner s
      = s.rxDone.answer kind tag (judgeRequest admitted parsed owner s.rxDone) := by
  simp only [takeRequest, State.rxDone_reply, h, Option.isSome_none, Bool.false_eq_true, if_false]

/-- The request is refused: its verdict's status is the reply, and nothing else changes. -/
theorem takeRequest_refuse {α : Type} {kind tag : Byte} {admitted : Bool} {parsed : Parsed α}
    {owner : α → State → Verdict} {s : State} {st : Status} (h : s.mlk.reply = none)
    (hv : judgeRequest admitted parsed owner s.rxDone = .refuse st) :
    takeRequest kind tag admitted parsed owner s = s.replied kind tag st [] := by
  rw [takeRequest_empty _ _ _ _ _ h, hv]
  exact State.placeReply_arbitrate kind tag st [] rfl rfl rfl

/-- The request is accepted: the part goes to the owner's state, which has kept the receiver's, with the reply OK. -/
theorem takeRequest_accept {α : Type} {kind tag : Byte} {admitted : Bool} {parsed : Parsed α}
    {owner : α → State → Verdict} {s t : State} {data : List Byte} (h : s.mlk.reply = none)
    (hv : judgeRequest admitted parsed owner s.rxDone = .accept t data)
    (hr : t.mlk.rx = .hunt) (hb : t.mlk.buffer = []) (hg : t.mlk.gapTimer = none) :
    takeRequest kind tag admitted parsed owner s = t.replied kind tag .ok data := by
  rw [takeRequest_empty _ _ _ _ _ h, hv]
  exact State.placeReply_arbitrate kind tag .ok data hr hb hg

/-- Check 2: a payload length that the kind does not admit (R169). -/
theorem judgeRequest_badLength {α : Type} (admitted : Bool) (owner : α → State → Verdict) (s : State) :
    judgeRequest admitted .badLength owner s = .refuse .badLength := rfl

/-- Check 3: while HALTED a kind that is not admitted there is refused, whatever its fields (R169, R139). -/
theorem judgeRequest_halted {α : Type} {parsed : Parsed α} (owner : α → State → Verdict) {s : State}
    (hp : parsed ≠ .badLength) (h : s.slc.part = .halted) :
    judgeRequest false parsed owner s = .refuse .halted := by
  cases parsed with
  | badLength => exact absurd rfl hp
  | outOfRange => simp [judgeRequest, State.isHalted, h]
  | fields a => simp [judgeRequest, State.isHalted, h]

/-- Check 4: a field outside its range, in a part that takes the kind (R169). -/
theorem judgeRequest_outOfRange {α : Type} {admitted : Bool} (owner : α → State → Verdict) {s : State}
    (h : admitted = true ∨ s.slc.part = .playing) :
    judgeRequest admitted .outOfRange owner s = .refuse .outOfRange := by
  rcases h with h | h <;> simp [judgeRequest, State.isHalted, h]

/-- Check 5: with the fields read, in a part that takes the kind, the owner decides (R169). -/
theorem judgeRequest_fields {α : Type} {admitted : Bool} (a : α) (owner : α → State → Verdict) {s : State}
    (h : admitted = true ∨ s.slc.part = .playing) :
    judgeRequest admitted (.fields a) owner s = owner a s := by
  rcases h with h | h <;> simp [judgeRequest, State.isHalted, h]

end Sys2Proof.Machine
end

