-- ==== Sys2Proof/Laws/Frames.lean ====
section
/-! SUPPORT. The frame of the Voice Table's work and of the tier check: each operation of spec 04 changes only voices,
lane queues and pending notices (`OnlyVoiceWork`), and the tier check the last code posted besides
(`OnlyVoiceAndTierWork`). The two relations are transitive, so the frame of a command follows from its parts. -/

namespace Sys2Proof.Machine

/-! ## The relation -/

theorem OnlyVoiceWork.refl (s : State) : OnlyVoiceWork s s := ⟨rfl, fun _ => ⟨rfl, rfl, rfl⟩⟩

theorem OnlyVoiceWork.trans {s t u : State} (h : OnlyVoiceWork s t) (h' : OnlyVoiceWork t u) :
    OnlyVoiceWork s u := by
  refine ⟨?_, fun n => ⟨(h'.2 n).1.trans (h.2 n).1, (h'.2 n).2.1.trans (h.2 n).2.1,
    (h'.2 n).2.2.trans (h.2 n).2.2⟩⟩
  calc u = { t with vtb := u.vtb, lanes := u.lanes, ntu := { t.ntu with slots := u.ntu.slots } } := h'.1
    _ = { s with vtb := u.vtb, lanes := u.lanes, ntu := { s.ntu with slots := u.ntu.slots } } :=
      congrArg (fun r : State => { r with
        vtb := u.vtb, lanes := u.lanes, ntu := { r.ntu with slots := u.ntu.slots } }) h.1

theorem OnlyVoiceWork.foldl {α : Type} {f : State → α → State} (hf : ∀ t a, OnlyVoiceWork t (f t a)) (l : List α)
    (s : State) : OnlyVoiceWork s (l.foldl f s) := by
  induction l generalizing s with
  | nil => exact .refl s
  | cons a l ih => exact (hf s a).trans (ih (f s a))

/-! ## The updates it is made of -/

theorem State.raise_voiceWork (s : State) (n : Notice) : OnlyVoiceWork s (s.raise n) :=
  ⟨rfl, fun _ => ⟨rfl, rfl, rfl⟩⟩

theorem State.setVoice_voiceWork (s : State) (v : Slot) (y : Voice) : OnlyVoiceWork s (s.setVoice v y) :=
  ⟨rfl, fun _ => ⟨rfl, rfl, rfl⟩⟩

theorem State.mapVoices_voiceWork (s : State) (f : Slot → Voice → Voice) : OnlyVoiceWork s (s.mapVoices f) :=
  ⟨rfl, fun _ => ⟨rfl, rfl, rfl⟩⟩

theorem State.setVoicedAs_voiceWork (s : State) (xs : List Crosspoint) (d : Option Dir) :
    OnlyVoiceWork s (s.setVoicedAs xs d) :=
  ⟨rfl, fun _ => ⟨rfl, rfl, rfl⟩⟩

theorem State.setLane_voiceWork (s : State) (n : LaneNo) (l : Lane) (h : l.state = s.lanes[n].state)
    (ht : l.timeout = s.lanes[n].timeout) (hr : l.ready = s.lanes[n].ready) : OnlyVoiceWork s (s.setLane n l) := by
  refine ⟨rfl, fun k => ?_⟩
  rw [State.setLane_get]
  split
  · next e => subst e; exact ⟨h, ht, hr⟩
  · exact ⟨rfl, rfl, rfl⟩

/-! ## Ending voices -/

theorem settleLane_voiceWork (v : Slot) (s : State) (n : LaneNo) : OnlyVoiceWork s (settleLane v s n) := by
  unfold settleLane
  simp only []
  split
  · next l h =>
    refine (State.setLane_voiceWork s n l ?_ ?_ ?_).trans (State.setVoice_voiceWork _ _ _) <;>
      rcases Lane.withdraw_cases s.lanes[n] v with ⟨_, e⟩ | ⟨_, e⟩ <;> rw [e] at h <;> cases h <;> rfl
  · split
    · next l h =>
      obtain ⟨_, _, rfl⟩ := Lane.acceptStop_some h
      exact (State.setLane_voiceWork s n _ (by simp) (by simp) (by simp)).trans (State.setVoice_voiceWork _ _ _)
    · exact (State.setLane_voiceWork s n { s.lanes[n] with owed := s.lanes[n].owed ++ [v] } rfl rfl rfl).trans
        (State.setVoice_voiceWork _ _ _)

theorem endVoice_voiceWork (s : State) (v : Slot) : OnlyVoiceWork s (endVoice s v) := by
  unfold endVoice
  simp only []
  split
  · exact ((State.setVoice_voiceWork _ _ _).trans (.foldl (settleLane_voiceWork v) _ _)).trans
      (State.setVoice_voiceWork _ _ _)
  · exact .refl s

theorem leaveVoice_voiceWork (x : Crosspoint) (s : State) (v : Slot) : OnlyVoiceWork s (leaveVoice x s v) := by
  unfold leaveVoice
  simp only []
  split
  · exact (State.setVoice_voiceWork _ _ _).trans (endVoice_voiceWork _ _)
  · exact State.setVoice_voiceWork _ _ _

theorem leaveAll_voiceWork (x : Crosspoint) (p : Voice → Bool) (s : State) : OnlyVoiceWork s (leaveAll x p s) :=
  .foldl (leaveVoice_voiceWork x) _ s

/-! ## Joining and allocation -/

theorem offerStart_voiceWork (v : Slot) (s : State) (n : LaneNo) : OnlyVoiceWork s (offerStart v s n) := by
  unfold offerStart
  simp only []
  split
  · next l h =>
    obtain ⟨_, _, rfl⟩ := Lane.acceptStart_some h
    exact (State.setLane_voiceWork s n _ (by simp) (by simp) (by simp)).trans (State.setVoice_voiceWork _ _ _)
  · split
    · exact State.raise_voiceWork _ _
    · exact .refl s

theorem State.countStart_voiceWork (s : State) : OnlyVoiceWork s s.countStart := ⟨rfl, fun _ => ⟨rfl, rfl, rfl⟩⟩

theorem State.unvoiceAll_voiceWork (s : State) : OnlyVoiceWork s s.unvoiceAll := ⟨rfl, fun _ => ⟨rfl, rfl, rfl⟩⟩

theorem startVoice_voiceWork (x : Crosspoint) (e : LayerPos × Pitch) (l : Layer) (s : State) (v : Slot) :
    OnlyVoiceWork s (startVoice x e l s v) :=
  ((State.setVoice_voiceWork s v _).trans (State.countStart_voiceWork _)).trans
    (.foldl (offerStart_voiceWork v) (LaneSet.members l.laneMask) _)

theorem fillSlot_voiceWork (x : Crosspoint) (e : LayerPos × Pitch) (l : Layer) (s : State) (v : Slot) :
    OnlyVoiceWork s (fillSlot x e l s v) := by
  unfold fillSlot
  simp only []
  split
  · exact ((startVoice_voiceWork x e l s v).trans (State.setVoice_voiceWork _ _ _)).trans
      (State.raise_voiceWork _ _)
  · exact startVoice_voiceWork x e l s v

theorem allocate_voiceWork (x : Crosspoint) (s : State) (e : LayerPos × Pitch) :
    OnlyVoiceWork s (allocate x s e) := by
  unfold allocate
  split
  · exact .refl s
  · split
    · exact fillSlot_voiceWork _ _ _ _ _
    · split
      · exact State.raise_voiceWork _ _
      · split
        · simp only []
          split
          · exact ((endVoice_voiceWork _ _).trans (State.raise_voiceWork _ _)).trans (fillSlot_voiceWork _ _ _ _ _)
          · exact (endVoice_voiceWork _ _).trans (State.raise_voiceWork _ _)
        · exact State.raise_voiceWork _ _

theorem joinEntry_voiceWork (x : Crosspoint) (s : State) (e : LayerPos × Pitch) :
    OnlyVoiceWork s (joinEntry x s e) := by
  unfold joinEntry
  split
  · simp only []
    split
    · exact .refl s
    · split
      · exact State.setVoice_voiceWork _ _ _
      · exact State.raise_voiceWork _ _
  · exact allocate_voiceWork _ _ _

/-! ## The events of the Voice Table -/

theorem pressKey_voiceWork (s : State) (x : Crosspoint) : OnlyVoiceWork s (pressKey s x) := by
  unfold pressKey
  split
  · exact (OnlyVoiceWork.foldl (joinEntry_voiceWork x) _ s).trans (State.setVoicedAs_voiceWork _ _ _)
  · exact .refl s

theorem releaseKey_voiceWork (s : State) (x : Crosspoint) : OnlyVoiceWork s (releaseKey s x) :=
  (leaveAll_voiceWork x _ s).trans (State.setVoicedAs_voiceWork _ _ _)

theorem leavePhase_voiceWork (orphans : Bool) (s : State) (p : Crosspoint × List (LayerPos × Pitch)) :
    OnlyVoiceWork s (leavePhase orphans s p) := by
  unfold leavePhase
  simp only []
  split
  · exact (leaveAll_voiceWork _ _ _).trans (leaveAll_voiceWork _ _ _)
  · exact leaveAll_voiceWork _ _ _

theorem reexpand_voiceWork (orphans : Bool) (d : Dir) (xs : List Crosspoint) (s : State) :
    OnlyVoiceWork s (reexpand orphans d xs s) :=
  ((OnlyVoiceWork.foldl (leavePhase_voiceWork orphans) _ s).trans
    (.foldl (fun t (p : Crosspoint × List (LayerPos × Pitch)) => .foldl (joinEntry_voiceWork p.1) p.2 t) _ _)).trans
    (State.setVoicedAs_voiceWork _ _ _)

/-- A re-expansion of no crosspoint changes nothing. -/
@[simp] theorem reexpand_nil (orphans : Bool) (d : Dir) (s : State) : reexpand orphans d [] s = s :=
  State.setVoicedAs_nil s (some d)

/-- A re-expansion of sections is that of their voiced crosspoints, ascending (R79). -/
theorem sectionReexpand_eq (p : Sect → Bool) (s : State) :
    sectionReexpand p s = reexpand false s.bfe.bd (s.voicedOf p) s := by
  unfold sectionReexpand State.voicedOf State.voiced allCrosspoints
  rw [List.filter_filter]
  congr 2
  funext x
  rw [Bool.and_comm]
  congr 1
  cases s.bsc.roles[x] <;> rfl

/-- Where no section is named nothing is re-expanded. -/
@[simp] theorem State.voicedOf_none (s : State) : s.voicedOf (fun _ => false) = [] := by
  unfold State.voicedOf
  rw [List.filter_eq_nil_iff]
  intro x _
  cases s.bsc.roles[x] <;> simp

/-- The two readings of what a change of settings changes agree (R48, R127). -/
theorem Settings.differs_eq (a b : Settings) : a.differs b = a.changed b := by
  funext c
  cases c <;> rfl

/-- Settings applied are written with the re-expansion of the sections they change (R79). -/
theorem applySettings_eq (a : Settings) (s : State) : applySettings a s = s.withSettings a := by
  unfold applySettings State.withSettings
  simp only [sectionReexpand_eq, Settings.differs_eq]
  rfl

theorem sectionReexpand_voiceWork (p : Sect → Bool) (s : State) : OnlyVoiceWork s (sectionReexpand p s) :=
  reexpand_voiceWork _ _ _ s

theorem reversalReexpand_voiceWork (s : State) : OnlyVoiceWork s (reversalReexpand s) :=
  reexpand_voiceWork _ _ _ s

theorem layersTransferred_voiceWork (s : State) : OnlyVoiceWork s (layersTransferred s) :=
  ((State.mapVoices_voiceWork s _).trans (.foldl endVoice_voiceWork _ _)).trans
    (.foldl (fun t x => .foldl (joinEntry_voiceWork x) _ t) _ _)

theorem enableFell_voiceWork (s : State) : OnlyVoiceWork s (enableFell s) :=
  (OnlyVoiceWork.foldl endVoice_voiceWork _ s).trans (State.unvoiceAll_voiceWork _)

theorem enableRose_voiceWork (s : State) : OnlyVoiceWork s (enableRose s) :=
  .foldl pressKey_voiceWork _ s

/-- Writing the enable pair does the Voice Table's work on the state with the pair written (R134). -/
theorem writeEnable_voiceWork (e sh : Bool) (s : State) :
    OnlyVoiceWork { s with slc := { s.slc with enable := e, shadow := sh } } (writeEnable e sh s) := by
  unfold writeEnable
  simp only []
  split
  · exact enableFell_voiceWork _
  · split
    · exact enableRose_voiceWork _
    · exact .refl _

/-- Writing the settings does the Voice Table's work on the state with the settings written (R79). -/
theorem applySettings_voiceWork (t : Settings) (s : State) :
    OnlyVoiceWork (s.setSettings t) (applySettings t s) :=
  sectionReexpand_voiceWork _ _

/-! ## With the tier check -/

theorem OnlyVoiceWork.andTier {s t : State} (h : OnlyVoiceWork s t) : OnlyVoiceAndTierWork s t := by
  refine ⟨?_, h.2⟩
  have e : t.dyn = s.dyn := by rw [h.1]
  calc t = { s with vtb := t.vtb, lanes := t.lanes, ntu := { s.ntu with slots := t.ntu.slots } } := h.1
    _ = { s with
        vtb := t.vtb, lanes := t.lanes, ntu := { s.ntu with slots := t.ntu.slots }
        dyn := { s.dyn with lastCode := t.dyn.lastCode } } := by rw [e]

theorem OnlyVoiceAndTierWork.trans {s t u : State} (h : OnlyVoiceAndTierWork s t) (h' : OnlyVoiceAndTierWork t u) :
    OnlyVoiceAndTierWork s u := by
  refine ⟨?_, fun n => ⟨(h'.2 n).1.trans (h.2 n).1, (h'.2 n).2.1.trans (h.2 n).2.1,
    (h'.2 n).2.2.trans (h.2 n).2.2⟩⟩
  calc u = { t with
        vtb := u.vtb, lanes := u.lanes, ntu := { t.ntu with slots := u.ntu.slots }
        dyn := { t.dyn with lastCode := u.dyn.lastCode } } := h'.1
    _ = { s with
        vtb := u.vtb, lanes := u.lanes, ntu := { s.ntu with slots := u.ntu.slots }
        dyn := { s.dyn with lastCode := u.dyn.lastCode } } :=
      congrArg (fun r : State => { r with
        vtb := u.vtb, lanes := u.lanes, ntu := { r.ntu with slots := u.ntu.slots }
        dyn := { r.dyn with lastCode := u.dyn.lastCode } }) h.1

theorem offerTier_voiceWork (code : TierCode) (p : State × Bool) (n : LaneNo) :
    OnlyVoiceWork p.1 (offerTier code p n).1 := by
  unfold offerTier
  split
  · split
    · next l h =>
      obtain ⟨a, _, b, c⟩ := Lane.takeUpdate_keeps h
      exact State.setLane_voiceWork _ _ _ a b c
    · exact .refl _
  · exact .refl _

theorem offerTiers_voiceWork (code : TierCode) (ns : List LaneNo) (p : State × Bool) :
    OnlyVoiceWork p.1 (ns.foldl (offerTier code) p).1 := by
  induction ns generalizing p with
  | nil => exact .refl _
  | cons n ns ih => exact (offerTier_voiceWork code p n).trans (ih _)

theorem State.setLastCode_frame (s : State) (c : Option TierCode) :
    OnlyVoiceAndTierWork s (s.setDyn { s.dyn with lastCode := c }) := ⟨rfl, fun _ => ⟨rfl, rfl, rfl⟩⟩

/-- The tier check writes lane queues, a TIER notice and the last code posted (R111, R112). -/
theorem tierCheck_frame (s : State) : OnlyVoiceAndTierWork s (tierCheck s) := by
  unfold tierCheck
  simp only []
  split
  · exact (OnlyVoiceWork.refl s).andTier
  · have a := ((State.raise_voiceWork s (.tier s.tierCode)).trans
      (offerTiers_voiceWork s.tierCode allLanes (s.raise (.tier s.tierCode), true))).andTier
    exact a.trans (State.setLastCode_frame _ _)

/-- With the current code posted already the tier check does nothing (R112). -/
theorem tierCheck_same {s : State} (h : s.dyn.lastCode = some s.tierCode) : tierCheck s = s := by
  unfold tierCheck
  simp only [h, if_true]

/-- The offer of a Tier record to lane n: the lane takes it if it is LIVE and can, no other lane changes, and the flag
falls when a LIVE lane discards it (R112). -/
theorem offerTier_cases (code : TierCode) (p : State × Bool) (n : LaneNo) :
    (∀ k : LaneNo, (offerTier code p n).1.lanes[k] =
        if k = n ∧ p.1.lanes[n].state = .live then (p.1.lanes[n].takeTier code).getD p.1.lanes[n] else p.1.lanes[k])
      ∧ (offerTier code p n).2 = (p.2 && !(p.1.lanes[n].state == .live && (p.1.lanes[n].takeTier code).isNone)) := by
  unfold offerTier
  by_cases h : p.1.lanes[n].state = .live
  · cases e : p.1.lanes[n].takeTier code with
    | some l =>
      simp only [h, if_true, and_true, Option.getD_some, Option.isNone_some, Bool.and_false, Bool.not_false, Bool.and_true]
      exact fun k => State.setLane_get _ _ _ _
    | none =>
      simp only [h, if_true, and_true, Option.getD_none, Option.isNone_none, beq_self_eq_true, Bool.and_self,
        Bool.not_true, Bool.and_false]
      intro k
      split
      · next c => rw [c]
      · rfl
  · have c : (p.1.lanes[n].state == .live) = false := by simpa using h
    simp only [h, if_false, and_false, c, Bool.false_and, Bool.not_false, Bool.and_true, implies_true, true_and]

/-- The offers to lanes none of which is named twice: each lane named takes the record if it is LIVE and can, and the
flag stands while none of them discards it. -/
theorem offerTiers_cases (code : TierCode) {ns : List LaneNo} (h : ns.Nodup) (p : State × Bool) :
    (∀ k : LaneNo, (ns.foldl (offerTier code) p).1.lanes[k] =
        if k ∈ ns ∧ p.1.lanes[k].state = .live then (p.1.lanes[k].takeTier code).getD p.1.lanes[k] else p.1.lanes[k])
      ∧ (ns.foldl (offerTier code) p).2
        = (p.2 && ns.all fun n => !(p.1.lanes[n].state == .live && (p.1.lanes[n].takeTier code).isNone)) := by
  induction ns generalizing p with
  | nil => simp
  | cons n ns ih =>
    obtain ⟨hn, hs⟩ := List.nodup_cons.mp h
    obtain ⟨a, b⟩ := offerTier_cases code p n
    obtain ⟨c, d⟩ := ih hs (offerTier code p n)
    have keep : ∀ k ∈ ns, (offerTier code p n).1.lanes[k] = p.1.lanes[k] := by
      intro k hk
      rw [a, if_neg (by rintro ⟨rfl, -⟩; exact hn hk)]
    constructor
    · intro k
      rw [List.foldl_cons, c]
      by_cases hk : k ∈ ns
      · simp [hk, keep k hk]
      · rw [if_neg (by rintro ⟨e, -⟩; exact hk e), a]
        by_cases e : k = n
        · simp only [e, List.mem_cons, true_or, true_and]
        · simp only [e, List.mem_cons, hk, or_self, false_and, if_false]
    · rw [List.foldl_cons, d, b, List.all_cons, Bool.and_assoc]
      congr 2
      rw [Bool.eq_iff_iff, List.all_eq_true, List.all_eq_true]
      exact forall_congr' fun k => forall_congr' fun hk => by rw [keep k hk]

/-- A tier check that posts the code: every LIVE lane is offered the record, and the last code posted is NONE when one
of them discards it (R112). -/
theorem tierCheck_posts {s : State} (h : s.dyn.lastCode ≠ some s.tierCode) :
    (∀ n : LaneNo, (tierCheck s).lanes[n] = if s.lanes[n].state = .live then
        (s.lanes[n].takeTier s.tierCode).getD s.lanes[n] else s.lanes[n])
      ∧ (tierCheck s).dyn.lastCode =
        if allLanes.all fun n => !(s.lanes[n].state == .live && (s.lanes[n].takeTier s.tierCode).isNone) then
          some s.tierCode else none := by
  obtain ⟨a, b⟩ := offerTiers_cases s.tierCode (ns := allLanes) (by decide) (s.raise (.tier s.tierCode), true)
  unfold tierCheck
  simp only [if_neg h]
  constructor
  · intro n
    have m : n ∈ allLanes := by revert n; decide
    simpa [m] using a n
  · simp [b]

/-- A transfer writes the Live Copy and then does voice and tier work alone (R46 to R48). -/
theorem transfer_frame (n : SceneNo) (items : BitVec 3) (separate : Bool) (s : State) :
    OnlyVoiceAndTierWork { s with sst := { s.sst with live := s.sst.live.transferred n s.sst.library[n] items } }
      (transfer n items separate s) := by
  unfold transfer
  simp only []
  have a (t : State) : OnlyVoiceAndTierWork t (if hasTierMap items then tierCheck t else t) := by
    split
    · exact tierCheck_frame t
    · exact (OnlyVoiceWork.refl t).andTier
  split
  · exact (a _).trans (layersTransferred_voiceWork _).andTier
  · split
    · exact (a _).trans (sectionReexpand_voiceWork _ _).andTier
    · exact a _

end Sys2Proof.Machine
end

