-- ==== Sys2Proof/Laws/PerInstr.lean ====
section
/-! SUPPORT. The family `Encoding`, about every command as syntax: what `frameOfRequest` says of it agrees with what
`requestOfFrame` reads, so a request command is the reading of the one frame that carries it, and its kind tells it
from every other. -/

namespace Sys2Proof.Laws.Encoding

/-- The frame that carries a command reads back as the command, or the command is a discarded frame (whose kind does
not matter, R168) or a frame of a kind outside the table (R169); a command that no frame carries is no reading. -/
def Statement (i : Instr) : Prop :=
  match frameOfRequest i with
  | some (kind, tag, payload) =>
    requestOfFrame kind tag payload = i ∨ i = .frameDiscard kind tag payload
      ∨ i = .unknownKindRequest kind tag payload
  | none => ∀ (kind tag : Byte) (payload : List Byte), isUnknownKind i = false ∧ requestOfFrame kind tag payload ≠ i

/-- What `requestOfFrame` reads is carried by a frame. -/
theorem frameOfRequest_requestOfFrame (kind tag : Byte) (payload : List Byte) :
    (frameOfRequest (requestOfFrame kind tag payload)).isSome = true := by
  unfold requestOfFrame
  split <;> rfl

/-- A command that no frame carries is no reading of a frame. -/
theorem statement_of_none {i : Instr} (h : frameOfRequest i = none) (hu : isUnknownKind i = false) : Statement i := by
  unfold Statement
  rw [h]
  intro kind tag payload
  refine ⟨hu, fun e => ?_⟩
  have := frameOfRequest_requestOfFrame kind tag payload
  rw [e, h] at this
  cases this

theorem powerOnReset : Statement (.powerOnReset) := statement_of_none rfl rfl

theorem scanPass (r : Readings) : Statement (.scanPass r) := statement_of_none rfl rfl

theorem sampleArrival (r : BitVec 16) : Statement (.sampleArrival r) := statement_of_none rfl rfl

theorem streamLossTimeout : Statement (.streamLossTimeout) := statement_of_none rfl rfl

theorem cueLineRise : Statement (.cueLineRise) := statement_of_none rfl rfl

theorem cueLineFall : Statement (.cueLineFall) := statement_of_none rfl rfl

theorem cueQualificationExpiry : Statement (.cueQualificationExpiry) := statement_of_none rfl rfl

theorem readyRise (n : LaneNo) : Statement (.readyRise n) := statement_of_none rfl rfl

theorem readyFall (n : LaneNo) : Statement (.readyFall n) := statement_of_none rfl rfl

theorem recordCompletion (n : LaneNo) : Statement (.recordCompletion n) := statement_of_none rfl rfl

theorem stallExpiry (n : LaneNo) : Statement (.stallExpiry n) := statement_of_none rfl rfl

theorem meterExpiry : Statement (.meterExpiry) := statement_of_none rfl rfl

theorem receiveBadFrame (bs : List RxByte) : Statement (.receiveBadFrame bs) := statement_of_none rfl rfl

theorem gapTimeout (bs : List RxByte) : Statement (.gapTimeout bs) := statement_of_none rfl rfl

theorem frameDiscard (k t : Byte) (p : List Byte) : Statement (.frameDiscard k t p) := .inr (.inl rfl)

theorem unknownKindRequest (k t : Byte) (p : List Byte) : Statement (.unknownKindRequest k t p) := .inr (.inr rfl)

theorem hostFrameCompletion : Statement (.hostFrameCompletion) := statement_of_none rfl rfl

theorem getIdentity (t : Byte) (p : List Byte) : Statement (.getIdentity t p) := .inl rfl

theorem getStatus (t : Byte) (p : List Byte) : Statement (.getStatus t p) := .inl rfl

theorem restart (t : Byte) (p : List Byte) : Statement (.restart t p) := .inl rfl

theorem setNoticeMask (t : Byte) (p : List Byte) : Statement (.setNoticeMask t p) := .inl rfl

theorem setMeter (t : Byte) (p : List Byte) : Statement (.setMeter t p) := .inl rfl

theorem readMeter (t : Byte) (p : List Byte) : Statement (.readMeter t p) := .inl rfl

theorem setScan (t : Byte) (p : List Byte) : Statement (.setScan t p) := .inl rfl

theorem loadRoles (t : Byte) (p : List Byte) : Statement (.loadRoles t p) := .inl rfl

theorem readButtons (t : Byte) (p : List Byte) : Statement (.readButtons t p) := .inl rfl

theorem loadTreblePitches (t : Byte) (p : List Byte) : Statement (.loadTreblePitches t p) := .inl rfl

theorem loadBassRoots (t : Byte) (p : List Byte) : Statement (.loadBassRoots t p) := .inl rfl

theorem loadChordForm (t : Byte) (p : List Byte) : Statement (.loadChordForm t p) := .inl rfl

theorem setRowForms (t : Byte) (p : List Byte) : Statement (.setRowForms t p) := .inl rfl

theorem setSectionModes (t : Byte) (p : List Byte) : Statement (.setSectionModes t p) := .inl rfl

theorem setTranspose (t : Byte) (p : List Byte) : Statement (.setTranspose t p) := .inl rfl

theorem beginScene (t : Byte) (p : List Byte) : Statement (.beginScene t p) := .inl rfl

theorem loadLayer (t : Byte) (p : List Byte) : Statement (.loadLayer t p) := .inl rfl

theorem setSceneDefaults (t : Byte) (p : List Byte) : Statement (.setSceneDefaults t p) := .inl rfl

theorem finishScene (t : Byte) (p : List Byte) : Statement (.finishScene t p) := .inl rfl

theorem eraseScene (t : Byte) (p : List Byte) : Statement (.eraseScene t p) := .inl rfl

theorem armCue (t : Byte) (p : List Byte) : Statement (.armCue t p) := .inl rfl

theorem cancelCue (t : Byte) (p : List Byte) : Statement (.cancelCue t p) := .inl rfl

theorem fireCue (t : Byte) (p : List Byte) : Statement (.fireCue t p) := .inl rfl

theorem takeScene (t : Byte) (p : List Byte) : Statement (.takeScene t p) := .inl rfl

theorem selectRegister (t : Byte) (p : List Byte) : Statement (.selectRegister t p) := .inl rfl

theorem loadOverride (t : Byte) (p : List Byte) : Statement (.loadOverride t p) := .inl rfl

theorem readVoices (t : Byte) (p : List Byte) : Statement (.readVoices t p) := .inl rfl

theorem setBellows (t : Byte) (p : List Byte) : Statement (.setBellows t p) := .inl rfl

theorem setDynamics (t : Byte) (p : List Byte) : Statement (.setDynamics t p) := .inl rfl

theorem setExpression (t : Byte) (p : List Byte) : Statement (.setExpression t p) := .inl rfl

theorem loadTierMap (t : Byte) (p : List Byte) : Statement (.loadTierMap t p) := .inl rfl

theorem setLevel (t : Byte) (p : List Byte) : Statement (.setLevel t p) := .inl rfl

theorem pushOverride (t : Byte) (p : List Byte) : Statement (.pushOverride t p) := .inl rfl

theorem popOverride (t : Byte) (p : List Byte) : Statement (.popOverride t p) := .inl rfl

theorem mute (t : Byte) (p : List Byte) : Statement (.mute t p) := .inl rfl

theorem unmute (t : Byte) (p : List Byte) : Statement (.unmute t p) := .inl rfl

theorem hush (t : Byte) (p : List Byte) : Statement (.hush t p) := .inl rfl

theorem unhush (t : Byte) (p : List Byte) : Statement (.unhush t p) := .inl rfl

theorem panic (t : Byte) (p : List Byte) : Statement (.panic t p) := .inl rfl

theorem setLane (t : Byte) (p : List Byte) : Statement (.setLane t p) := .inl rfl

theorem resetLane (t : Byte) (p : List Byte) : Statement (.resetLane t p) := .inl rfl

theorem readLanes (t : Byte) (p : List Byte) : Statement (.readLanes t p) := .inl rfl

end Sys2Proof.Laws.Encoding
end

