-- ==== Sys2Proof/Laws/Voices.lean ====
section
/-! SUPPORT. What settling one lane of an ending voice, an end, a leave, a join and an offered Start can do, each said
once, and what each leaves alone beside the frame of `OnlyVoiceWork`. -/

namespace Sys2Proof.Machine

/-! ## Lane sets -/

theorem LaneSet.has_add (b : LaneSet) (n k : LaneNo) :
    LaneSet.has (LaneSet.add b n) k = (LaneSet.has b k || decide (k = n)) := by
  revert b n k; decide

theorem LaneSet.has_remove (b : LaneSet) (n k : LaneNo) :
    LaneSet.has (LaneSet.remove b n) k = (LaneSet.has b k && !decide (k = n)) := by
  revert b n k; decide

theorem LaneSet.mem_members (b : LaneSet) (n : LaneNo) : n ∈ LaneSet.members b ↔ LaneSet.has b n = true := by
  revert b n; decide

theorem LaneSet.members_nodup (b : LaneSet) : (LaneSet.members b).Nodup := by
  revert b; decide

theorem LaneSet.eq_zero_iff (b : LaneSet) : b = 0 ↔ ∀ n : LaneNo, LaneSet.has b n = false := by
  revert b; decide

theorem LaneSet.ext {b c : LaneSet} (h : ∀ n : LaneNo, LaneSet.has b n = LaneSet.has c n) : b = c := by
  revert b c; decide

/-! ## Settling one lane (R65) -/

/-- The Start is withdrawn, or the Stop is accepted, or the lane owes the Stop; in each case the lane leaves the
voice's lane set, and nothing but that lane and that voice changes. -/
theorem settleLane_cases (v : Slot) (s : State) (n : LaneNo) :
    (∃ l, s.lanes[n].withdraw v = some l ∧ settleLane v s n = (s.setLane n l).setVoice v
        { s.vtb.voices[v] with lanes := LaneSet.remove s.vtb.voices[v].lanes n })
      ∨ (s.lanes[n].withdraw v = none ∧ ∃ l, s.lanes[n].acceptStop v = some l
          ∧ settleLane v s n = (s.setLane n l).setVoice v
            { s.vtb.voices[v] with lanes := LaneSet.remove s.vtb.voices[v].lanes n })
      ∨ (s.lanes[n].withdraw v = none ∧ s.lanes[n].acceptStop v = none
          ∧ settleLane v s n = (s.setLane n { s.lanes[n] with owed := s.lanes[n].owed ++ [v] }).setVoice v
            { s.vtb.voices[v] with
              lanes := LaneSet.remove s.vtb.voices[v].lanes n, owed := LaneSet.add s.vtb.voices[v].owed n }) := by
  unfold settleLane
  cases hw : s.lanes[n].withdraw v with
  | some l => exact .inl ⟨l, rfl, rfl⟩
  | none =>
    cases hs : s.lanes[n].acceptStop v with
    | some l => exact .inr (.inl ⟨rfl, l, rfl, rfl⟩)
    | none => exact .inr (.inr ⟨rfl, rfl, rfl⟩)

theorem settleLane_lane_ne (v : Slot) (s : State) {n k : LaneNo} (h : k ≠ n) :
    (settleLane v s n).lanes[k] = s.lanes[k] := by
  rcases settleLane_cases v s n with ⟨l, _, e⟩ | ⟨_, l, _, e⟩ | ⟨_, _, e⟩ <;>
    rw [e, State.setVoice_lanes, State.setLane_get_ne _ _ h]

theorem settleLane_voice_ne (v : Slot) (s : State) (n : LaneNo) {w : Slot} (h : w ≠ v) :
    (settleLane v s n).vtb.voices[w] = s.vtb.voices[w] := by
  rcases settleLane_cases v s n with ⟨l, _, e⟩ | ⟨_, l, _, e⟩ | ⟨_, _, e⟩ <;>
    rw [e, State.setVoice_get_ne _ _ h, State.setLane_vtb]

/-- What settling keeps: notices, voiced-as entries, the counter; and of the voice all but its two lane sets. -/
theorem settleLane_keeps (v : Slot) (s : State) (n : LaneNo) :
    (settleLane v s n).ntu = s.ntu ∧ (settleLane v s n).vtb.voicedAs = s.vtb.voicedAs
      ∧ (settleLane v s n).vtb.seqCounter = s.vtb.seqCounter
      ∧ (settleLane v s n).vtb.voices[v] = { s.vtb.voices[v] with
          lanes := LaneSet.remove s.vtb.voices[v].lanes n
          owed := (settleLane v s n).vtb.voices[v].owed } := by
  rcases settleLane_cases v s n with ⟨l, _, e⟩ | ⟨_, l, _, e⟩ | ⟨_, _, e⟩ <;>
    rw [e] <;> refine ⟨rfl, rfl, rfl, ?_⟩ <;> simp only [State.setVoice_get_self]

/-! ## Ends and leaves (R64, R65) -/

/-- An end asked for a voice that is not SOUNDING changes nothing. -/
theorem endVoice_not_sounding {s : State} {v : Slot} (h : s.vtb.voices[v].state ≠ .sounding) :
    endVoice s v = s := by
  simp only [endVoice, if_neg h]

/-- The end of a SOUNDING voice: its holders go, its lanes are settled in ascending order, its state is decided. -/
theorem endVoice_sounding {s : State} {v : Slot} (h : s.vtb.voices[v].state = .sounding) :
    endVoice s v =
      let u := (LaneSet.members s.vtb.voices[v].lanes).foldl (settleLane v)
        (s.setVoice v { s.vtb.voices[v] with holders := [] })
      u.setVoice v (settledVoice u.vtb.voices[v]) := by
  simp only [endVoice, if_pos h]

theorem settleLanes_voice_ne (v : Slot) (ns : List LaneNo) (s : State) {w : Slot} (h : w ≠ v) :
    (ns.foldl (settleLane v) s).vtb.voices[w] = s.vtb.voices[w] := by
  induction ns generalizing s with
  | nil => rfl
  | cons n ns ih => exact (ih _).trans (settleLane_voice_ne v s n h)

theorem settleLanes_lane_not_mem (v : Slot) (ns : List LaneNo) (s : State) {k : LaneNo} (h : k ∉ ns) :
    (ns.foldl (settleLane v) s).lanes[k] = s.lanes[k] := by
  induction ns generalizing s with
  | nil => rfl
  | cons n ns ih =>
    have hk : k ≠ n := fun e => h (by simp [e])
    exact (ih _ (fun m => h (List.mem_cons_of_mem _ m))).trans (settleLane_lane_ne v s hk)

theorem settleLanes_keeps (v : Slot) (ns : List LaneNo) (s : State) :
    (ns.foldl (settleLane v) s).ntu = s.ntu ∧ (ns.foldl (settleLane v) s).vtb.voicedAs = s.vtb.voicedAs
      ∧ (ns.foldl (settleLane v) s).vtb.seqCounter = s.vtb.seqCounter := by
  induction ns generalizing s with
  | nil => exact ⟨rfl, rfl, rfl⟩
  | cons n ns ih =>
    have a := settleLane_keeps v s n
    have b := ih (settleLane v s n)
    exact ⟨b.1.trans a.1, b.2.1.trans a.2.1, b.2.2.trans a.2.2.1⟩

/-- An end changes no other voice. -/
theorem endVoice_voice_ne (s : State) {v w : Slot} (h : w ≠ v) :
    (endVoice s v).vtb.voices[w] = s.vtb.voices[w] := by
  by_cases hs : s.vtb.voices[v].state = .sounding
  · rw [endVoice_sounding hs]
    simp only []
    rw [State.setVoice_get_ne _ _ h, settleLanes_voice_ne v _ _ h, State.setVoice_get_ne _ _ h]
  · rw [endVoice_not_sounding hs]

/-- An end raises no notice, unvoices no crosspoint and starts no voice. -/
theorem endVoice_keeps (s : State) (v : Slot) :
    (endVoice s v).ntu = s.ntu ∧ (endVoice s v).vtb.voicedAs = s.vtb.voicedAs
      ∧ (endVoice s v).vtb.seqCounter = s.vtb.seqCounter := by
  by_cases hs : s.vtb.voices[v].state = .sounding
  · rw [endVoice_sounding hs]
    exact settleLanes_keeps v _ _
  · rw [endVoice_not_sounding hs]
    exact ⟨rfl, rfl, rfl⟩

/-- After an end the voice is not SOUNDING. -/
theorem endVoice_state_ne (s : State) (v : Slot) : (endVoice s v).vtb.voices[v].state ≠ .sounding := by
  by_cases hs : s.vtb.voices[v].state = .sounding
  · rw [endVoice_sounding hs]
    simp only [State.setVoice_get_self, settledVoice]
    split <;> simp
  · rw [endVoice_not_sounding hs]
    exact hs

/-- A leave changes no other voice. -/
theorem leaveVoice_voice_ne (x : Crosspoint) (s : State) {v w : Slot} (h : w ≠ v) :
    (leaveVoice x s v).vtb.voices[w] = s.vtb.voices[w] := by
  unfold leaveVoice
  simp only []
  split
  · rw [endVoice_voice_ne _ h, State.setVoice_get_ne _ _ h]
  · rw [State.setVoice_get_ne _ _ h]

/-- A leave of one holder among several only takes it off the list; the leave of the last one ends the voice. -/
theorem leaveVoice_cases (x : Crosspoint) (s : State) (v : Slot) :
    (s.vtb.voices[v].holders.erase x ≠ []
        ∧ leaveVoice x s v = s.setVoice v { s.vtb.voices[v] with holders := s.vtb.voices[v].holders.erase x })
      ∨ (s.vtb.voices[v].holders.erase x = []
        ∧ leaveVoice x s v = endVoice (s.setVoice v { s.vtb.voices[v] with holders := [] }) v) := by
  unfold leaveVoice
  simp only []
  by_cases h : s.vtb.voices[v].holders.erase x = []
  · exact .inr ⟨h, by rw [h]; rfl⟩
  · exact .inl ⟨h, if_neg (by simpa only [List.isEmpty_iff] using h)⟩

/-! ## Joins and Starts (R69 to R71) -/

/-- A join finds a voice and shares it, finds it full, finds itself among its holders, or finds none. -/
theorem joinEntry_cases (x : Crosspoint) (s : State) (e : LayerPos × Pitch) :
    (∃ v, s.findLive e = some v ∧ x ∈ s.vtb.voices[v].holders ∧ joinEntry x s e = s)
      ∨ (∃ v, s.findLive e = some v ∧ x ∉ s.vtb.voices[v].holders ∧ s.vtb.voices[v].holders.length < 6
          ∧ joinEntry x s e
            = s.setVoice v { s.vtb.voices[v] with holders := s.vtb.voices[v].holders ++ [x] })
      ∨ (∃ v, s.findLive e = some v ∧ x ∉ s.vtb.voices[v].holders ∧ 6 ≤ s.vtb.voices[v].holders.length
          ∧ joinEntry x s e = s.raise (.voiceLoss .holderFull (some v) x))
      ∨ (s.findLive e = none ∧ joinEntry x s e = allocate x s e) := by
  unfold joinEntry
  cases hf : s.findLive e with
  | none => exact .inr (.inr (.inr ⟨rfl, rfl⟩))
  | some v =>
    by_cases hx : x ∈ s.vtb.voices[v].holders
    · exact .inl ⟨v, rfl, hx, if_pos (List.contains_iff_mem.mpr hx)⟩
    · have hc : ¬ s.vtb.voices[v].holders.contains x = true := fun c => hx (List.contains_iff_mem.mp c)
      by_cases hl : s.vtb.voices[v].holders.length < 6
      · exact .inr (.inl ⟨v, rfl, hx, hl, (if_neg hc).trans (if_pos hl)⟩)
      · exact .inr (.inr (.inl ⟨v, rfl, hx, Nat.not_lt.mp hl, (if_neg hc).trans (if_neg hl)⟩))

/-- The voice that a join finds is SOUNDING, LIVE, and of the entry's layer and pitch. -/
theorem State.findLive_some {s : State} {e : LayerPos × Pitch} {v : Slot} (h : s.findLive e = some v) :
    s.vtb.voices[v].state = .sounding ∧ s.vtb.voices[v].origin = .live ∧ s.vtb.voices[v].layer = e.1
      ∧ s.vtb.voices[v].pitch = e.2 := by
  have := List.find?_some h
  simpa [Voice.soundsLive, Voice.matchesEntry, and_assoc] using this

/-- An offered Start is accepted by a LIVE lane with room, raises LANE_OVERRUN on a LIVE lane without, and does
nothing on any other. -/
theorem offerStart_cases (v : Slot) (s : State) (n : LaneNo) :
    (s.lanes[n].state = .live ∧ s.lanes[n].queue.length < 28
        ∧ offerStart v s n = (s.setLane n
            (s.lanes[n].append (.start v s.vtb.voices[v].program s.vtb.voices[v].pitch s.tierCode))).setVoice v
          { s.vtb.voices[v] with lanes := LaneSet.add s.vtb.voices[v].lanes n })
      ∨ (s.lanes[n].state = .live ∧ 28 ≤ s.lanes[n].queue.length
          ∧ offerStart v s n = s.raise (.laneOverrun n v))
      ∨ (s.lanes[n].state ≠ .live ∧ offerStart v s n = s) := by
  unfold offerStart
  simp only []
  cases ha : s.lanes[n].acceptStart (.start v s.vtb.voices[v].program s.vtb.voices[v].pitch s.tierCode) with
  | some l =>
    obtain ⟨a, b, rfl⟩ := Lane.acceptStart_some ha
    exact .inl ⟨a, b, by simp only []⟩
  | none =>
    have c := Lane.acceptStart_none ha
    by_cases hl : s.lanes[n].state = .live
    · exact .inr (.inl ⟨hl, Nat.not_lt.mp fun h => c ⟨hl, h⟩, by simp only [if_pos hl]⟩)
    · exact .inr (.inr ⟨hl, by simp only [if_neg hl]⟩)

end Sys2Proof.Machine
end

