-- ==== Sys2Proof/Laws/Silencing.lean ====
section
/-! SUPPORT. What queueing a Silence on a lane, taking a lane out of the silence-pending set, and delivering owed
Stops can do, and what each leaves alone. -/

namespace Sys2Proof.Machine

/-! ## A Silence on a lane (R150, R116) -/

/-- A Silence on a lane that is not LIVE: queue and owed list, and the voices cleared of the lane. -/
theorem State.silenceLane_not_live {s : State} {n : LaneNo} (h : s.lanes[n].state ≠ .live) :
    s.silenceLane n = (s.setLane n s.lanes[n].queueSilence).clearLane n := by
  unfold State.silenceLane
  simp only []
  rw [if_neg]
  simpa only [State.clearLane_lanes, State.setLane_get_self, Lane.queueSilence_state] using h

/-- A Silence on a LIVE lane: the same, with the Tier and the Swell in force behind it. -/
theorem State.silenceLane_live {s : State} {n : LaneNo} (h : s.lanes[n].state = .live) :
    s.silenceLane n = ((s.setLane n s.lanes[n].queueSilence).clearLane n).resyncLane n := by
  unfold State.silenceLane
  simp only []
  rw [if_pos]
  simpa only [State.clearLane_lanes, State.setLane_get_self, Lane.queueSilence_state] using h

theorem State.resyncLane_lane (s : State) (n k : LaneNo) :
    (s.resyncLane n).lanes[k] = if k = n then s.lanes[n].resync s.tierCode s.dyn.expr else s.lanes[k] :=
  State.setLane_get s n k _

@[simp] theorem State.resyncLane_vtb (s : State) (n : LaneNo) : (s.resyncLane n).vtb = s.vtb := rfl

/-- A Silence changes no other lane. -/
theorem State.silenceLane_lane_ne (s : State) {n k : LaneNo} (h : k ≠ n) :
    (s.silenceLane n).lanes[k] = s.lanes[k] := by
  by_cases hl : s.lanes[n].state = .live
  · rw [State.silenceLane_live hl, State.resyncLane_lane, if_neg h, State.clearLane_lanes, State.setLane_get_ne _ _ h]
  · rw [State.silenceLane_not_live hl, State.clearLane_lanes, State.setLane_get_ne _ _ h]

/-- A LIVE lane's queue behind a Silence: the record being sent, the Silence, the Tier, the Swell. -/
theorem State.silenceLane_live_queue {s : State} {n : LaneNo} (h : s.lanes[n].state = .live) :
    (s.silenceLane n).lanes[n].queue
      = s.lanes[n].sent ++ [.silence, .tier s.tierCode, .swell s.dyn.expr] := by
  rw [State.silenceLane_live h, State.resyncLane_lane, if_pos rfl, State.clearLane_lanes, State.setLane_get_self]
  exact Lane.silence_resync_queue _ _ _

/-- Any other lane's queue behind a Silence: the record being sent, the Silence. -/
theorem State.silenceLane_other_queue {s : State} {n : LaneNo} (h : s.lanes[n].state ≠ .live) :
    (s.silenceLane n).lanes[n].queue = s.lanes[n].sent ++ [.silence] := by
  rw [State.silenceLane_not_live h, State.clearLane_lanes, State.setLane_get_self, Lane.queueSilence_queue]

/-- A Silence leaves the lane its state, its stall timeout and its line, and nothing owed. -/
theorem State.silenceLane_keeps (s : State) (n : LaneNo) :
    (s.silenceLane n).lanes[n].state = s.lanes[n].state ∧ (s.silenceLane n).lanes[n].timeout = s.lanes[n].timeout
      ∧ (s.silenceLane n).lanes[n].ready = s.lanes[n].ready ∧ (s.silenceLane n).lanes[n].owed = [] := by
  by_cases hl : s.lanes[n].state = .live
  · rw [State.silenceLane_live hl, State.resyncLane_lane, if_pos rfl, State.clearLane_lanes, State.setLane_get_self]
    obtain ⟨a, b, c, d⟩ := Lane.resync_keeps s.lanes[n].queueSilence
      ((s.setLane n s.lanes[n].queueSilence).clearLane n).tierCode
      ((s.setLane n s.lanes[n].queueSilence).clearLane n).dyn.expr
    exact ⟨a.trans (by simp), c.trans (by simp), d.trans (by simp), b.trans (by simp)⟩
  · rw [State.silenceLane_not_live hl, State.clearLane_lanes, State.setLane_get_self]
    simp

/-- A Silence clears the lane from every voice. -/
theorem State.silenceLane_voice (s : State) (n : LaneNo) (v : Slot) :
    (s.silenceLane n).vtb.voices[v] = s.vtb.voices[v].cleared n := by
  by_cases hl : s.lanes[n].state = .live
  · rw [State.silenceLane_live hl, State.resyncLane_vtb, State.clearLane_get]; rfl
  · rw [State.silenceLane_not_live hl, State.clearLane_get]; rfl

/-- A Silence writes lanes, voices and the last-posted swells, and nothing else. -/
theorem State.silenceLane_frame (s : State) (n : LaneNo) :
    s.silenceLane n = { s with
      lanes := (s.silenceLane n).lanes, vtb := { s.vtb with voices := (s.silenceLane n).vtb.voices }
      dyn := { s.dyn with lastSwell := (s.silenceLane n).dyn.lastSwell } } := by
  by_cases hl : s.lanes[n].state = .live
  · rw [State.silenceLane_live hl]; rfl
  · rw [State.silenceLane_not_live hl]; rfl

/-! ## Voices cleared of a lane (R68) -/

theorem Voice.cleared_free {y : Voice} (n : LaneNo) (h : y.state = .free) : y.cleared n = y := by
  unfold Voice.cleared
  rw [if_pos h]

theorem Voice.cleared_not_free {y : Voice} (n : LaneNo) (h : y.state ≠ .free) :
    y.cleared n = { y with
      lanes := LaneSet.remove y.lanes n, owed := LaneSet.remove y.owed n
      state := if y.state = .owed ∧ LaneSet.remove y.owed n = 0 then .free else y.state } := by
  unfold Voice.cleared
  rw [if_neg h]

@[simp] theorem Voice.cleared_holders (y : Voice) (n : LaneNo) : (y.cleared n).holders = y.holders := by
  by_cases h : y.state = .free
  · rw [Voice.cleared_free n h]
  · rw [Voice.cleared_not_free n h]

/-- Clearing ends no SOUNDING voice and starts none. -/
theorem Voice.cleared_sounding (y : Voice) (n : LaneNo) :
    (y.cleared n).state = .sounding ↔ y.state = .sounding := by
  by_cases h : y.state = .free
  · rw [Voice.cleared_free n h]
  · rw [Voice.cleared_not_free n h]
    simp only []
    split
    · next c => simp [c.1]
    · rfl

/-! ## The silence-pending set (R137) -/

/-- A lane leaves the set; SILENCE_DONE is raised exactly when it was in it and the set is then empty. -/
theorem State.leavePending_cases (s : State) (n : LaneNo) :
    (LaneSet.has s.slc.pending n = true ∧ LaneSet.remove s.slc.pending n = 0
        ∧ s.leavePending n = (s.setSlc { s.slc with
            pending := LaneSet.remove s.slc.pending n, stale := LaneSet.remove s.slc.stale n }).raise .silenceDone)
      ∨ ((LaneSet.has s.slc.pending n = false ∨ LaneSet.remove s.slc.pending n ≠ 0)
        ∧ s.leavePending n = s.setSlc { s.slc with
            pending := LaneSet.remove s.slc.pending n, stale := LaneSet.remove s.slc.stale n }) := by
  unfold State.leavePending
  simp only []
  cases hp : LaneSet.has s.slc.pending n
  · exact .inr ⟨.inl rfl, if_neg Bool.false_ne_true⟩
  · by_cases h : LaneSet.remove s.slc.pending n = 0
    · exact .inl ⟨rfl, h, (if_pos rfl).trans (if_pos h)⟩
    · exact .inr ⟨.inr h, (if_pos rfl).trans (if_neg h)⟩

/-- Leaving the set writes the set and its stale marks, and notices, and nothing else. -/
theorem State.leavePending_frame (s : State) (n : LaneNo) :
    s.leavePending n = { s with
      slc := { s.slc with pending := LaneSet.remove s.slc.pending n, stale := LaneSet.remove s.slc.stale n }
      ntu := { s.ntu with slots := (s.leavePending n).ntu.slots } } := by
  rcases s.leavePending_cases n with ⟨_, _, e⟩ | ⟨_, e⟩ <;> rw [e] <;> rfl

/-! ## Owed delivery (R67, R153) -/

/-- Owed delivery keeps every other lane. -/
theorem deliverOwed_lane_ne (n : LaneNo) (vs : List Slot) (s : State) {k : LaneNo} (h : k ≠ n) :
    (deliverOwed n vs s).lanes[k] = s.lanes[k] := by
  induction vs generalizing s with
  | nil => rfl
  | cons v vs ih =>
    unfold deliverOwed
    simp only []
    split
    · rw [ih, State.setVoice_lanes, State.setLane_get_ne _ _ h]
    · rfl

/-- Owed delivery writes voices and the lane, and nothing else. -/
theorem deliverOwed_frame (n : LaneNo) (vs : List Slot) (s : State) :
    deliverOwed n vs s = { s with
      lanes := (deliverOwed n vs s).lanes
      vtb := { s.vtb with voices := (deliverOwed n vs s).vtb.voices } } := by
  induction vs generalizing s with
  | nil => rfl
  | cons v vs ih =>
    unfold deliverOwed
    simp only []
    split
    · exact (ih _).trans rfl
    · rfl

end Sys2Proof.Machine
end

