-- ==== Sys2Proof/Tests/Slice0.lean ====
section
/-! SUPPORT. The model's own tests. The expected values come from the manual: its worked cases, its tables, or its
arithmetic done by hand; each test names its source. The `witness_` theorems show, for each obligation with hypotheses,
states and operands that meet them, clause by clause, at the ends of the ranges. Every theorem is about at most one
step. -/

namespace Sys2Proof.Tests

open Sys2Proof.Machine

set_option Elab.async false

/-! ## Small states -/

/-- The state of a next answer. -/
def nextOf : Host.Outcome State Fault Refusal → State
  | .next t => t
  | _ => State.reset

/-- The state after a command. -/
abbrev after (c : Instr) (s : State) : State := nextOf (exec c s)

/-- The payload of the reply in the slot: the status, and the data behind it. -/
def replyOf (s : State) : List Byte := (s.mlk.reply.map Frame.payload).getD []

/-- The part with an idle output. -/
def idle : State := State.reset.setMlk { State.reset.mlk with output := .idle }

/-- The part HALTED. -/
def halted : State := State.reset.setSlc { State.reset.slc with enable := false, shadow := false, part := .halted }

/-- The part with a reply in the slot, being sent. -/
def answering : State :=
  State.reset.setMlk { State.reset.mlk with reply := some ⟨0x83, 9, [0]⟩, output := .sendingReply ⟨0x83, 9, [0]⟩ }

/-- A LIVE lane under ready with a queue, its head being sent. -/
def live (queue : List LaneRecord) : Lane :=
  { state := .live, queue := queue, sending := !queue.isEmpty, owed := [], timeout := 20, stall := none, ready := true }

/-- A LIVE lane that waits, its ready line low. -/
def waits (queue : List LaneRecord) (owed : List Slot) (timeout : Nat) (stall : Timer) : Lane :=
  { state := .live, queue := queue, sending := false, owed := owed, timeout := timeout, stall := stall, ready := false }

/-- Every lane LIVE and empty, under ready. -/
def lanesUp (s : State) : State := { s with lanes := Vector.replicate 4 (live []) }

/-- A SOUNDING LIVE voice. -/
def sounding (i : LayerPos) (pitch : Pitch) (priority : Fin 4) (lanes : LaneSet) (holders : List Crosspoint)
    (seq : BitVec 32) : Voice :=
  { state := .sounding, origin := .live, layer := i, priority := priority, program := 0, pitch := pitch,
    lanes := lanes, owed := 0, holders := holders, startSeq := seq }

/-- An OWED voice. -/
def owedVoice (owed : LaneSet) (seq : BitVec 32) : Voice :=
  { Voice.blank with state := .owed, owed := owed, startSeq := seq }

/-- A layer of the treble for register 0 and every pitch. -/
def trebleLayer (program : Program) (lanes : LaneSet) (transpose : Int) (carry : Bool) : Layer :=
  { sect := .treble, rowMask := 0, regMask := 1, program := program, laneMask := lanes, transpose := transpose,
    keyLow := 0, keyHigh := 127, priority := 1, carry := carry }

/-- A layer of the bass for a set of rows and of registers. -/
def bassLayer (rows : BitVec 6) (regs : BitVec 16) (lanes : LaneSet) (transpose : Int) (low high : Pitch) : Layer :=
  { sect := .bass, rowMask := rows, regMask := regs, program := 0, laneMask := lanes, transpose := transpose,
    keyLow := low, keyHigh := high, priority := 1, carry := false }

/-- A role given to a crosspoint. -/
def setRole (x : Crosspoint) (r : Role) (s : State) : State := s.setBsc { s.bsc with roles := put s.bsc.roles x r }

/-- A crosspoint PRESSED, its counts as they are. -/
def setPressed (x : Crosspoint) (s : State) : State :=
  s.setBsc { s.bsc with buttons := put s.bsc.buttons x { pressed := true, count := 0 } }

/-- A crosspoint's debounced state and count. -/
def setButton (x : Crosspoint) (b : Button) (s : State) : State :=
  s.setBsc { s.bsc with buttons := put s.bsc.buttons x b }

/-- A layer in the Live Copy. -/
def setLiveLayer (i : LayerPos) (l : Layer) (s : State) : State :=
  s.setLive { s.sst.live with layers := put s.sst.live.layers i (some l) }

/-- The modes of the two sections. -/
def setModes (treble bass : Mode) (s : State) : State :=
  s.setSettings { s.sst.live.settings with trebleMode := treble, bassMode := bass }

/-- A VALID scene with one layer at position 0. -/
def validScene (l : Layer) : Scene := { Scene.blank with state := .valid, layers := put Scene.blank.layers 0 (some l) }

/-- The readings in which the crosspoints of a list read pressed. -/
def readings (xs : List Crosspoint) : Readings := xs.foldl (fun r x => r ||| (1#256 <<< x.val)) 0

/-- Crosspoint 20 is TREBLE 12, push 60, pull 62, held and voiced PUSH. -/
def key20 (s : State) : State :=
  let s := setPressed 20 (setRole 20 (.treble 12) s)
  let s := s.setBsc { s.bsc with held := s.bsc.held + 1 }
  (s.setNex { s.nex with trebleTable := put s.nex.trebleTable 12 ⟨60, 62⟩ }).setVtb
    { s.vtb with voicedAs := put s.vtb.voicedAs 20 (some .push) }

/-! ## Well-formedness: each check refuses an ill-formed command -/

theorem test_wf_refuses_no_bytes : Instr.wf (.receiveBadFrame []) = false := by decide

theorem test_wf_refuses_later_reset_byte :
    Instr.wf (.receiveBadFrame [goodByte 0, { goodByte 0 with overReset := true }]) = false
      ∧ Instr.wf (.gapTimeout [goodByte 0, { goodByte 0 with overReset := true }]) = false := by decide

theorem test_wf_refuses_known_kind : Instr.wf (.unknownKindRequest 0x01 0 []) = false := by decide

theorem test_wf_refuses_long_unknown : Instr.wf (.unknownKindRequest 0x07 0 (List.replicate 249 0)) = false := by
  decide +kernel

theorem test_wf_refuses_long_payload : Instr.wf (.getStatus 0 (List.replicate 249 0)) = false := by decide +kernel

theorem test_wf_accepts : Instr.wf (.frameDiscard 0x07 0 (List.replicate 248 0)) = true
    ∧ Instr.wf (.unknownKindRequest 0x07 0 []) = true ∧ Instr.wf (.receiveBadFrame [goodByte 0]) = true := by
  decide +kernel

/-! ## The button scanner (spec 01) -/

/-- Spec 01, "Debounce of one crosspoint": passes 1 to 6, with D = 3. -/
theorem test_debounce :
    debounce 3 true ⟨false, 0⟩ = ⟨false, 1⟩ ∧ debounce 3 true ⟨false, 1⟩ = ⟨false, 2⟩
      ∧ debounce 3 false ⟨false, 2⟩ = ⟨false, 0⟩ ∧ debounce 3 true ⟨false, 2⟩ = ⟨true, 0⟩ := by
  decide

/-- Spec 01, "A pass with several changes": held count 2 again, group 1 occupied twice with nothing pushed, treble
register 3, and BUTTON pending with its last change and a repeat count of 3. -/
theorem test_scan_several_changes :
    let s := setRole 34 (.treble 21) (setRole 130 (.bass 4 1) (setRole 200 (.override 1) (setRole 201 (.override 1)
      (setRole 240 (.trebleRegister 3) (setRole 33 (.treble 20) State.reset)))))
    let s := setButton 33 ⟨true, 2⟩ (setButton 34 ⟨false, 2⟩ (setPressed 130 (setButton 200 ⟨false, 2⟩
      (setPressed 201 (setButton 240 ⟨false, 2⟩ s)))))
    let s := s.setBsc { s.bsc with held := 2, groupOcc := put s.bsc.groupOcc 1 1, passTimer := some 4 }
    let t := after (.scanPass (readings [34, 200, 240, 130, 201])) s
    t.bsc.held = 2 ∧ t.bsc.groupOcc[(1 : Fin 4)] = 2 ∧ t.stack = [] ∧ t.sst.live.settings.trebleReg = 3
      ∧ t.ntu.slots[(11 : Fin 13)] = some ⟨.button 240 true, 3⟩ ∧ t.vtb.voicedAs[33] = none
      ∧ t.vtb.voicedAs[34] = some .push := by
  decide +kernel

/-- Spec 01, "Load Roles refused and accepted". -/
theorem test_loadRoles :
    let s := setPressed 40 (setRole 40 .hush State.reset)
    replyOf (after (.loadRoles 0 [17, 1, 5, 0, 40, 0, 0, 0]) s) = [0x04]
      ∧ replyOf (after (.loadRoles 0 [17, 1, 5, 0, 18, 2, 20, 0, 40, 0, 0, 0]) s) = [0x03]
      ∧ (let t := after (.loadRoles 0 [17, 1, 5, 0, 18, 2, 3, 2, 17, 1, 6, 0]) s;
          replyOf t = [0x00] ∧ t.bsc.roles[17] = .treble 6 ∧ t.bsc.roles[18] = .bass 3 2 ∧ t.bsc.roles[40] = .hush) := by
  decide +kernel

/-- R15: interval 0 and D 16 are refused; an accepted request cancels a press in flight. -/
theorem test_setScan :
    replyOf (after (.setScan 0 [0, 3]) State.reset) = [0x03] ∧ replyOf (after (.setScan 0 [4, 16]) State.reset) = [0x03]
      ∧ (let t := after (.setScan 0 [16, 15]) (setButton 9 ⟨false, 2⟩ State.reset);
          t.bsc.interval = 16 ∧ t.bsc.depth = 15 ∧ t.bsc.buttons[9] = ⟨false, 0⟩ ∧ t.bsc.passTimer = some 0) := by
  decide +kernel

/-- R15: at the pass timer's expiry a press at count 2 is confirmed under D = 3; with the Set Scan taken first the pass
does not happen. R1: it does not happen before the expiry either. -/
theorem test_scan_at_the_expiry :
    let s := setButton 9 ⟨false, 2⟩ (State.reset.setBsc { State.reset.bsc with passTimer := some 4 })
    (after (.scanPass (readings [9])) s).bsc.buttons[9] = ⟨true, 0⟩
      ∧ (after (.scanPass (readings [9])) (after (.setScan 0 [1, 1]) s)).bsc.buttons[9] = ⟨false, 0⟩
      ∧ (after (.scanPass (readings [9])) (s.setBsc { s.bsc with passTimer := some 3 })).bsc.buttons[9] = ⟨false, 2⟩ := by
  decide +kernel

/-- R16: held count, interval, D, more, n, and the PRESSED crosspoints from the first one on. -/
theorem test_readButtons :
    replyOf (after (.readButtons 0 [17]) (setPressed 200 (setPressed 17 (setPressed 16 State.reset))))
      = [0, 0, 0, 4, 3, 0, 2, 17, 200] := by
  decide +kernel

/-! ## The note expander (spec 02) -/

/-- The part of spec 02, "Expansion of a chord button under both directions". -/
def chordPart : State :=
  let s := setModes .unisonoric .bisonoric (setRole 147 (.bass 5 2) State.reset)
  let s := s.setNex { s.nex with bassTable := put s.nex.bassTable 5 ⟨47, 43⟩ }
  let s := setLiveLayer 1 (bassLayer 6 1 1 (-12) 40 60) (setLiveLayer 2 (bassLayer 4 1 1 0 60 72) s)
  let s := setLiveLayer 5 (bassLayer 1 1 1 0 0 127) (setLiveLayer 6 (trebleLayer 0 1 12 false) s)
  s.setTransposeTo 2

/-- Spec 02, "Expansion of a chord button under both directions". -/
theorem test_expansion_of_a_chord :
    chordPart.expand 147 .push = [(1, 49), (1, 53), (1, 56), (2, 61), (2, 65), (2, 68)]
      ∧ chordPart.expand 147 .pull = [(1, 45), (1, 49), (1, 52), (2, 61), (2, 64)] := by
  decide +kernel

/-- Spec 02, "Folding and merging": 134 and 146 both fold to 122. -/
theorem test_folding_and_merging :
    let s := setLiveLayer 7 (bassLayer 16 1 1 24 0 127) (setRole 60 (.bass 0 4) State.reset)
    let s := s.setNex { s.nex with
      bassTable := put s.nex.bassTable 0 ⟨98, 98⟩, forms := put s.nex.forms 6 [12, 24], rowForms := put s.nex.rowForms 4 6 }
    s.expand 60 .push = [(7, 122)] ∧ foldPitch 128 = 116 ∧ foldPitch (-1) = 11 ∧ foldPitch 127 = 127 := by
  decide +kernel

/-- R29: entries first to first + n − 1 are written, each a push and a pull pitch; a run past key 95 is refused. -/
theorem test_loadTreblePitches :
    (let t := after (.loadTreblePitches 0 [94, 60, 62, 61, 127]) State.reset;
      t.nex.trebleTable[94] = ⟨60, 62⟩ ∧ t.nex.trebleTable[95] = ⟨61, 127⟩ ∧ t.nex.trebleTable[93] = ⟨125, 125⟩)
      ∧ replyOf (after (.loadTreblePitches 0 [95, 60, 62, 61, 127]) State.reset) = [0x03]
      ∧ replyOf (after (.loadTreblePitches 0 [0, 60, 128]) State.reset) = [0x03] := by
  decide +kernel

/-- R30. -/
theorem test_loadBassRoots :
    (after (.loadBassRoots 0 [19, 47, 43]) State.reset).nex.bassTable[19] = ⟨47, 43⟩
      ∧ replyOf (after (.loadBassRoots 0 [20, 47, 43]) State.reset) = [0x03] := by
  decide +kernel

/-- R31: one form replaced whole; an interval above 36 is refused. -/
theorem test_loadChordForm :
    (after (.loadChordForm 0 [6, 12, 24]) State.reset).nex.forms[6] = [12, 24]
      ∧ replyOf (after (.loadChordForm 0 [6, 37]) State.reset) = [0x03]
      ∧ replyOf (after (.loadChordForm 0 [6]) State.reset) = [0x02] := by
  decide +kernel

/-- R32. -/
theorem test_setRowForms :
    (after (.setRowForms 0 [7, 6, 5, 4, 3, 2]) State.reset).nex.rowForms = ⟨#[7, 6, 5, 4, 3, 2], rfl⟩
      ∧ replyOf (after (.setRowForms 0 [7, 6, 5, 4, 3, 8]) State.reset) = [0x03] := by
  decide +kernel

/-- R35: +3 is written; +25 (0x19) and −25 (0xE7) are refused. -/
theorem test_setTranspose :
    (after (.setTranspose 0 [0x03]) State.reset).sst.live.settings.transpose = 3
      ∧ (after (.setTranspose 0 [0xE8]) State.reset).sst.live.settings.transpose = -24
      ∧ replyOf (after (.setTranspose 0 [0x19]) State.reset) = [0x03]
      ∧ replyOf (after (.setTranspose 0 [0xE7]) State.reset) = [0x03] := by
  decide +kernel

/-- R34: under PULL, a change of the treble to BISONORIC takes the held key 20 from 60 to 62 in the freed slot. -/
theorem test_setSectionModes :
    let s := setLiveLayer 0 (trebleLayer 0 1 0 false) (key20 (lanesUp State.reset))
    let s := (s.setVoice 0 (sounding 0 60 1 1 [20] 0)).setBfe { s.bfe with bd := .pull }
    let t := after (.setSectionModes 0 [1, 0]) s
    t.sst.live.settings.trebleMode = .bisonoric ∧ t.vtb.voices[(0 : Slot)].pitch = 62
      ∧ t.vtb.voices[(0 : Slot)].holders = [20] ∧ t.lanes[(0 : LaneNo)].queue = [.stop 0, .start 0 0 62 2] := by
  decide +kernel

/-! ## The scene store (spec 03) -/

/-- Scene 4 PARTIAL, with nothing loaded, or as given. -/
def loadingScene (c : Scene) : State := State.reset.setScene 4 { c with state := .loading }

/-- The Load Layer payload of spec 03, "Scene loading", steps 4 and 5, with a row mask. -/
def layerPayload (rows : Byte) : List Byte := [4, 2, 0, rows, 0, 1, 0, 9, 1, 0xF4, 0, 127, 2, 1]

/-- Spec 03, "Scene loading, refused and accepted", steps 1, 4 and 5: the range check comes before the state check,
and an accepted layer is written field by field (R38, R40; 0xF4 is −12). -/
theorem test_loadLayer :
    replyOf (after (.loadLayer 0 (layerPayload 0)) State.reset) = [0x04]
      ∧ replyOf (after (.loadLayer 0 (layerPayload 3)) State.reset) = [0x03]
      ∧ (after (.loadLayer 0 (layerPayload 0)) (loadingScene .blank)).sst.library[4].layers[2]
        = some ⟨.treble, 0, 1, 9, 1, -12, 0, 127, 2, true⟩ := by
  decide +kernel

/-- Spec 03, "Scene loading", step 6. -/
theorem test_setSceneDefaults :
    let p : List Byte := [4, 1, 0, 0xFE, 1, 1, 0, 1, 2, 3, 4, 5, 6, 7]
    (after (.setSceneDefaults 0 p) (loadingScene .blank)).sst.library[4].defaults = ⟨1, 0, -2, .bisonoric, .bisonoric⟩
      ∧ replyOf (after (.setSceneDefaults 0 p) State.reset) = [0x04]
      ∧ replyOf (after (.setSceneDefaults 0 (p.set 3 0xE7)) State.reset) = [0x03] := by
  decide +kernel

/-- Spec 03, "Scene loading", steps 3 and 7. -/
theorem test_finishScene :
    replyOf (after (.finishScene 0 [4]) (loadingScene .blank)) = [0x04]
      ∧ (after (.finishScene 0 [4]) (loadingScene (validScene (trebleLayer 0 1 0 false)))).sst.library[4].state
        = .valid := by
  decide +kernel

/-- Spec 03, "Scene loading", step 2, and R43. -/
theorem test_beginScene_and_eraseScene :
    let s := State.reset.setScene 4 (validScene (trebleLayer 0 1 0 false))
    (after (.beginScene 0 [4]) s).sst.library[4] = { Scene.blank with state := .loading }
      ∧ (after (.eraseScene 0 [4]) s).sst.library[4] = .blank
      ∧ replyOf (after (.beginScene 0 [16]) s) = [0x03] ∧ replyOf (after (.eraseScene 0 [16]) s) = [0x03] := by
  decide +kernel

/-- R50: the reply says whether a cue was replaced; an empty trigger set is refused. -/
theorem test_armCue :
    (let t := after (.armCue 0 [6, 8, 1]) State.reset;
      t.sst.armed = some ⟨6, 8, 1⟩ ∧ replyOf t = [0, 0])
      ∧ replyOf (after (.armCue 0 [6, 0, 1]) State.reset) = [0x03]
      ∧ replyOf (after (.armCue 0 [6, 1, 8]) State.reset) = [0x03] := by
  decide +kernel

/-- A cue armed. -/
def armed (c : Cue) (s : State) : State := s.setSst { s.sst with armed := some c }

/-- R51. -/
theorem test_cancelCue :
    (after (.cancelCue 0 []) (armed ⟨6, 8, 1⟩ State.reset)).sst.armed = none
      ∧ replyOf (after (.cancelCue 0 []) State.reset) = [0x04] := by
  decide +kernel

/-- R52, R53: a target that is not VALID fails with outcome 1, and the cue is disarmed and CUE raised; without HOST
among the triggers the request is refused. -/
theorem test_fireCue :
    (let t := after (.fireCue 0 []) (armed ⟨7, 1, 1⟩ State.reset);
      replyOf t = [0, 1] ∧ t.sst.armed = none ∧ t.ntu.slots[(5 : Fin 13)] = some ⟨.cue false 7 .host, 0⟩)
      ∧ replyOf (after (.fireCue 0 []) (armed ⟨7, 14, 1⟩ State.reset)) = [0x04] := by
  decide +kernel

/-- Spec 03, "A SETTINGS transfer", as a request: origin, layers and tier map stay, the defaults are written. -/
theorem test_fireCue_settings :
    let scene := { validScene (trebleLayer 0 1 0 false) with defaults := ⟨2, 1, 5, .unisonoric, .bisonoric⟩ }
    let t := after (.fireCue 0 []) (armed ⟨5, 1, 2⟩ (State.reset.setScene 5 scene))
    replyOf t = [0, 0] ∧ t.sst.live = { State.reset.sst.live with settings := scene.defaults } := by
  decide +kernel

/-- Spec 04, "A cue with one carry layer", as a take: slot 4 ends and starts again under program 11, slot 6 stays an
orphan. -/
theorem test_takeScene_carry :
    let scene := validScene (trebleLayer 11 1 0 true)
    let s := lanesUp (key20 (State.reset.setScene 9 scene))
    let s := s.setVtb { s.vtb with voices := tabulate fun v => if v.val < 4 then sounding 3 50 1 8 [30] 0 else Voice.blank }
    let s := (s.setVoice 4 (sounding 0 60 1 1 [20] 0)).setVoice 6 (sounding 2 60 1 4 [20] 0)
    let t := after (.takeScene 0 [9]) s
    t.sst.live.origin = some 9 ∧ t.vtb.voices[(6 : Slot)].origin = .orphan ∧ t.vtb.voices[(4 : Slot)].origin = .live
      ∧ t.vtb.voices[(4 : Slot)].program = 11 ∧ t.vtb.voices[(4 : Slot)].holders = [20]
      ∧ t.lanes[(0 : LaneNo)].queue = [.stop 4, .start 4 11 60 2] ∧ t.lanes[(2 : LaneNo)].queue = [] := by
  decide +kernel

/-- R49: a scene that is not VALID. -/
theorem test_takeScene_refused : replyOf (after (.takeScene 0 [9]) State.reset) = [0x04] := by decide +kernel

/-- R55: a rise in WAIT_RISE starts the qualification, a fall ends it. -/
theorem test_cueLine :
    (let t := after .cueLineRise State.reset;
      t.sst.detector = .qualifying ∧ t.sst.qualTimer = some 0 ∧ t.sst.cuePin = true)
      ∧ (let t := after .cueLineFall (State.reset.setSst
            { State.reset.sst with detector := .qualifying, qualTimer := some 3, cuePin := true });
          t.sst.detector = .waitRise ∧ t.sst.qualTimer = none ∧ t.sst.cuePin = false) := by
  decide +kernel

/-- Spec 03, "A cue around a reload", order A step 3: the qualified line fires the cue, which fails. -/
theorem test_cueQualificationExpiry :
    let s := armed ⟨7, 6, 5⟩ (State.reset.setScene 7 { Scene.blank with state := .loading })
    let t := after .cueQualificationExpiry (s.setSst { s.sst with detector := .qualifying, qualTimer := some 4 })
    t.sst.armed = none ∧ t.sst.detector = .waitFall ∧ t.sst.live.origin = none
      ∧ t.ntu.slots[(5 : Fin 13)] = some ⟨.cue false 7 .cueLine, 0⟩ := by
  decide +kernel

/-- Spec 03, "Register change across a chord", on one note: layer 2 serves register 0 alone, layer 4 register 1. -/
theorem test_selectRegister :
    let s := setRole 147 (.bass 0 1) (setPressed 147 (lanesUp State.reset))
    let s := setLiveLayer 2 (bassLayer 2 1 1 0 0 127) (setLiveLayer 4 (bassLayer 2 2 8 0 0 127) s)
    let s := (s.setVoice 0 (sounding 2 36 1 1 [147] 0)).setVoicedAs [147] (some .push)
    let t := after (.selectRegister 0 [1, 1]) s
    t.sst.live.settings.bassReg = 1 ∧ t.vtb.voices[(0 : Slot)].layer = 4 ∧ t.vtb.voices[(0 : Slot)].lanes = 8
      ∧ t.lanes[(0 : LaneNo)].queue = [.stop 0] ∧ t.lanes[(3 : LaneNo)].queue = [.start 0 0 36 2] := by
  decide +kernel

/-- R58: 0xFF keeps, 0xFB is −5; a target of 16 is refused. -/
theorem test_loadOverride :
    (after (.loadOverride 0 [1, 0xFF, 4, 0xFF, 0xFB, 1, 0xFF]) State.reset).sst.overrides[1]
        = ⟨none, some 4, none, -5, some .bisonoric, none⟩
      ∧ replyOf (after (.loadOverride 0 [1, 16, 4, 0xFF, 0, 1, 0xFF]) State.reset) = [0x03] := by
  decide +kernel

/-! ## The voice table (spec 04) -/

/-- A queue of n Swells. -/
def filler (n : Nat) : List LaneRecord := List.replicate n (.swell 1)

/-- Spec 04, "Ending a voice on three lanes": voice 7 withdrawn on lane 0, stopped on lane 1, owed on lane 3. -/
theorem test_release_on_three_lanes :
    let s := State.reset.setVoice 7 (sounding 0 60 1 11 [20] 0)
    let s := s.setLane 0 (waits (filler 2 ++ [.start 7 0 60 2]) [] 20 (some 0))
    let s := (s.setLane 1 (live [])).setLane 3 (waits (filler 32) [2] 20 (some 0))
    let t := releaseKey s 20
    t.vtb.voices[(7 : Slot)] = { owedVoice 8 0 with layer := 0, pitch := 60, priority := 1 }
      ∧ t.lanes[(0 : LaneNo)].queue = filler 2 ∧ t.lanes[(1 : LaneNo)].queue = [.stop 7]
      ∧ t.lanes[(3 : LaneNo)].owed = [2, 7] := by
  decide +kernel

/-- Spec 04, "Two chord buttons sharing notes": the press of crosspoint 131. -/
theorem test_press_shares_notes :
    let s := setLiveLayer 1 (bassLayer 12 1 1 0 0 127) (setRole 131 (.bass 4 3) (lanesUp State.reset))
    let s := ((s.setVoice 0 (sounding 1 48 1 1 [130] 100)).setVoice 1 (sounding 1 52 1 1 [130] 101)).setVoice 2
      (sounding 1 55 1 1 [130] 102)
    let t := pressKey (s.setVtb { s.vtb with seqCounter := 103 }) 131
    t.vtb.voices[(0 : Slot)].holders = [130] ∧ t.vtb.voices[(1 : Slot)].holders = [130, 131]
      ∧ t.vtb.voices[(2 : Slot)].holders = [130, 131] ∧ t.vtb.voices[(3 : Slot)] = sounding 1 59 1 1 [131] 103
      ∧ t.vtb.seqCounter = 104 ∧ t.lanes[(0 : LaneNo)].queue = [.start 3 0 59 2] := by
  decide +kernel

/-- The table of spec 04, "Choosing a steal candidate". -/
def fullTable : State :=
  let s := setLiveLayer 0 (trebleLayer 0 1 0 false) (lanesUp State.reset)
  let s := s.setVtb { s.vtb with seqCounter := 1000, voices := Vector.replicate 48 (sounding 1 40 2 2 [10] 990) }
  ((s.setVoice 5 (sounding 1 41 0 2 [11] 960)).setVoice 9 (sounding 1 42 0 2 [12] 943)).setVoice 12
    (sounding 1 43 1 2 [13] 910) |>.setVoice 20 (owedVoice 8 900)

/-- Spec 04, "Choosing a steal candidate": slot 9 is stolen. -/
theorem test_steal :
    let t := joinEntry 70 fullTable (0, 72)
    t.vtb.voices[(9 : Slot)] = sounding 0 72 1 1 [70] 1000 ∧ t.vtb.seqCounter = 1001
      ∧ t.ntu.slots[(8 : Fin 13)] = some ⟨.voiceLoss .stolen (some 9) 70, 0⟩ := by
  decide +kernel

/-- Spec 04, the same case with the Stop refused: slot 9 is OWED and the request dropped, naming no voice. -/
theorem test_steal_refused :
    let t := joinEntry 70 (fullTable.setLane 1 (waits (filler 32) [] 20 (some 0))) (0, 72)
    t.vtb.voices[(9 : Slot)].state = .owed ∧ t.vtb.seqCounter = 1000
      ∧ t.ntu.slots[(8 : Fin 13)] = some ⟨.voiceLoss .dropped none 70, 0⟩ := by
  decide +kernel

/-- R84's example: a voice in slot 7 OWED LIVE by lane 3 reports condition 3 and set byte 128. -/
theorem test_readVoices :
    replyOf (after (.readVoices 0 [7]) (State.reset.setVoice 7 { owedVoice 8 0 with pitch := 60 }))
      = [0, 0, 1, 7, 3, 0, 60, 128, 0, 0]
      ∧ replyOf (after (.readVoices 0 [48]) State.reset) = [0x03] := by
  decide +kernel

/-! ## The bellows front end (spec 05) -/

/-- The front end with other contents. -/
def withBellows (f : Bellows → Bellows) (s : State) : State := s.setBfe (f s.bfe)

/-- The part of spec 05, "Tracking one sample", with a tracking speed. -/
def tracking (k : Speed) : State :=
  withBellows (fun b => { b with acc := 102400, settings := { b.settings with speed := k } }) State.reset

/-- Spec 05, "Tracking one sample" and the first row of "Tracking at the fastest speed". -/
theorem test_tracking :
    (after (.sampleArrival 412) (tracking .k8)).bfe.acc = 102412
      ∧ (after (.sampleArrival 412) (tracking .k4)).bfe.acc = 102592 := by
  decide +kernel

/-- Spec 05, "A reversal with a waver": arrivals 6 and 10. -/
theorem test_reversal_with_a_waver :
    let s := withBellows (fun b => { b with
      lastClass := .pull, settings := { b.settings with mode := .fixed, hold := 5 } }) State.reset
    (let t := after (.sampleArrival (-300)) (withBellows (fun b => { b with run := 2, holdLeft := 3 }) s);
      t.bfe.run = 0 ∧ t.bfe.holdLeft = 4 ∧ t.bfe.bd = .push ∧ t.dyn = s.dyn)
      ∧ (let t := after (.sampleArrival (-2600)) (withBellows (fun b => { b with run := 3, holdLeft := 4 }) s);
          t.bfe.run = 0 ∧ t.bfe.holdLeft = 0 ∧ t.bfe.bd = .pull ∧ t.dyn.winSum = 2600
            ∧ t.ntu.slots[(9 : Fin 13)] = some ⟨.reversal .pull, 0⟩) := by
  decide +kernel

/-- Spec 05, "A sensor driven to the rail": arrival 64 sets the fault, arrival 134 clears it and is processed. -/
theorem test_rail :
    (let t := after (.sampleArrival 32767) (withBellows (fun b => { b with railRun := 63 }) State.reset);
      t.bfe.sensor = .rail ∧ t.bfe.railRun = 0 ∧ t.dyn = State.reset.dyn
        ∧ t.ntu.slots[(3 : Fin 13)] = some ⟨.sensor .rail, 0⟩)
      ∧ (let t := after (.sampleArrival 1200) (withBellows (fun b => { b with railFault := true, clearRun := 63 })
            State.reset);
          t.bfe.sensor = .ok ∧ t.bfe.clearRun = 0 ∧ t.dyn.winSum = 1200) := by
  decide +kernel

/-- Spec 04, "A bisonoric reversal with a note that changes hands", on the held key 20 and its neighbour 21. -/
theorem test_reversal_changes_hands :
    let s := setLiveLayer 0 (trebleLayer 0 1 0 false) (key20 (lanesUp State.reset))
    let s := setModes .bisonoric .unisonoric (setPressed 21 (setRole 21 (.treble 13) s))
    let s := (s.setNex { s.nex with trebleTable := put s.nex.trebleTable 13 ⟨62, 64⟩ }).setVoicedAs [21] (some .push)
    let s := s.setVtb { s.vtb with voices := Vector.replicate 48 (sounding 7 0 3 2 [9] 0) }
    let s := (s.setVoice 0 (sounding 0 60 1 1 [20] 0)).setVoice 1 (sounding 0 62 1 1 [21] 0)
    let t := reversalReexpand (withBellows (fun b => { b with bd := .pull }) s)
    t.lanes[(0 : LaneNo)].queue = [.stop 0, .stop 1, .start 0 0 62 2, .start 1 0 64 2]
      ∧ t.vtb.voices[(0 : Slot)].holders = [20] ∧ t.vtb.voices[(1 : Slot)].holders = [21]
      ∧ t.vtb.voicedAs[20] = some .pull ∧ t.vtb.voicedAs[21] = some .pull := by
  decide +kernel

/-- R99, R100: 20 ms after the last arrival the stream is lost and SENSOR is raised with lost; not before. -/
theorem test_streamLossTimeout :
    (let t := after .streamLossTimeout (withBellows (fun b => { b with lossTimer := some 80 }) State.reset);
      t.bfe.sensor = .lost ∧ t.bfe.lossTimer = none ∧ t.ntu.slots[(3 : Fin 13)] = some ⟨.sensor .lost, 0⟩)
      ∧ (after .streamLossTimeout State.reset).bfe.sensor = .ok := by
  decide +kernel

/-- R102: FIXED with offset −256 (0xFF00) makes A −65536 and clears run and hold; k = 5 is refused. -/
theorem test_setBellows :
    let s := withBellows (fun b => { b with run := 2, holdLeft := 3 }) State.reset
    (let t := after (.setBellows 0 [1, 0xFF, 0, 8, 3, 0x20, 64, 255]) s;
      t.bfe.acc = -65536 ∧ t.bfe.run = 0 ∧ t.bfe.holdLeft = 0 ∧ t.bfe.settings = ⟨.fixed, -256, .k8, 800, 64, 255⟩)
      ∧ replyOf (after (.setBellows 0 [1, 0xFF, 0, 5, 3, 0x20, 64, 255]) s) = [0x03] := by
  decide +kernel

/-! ## The dynamics unit (spec 06) -/

/-- The dynamics with other contents. -/
def withDynamics (f : Dynamics → Dynamics) (s : State) : State := s.setDyn (f s.dyn)

/-- A tier map in the Live Copy. -/
def withTierMap (m : Vector TierCode 8) (s : State) : State := s.setLive { s.sst.live with tierMap := m }

/-- The part of spec 06, "The level through one window and a surge". -/
def worked : State :=
  let s := withBellows (fun b => { b with settings := { b.settings with mode := .fixed, still := 800 } }) State.reset
  let s := withTierMap ⟨#[1, 1, 2, 3, 4, 5, 6, 6], rfl⟩ s
  withDynamics (fun y => { y with settings := { y.settings with
    winShift := 3, rise := 2048, tsurge := 20000, surge := 4096, holdOff := 40, gain := 512 } }) s

/-- Spec 06, "The level through one window and a surge" and "Swell through the first samples": samples 8 and 9. -/
theorem test_window_and_surge :
    (let t := after (.sampleArrival 8400)
        (withDynamics (fun y => { y with winSum := 53200, winPos := 7, f16 := 74869 }) worked);
      t.dyn.level = 18432 ∧ t.dyn.average = 7700 ∧ t.dyn.winSum = 0 ∧ t.dyn.f16 = 82310 ∧ t.dyn.expr = 40)
      ∧ (let t := after (.sampleArrival 21000) (withDynamics (fun y => { y with level := 18432, f16 := 82310 }) worked);
          t.dyn.level = 22528 ∧ t.dyn.holdOffLeft = 40 ∧ t.dyn.winSum = 21000 ∧ t.dyn.f16 = 114021
            ∧ t.dyn.expr = 55) := by
  decide +kernel

/-- Spec 06, sample 16 of the same case: the tier rises and Tier(3) is posted. -/
theorem test_tier_posted :
    let s := withDynamics (fun y => { y with level := 22528, winSum := 63000, winPos := 7, holdOffLeft := 34 }) worked
    let t := after (.sampleArrival 7000) (s.setLane 1 (live []))
    t.dyn.level = 24576 ∧ t.dyn.holdOffLeft = 33 ∧ t.dyn.lastCode = some 3 ∧ t.lanes[(1 : LaneNo)].queue.head? = some (.tier 3)
      ∧ t.ntu.slots[(10 : Fin 13)] = some ⟨.tier 3, 0⟩ := by
  decide +kernel

/-- Spec 06, "F16 settling after the player stops": samples 1, 3 and 6. -/
theorem test_f16_settles : smoothStep 3 0 20 = 17 ∧ smoothStep 3 0 14 = 12 ∧ smoothStep 3 0 8 = 7 := by decide

/-- Spec 06, "Swell decisions on four lanes". -/
theorem test_swell_decisions :
    let s := withDynamics (fun y => { y with expr := 40, lastSwell := ⟨#[36, 39, 30, 30], rfl⟩ }) State.reset
    let s := ((s.setLane 0 (live [.silence])).setLane 1 (live [.silence])).setLane 2
      (waits [.silence, .swell 30, .silence] [] 0 none) |>.setLane 3 (live (List.replicate 32 .silence))
    let t := allLanes.foldl postSwell s
    t.dyn.lastSwell = ⟨#[40, 39, 40, 30], rfl⟩ ∧ t.lanes[(0 : LaneNo)].queue = [.silence, .swell 40]
      ∧ t.lanes[(1 : LaneNo)].queue = [.silence] ∧ t.lanes[(2 : LaneNo)].queue = [.silence, .swell 40, .silence] := by
  decide +kernel

/-- Spec 06, "Narrowing the bounds": floor 8192, ceil 30000, the other settings as after power-on. -/
theorem test_setDynamics :
    let s := withDynamics (fun y => { y with
      level := 40000, winPos := 5, winSum := 41000, holdOffLeft := 12, lastCode := some 4 }) (lanesUp State.reset)
    let t := after (.setDynamics 0 [4, 0x17, 0x70, 5, 0xDC, 4, 0, 2, 0, 0, 0, 0x7F, 0xFF, 0, 0, 0, 0x20, 0, 0x75, 0x30]) s
    t.dyn.level = 30000 ∧ t.dyn.winSum = 0 ∧ t.dyn.winPos = 0 ∧ t.dyn.holdOffLeft = 0 ∧ t.dyn.lastCode = some 3
      ∧ t.dyn.settings = { State.reset.dyn.settings with floor := 8192, ceil := 30000 }
      ∧ t.lanes[(3 : LaneNo)].queue = [.tier 3] := by
  decide +kernel

/-- Spec 06, "A tier map loaded over a sounding level", first row: lane 2 discards the record. -/
theorem test_loadTierMap :
    let s := withTierMap ⟨#[1, 1, 2, 3, 4, 5, 6, 6], rfl⟩
      (withDynamics (fun y => { y with level := 24576, lastCode := some 3 }) State.reset)
    let s := ((s.setLane 0 (live [])).setLane 1 (live [])).setLane 2 (waits (filler 32) [] 20 (some 0))
    let t := after (.loadTierMap 0 [0, 2, 4, 6, 8, 10, 12, 14]) s
    t.dyn.lastCode = none ∧ t.lanes[(0 : LaneNo)].queue = [.tier 6] ∧ t.lanes[(2 : LaneNo)].queue = filler 32
      ∧ t.lanes[(3 : LaneNo)].queue = [] ∧ t.ntu.slots[(10 : Fin 13)] = some ⟨.tier 6, 0⟩ := by
  decide +kernel

/-- R120: s = 7, G = 512, Xdelta = 32; Xdelta 33 is refused. -/
theorem test_setExpression :
    (after (.setExpression 0 [7, 2, 0, 32]) State.reset).dyn.settings
        = { State.reset.dyn.settings with smooth := 7, gain := 512, swellStep := 32 }
      ∧ replyOf (after (.setExpression 0 [7, 2, 0, 33]) State.reset) = [0x03] := by
  decide +kernel

/-- R122: the reply carries L as written and the tier code: 65535 is tier 7. -/
theorem test_setLevel : replyOf (after (.setLevel 0 [0xFF, 0xFF]) State.reset) = [0, 0xFF, 0xFF, 7] := by decide +kernel

/-! ## Overrides and silencing (spec 07) -/

/-- The stack of spec 07, "A cascade through a deferred release", at step 6, with scene 5 in force. -/
def cascade : State :=
  let s := (State.reset.setScene 3 (validScene (trebleLayer 3 1 0 false))).setScene 5 (validScene (trebleLayer 5 1 0 false))
  let s := s.setLive { s.sst.live with origin := some 5, settings := ⟨4, 0, 9, .bisonoric, .unisonoric⟩ }
  s.setStack
    [⟨6, false, false, some 5, ⟨4, 0, -3, .bisonoric, .unisonoric⟩⟩,
     ⟨1, true, false, some 5, ⟨0, 0, 2, .unisonoric, .unisonoric⟩⟩,
     ⟨0, true, true, some 3, ⟨0, 0, 0, .unisonoric, .unisonoric⟩⟩]

/-- Spec 07, "A cascade through a deferred release", step 6: three entries popped, scene 3 restored. -/
theorem test_popOverride :
    let t := after (.popOverride 0 [6]) cascade
    replyOf t = [0, 3, 0] ∧ t.stack = [] ∧ t.sst.live.origin = some 3
      ∧ t.sst.live.settings = ⟨0, 0, 0, .unisonoric, .unisonoric⟩
      ∧ replyOf (after (.popOverride 0 [5]) cascade) = [0x05] := by
  decide +kernel

/-- The same case with scene 3 begun again: scene 0 is not VALID, so the part halts with outcome 2. -/
theorem test_popOverride_halts :
    let t := after (.popOverride 0 [6]) (cascade.setScene 3 { Scene.blank with state := .loading })
    replyOf t = [0, 3, 2] ∧ t.slc.part = .halted ∧ t.slc.enable = false ∧ t.stack = [] ∧ t.sst.live.origin = some 5
      ∧ t.ntu.slots[(6 : Fin 13)] = some ⟨.override .fallback 6, 0⟩ ∧ t.ntu.slots[(1 : Fin 13)] = some ⟨.halted, 0⟩ := by
  decide +kernel

/-- Spec 07, the same case, steps 2 and 3: the delta +12 is added to −3, and the depth answered is 3; a tag that is on
the stack is a DUPLICATE. -/
theorem test_pushOverride :
    let s := State.reset.setStack (cascade.stack.drop 1)
    let s := s.setSettings ⟨4, 0, -3, .bisonoric, .unisonoric⟩
    (let t := after (.pushOverride 0 [6, 0xFF, 0xFF, 0xFF, 12, 0xFF, 0xFF]) s;
      replyOf t = [0, 3] ∧ t.sst.live.settings.transpose = 9
        ∧ t.stack.head? = some ⟨6, false, false, none, ⟨4, 0, -3, .bisonoric, .unisonoric⟩⟩)
      ∧ replyOf (after (.pushOverride 0 [6, 0xFF, 0xFF, 0xFF, 12, 0xFF, 0xFF]) cascade) = [0x06] := by
  decide +kernel

/-- Spec 07, "Override switch release and push in one pass": the buried entry is marked, and the re-hold clears it. -/
theorem test_switch_rehold :
    let s := State.reset.setStack [⟨6, false, false, none, .cleared⟩, ⟨2, false, false, none, .cleared⟩]
    (switchRelease 2 s).stack.map StackEntry.released = [false, true]
      ∧ (switchPush 2 (switchRelease 2 s)).stack = s.stack := by
  decide +kernel

/-- Spec 07, "Hush, nested": step 1 with a voice sounding, step 5 with its button held. -/
theorem test_hush_nested :
    let s := setLiveLayer 0 (trebleLayer 0 1 0 false) (key20 (lanesUp State.reset))
    (let t := hushPart (s.setVoice 0 (sounding 0 60 1 1 [20] 0));
      t.slc.enable = false ∧ t.slc.shadow = true ∧ t.vtb.voices[(0 : Slot)].state = .free ∧ t.vtb.voicedAs[20] = none)
      ∧ (let t := after (.unmute 0 []) ((s.setVoicedAs [20] none).setSlc { s.slc with enable := false, shadow := false });
          replyOf t = [0, 1, 1] ∧ t.vtb.voices[(0 : Slot)] = sounding 0 60 1 1 [20] 0
            ∧ t.vtb.voicedAs[20] = some .push) := by
  decide +kernel

/-- R135's table: Hush, then Unhush and Mute, from E = 1 with S = 0. -/
theorem test_enable_pair :
    let s := State.reset.setSlc { State.reset.slc with shadow := false }
    replyOf (after (.hush 0 []) s) = [0, 0, 1] ∧ replyOf (after (.unhush 0 []) s) = [0, 0, 0]
      ∧ replyOf (after (.mute 0 []) State.reset) = [0, 0, 0] := by
  decide +kernel

/-- The part of spec 11.6, "A panic while a lane is stalled". -/
def stalled : State :=
  let s := ((State.reset.setVoice 4 (sounding 0 60 1 3 [20] 0)).setVoice 7 (owedVoice 2 0)).setVoice 9
    (sounding 0 61 1 8 [21] 0)
  let s := s.setLane 0 (live [.swell 1, .tier 1, .stop 30])
  (s.setLane 1 (waits (.start 4 0 60 2 :: filler 31) [7] 10 (some 240))).setLane 3 (live [])

/-- Spec 11.6: the Panic at time 0; lane 1's timer runs on. -/
theorem test_panic :
    let t := after (.panic 0 []) stalled
    replyOf t = [0, 0, 0, 11] ∧ t.lanes[(0 : LaneNo)].queue = [.swell 1, .silence, .tier 2, .swell 0]
      ∧ t.lanes[(1 : LaneNo)].queue = [.silence, .tier 2, .swell 0] ∧ t.lanes[(1 : LaneNo)].owed = []
      ∧ t.lanes[(1 : LaneNo)].stall = some 240 ∧ t.lanes[(3 : LaneNo)].sending = true
      ∧ t.vtb.voices[(4 : Slot)].state = .free ∧ t.vtb.voices[(7 : Slot)].state = .free
      ∧ t.vtb.voices[(9 : Slot)].state = .free := by
  decide +kernel

/-- R137: a Panic that finds a Silence in transmission marks its lane, and no other that joins; a queued one is replaced. -/
theorem test_panic_marks :
    let s := (State.reset.setLane 0 (live [.silence, .tier 2])).setLane 2 (live [.tier 2, .silence])
    let t := after (.panic 0 []) (s.setSlc { s.slc with pending := 4, stale := 4 })
    t.slc.pending = 5 ∧ t.slc.stale = 1 ∧ t.lanes[(0 : LaneNo)].queue = [.silence, .silence, .tier 2, .swell 0]
      ∧ t.lanes[(2 : LaneNo)].queue = [.tier 2, .silence, .tier 2, .swell 0] := by
  decide +kernel

/-- Fields out of range, each of the last test of its rule: a TREBLE row mask (R40), a tier code (R41, R121), a delta
(R58), a switch tag (R131), Td above Tu (R118). -/
theorem test_out_of_range :
    (∀ i ∈ [Instr.loadLayer 0 [4, 2, 0, 3, 0, 1, 0, 9, 1, 0, 0, 127, 2, 1],
        .setSceneDefaults 0 [4, 0, 0, 0, 0, 0, 0, 1, 2, 3, 4, 5, 6, 16], .loadTierMap 0 [0, 1, 2, 3, 4, 5, 6, 16],
        .loadOverride 0 [0, 0xFF, 0xFF, 0xFF, 25, 0xFF, 0xFF], .pushOverride 0 [3, 0xFF, 0xFF, 0xFF, 0, 0xFF, 0xFF],
        .setDynamics 0 [4, 0, 5, 0, 6, 0, 0, 0, 0, 0, 0, 0, 0, 0, 0, 0, 0, 0, 0, 0]],
      replyOf (after i State.reset) = [0x03]) := by
  decide +kernel

/-! ## The voice lanes (spec 08) -/

/-- Spec 08, "A queue from press to release": steps 3, 4, 5 and 8, on the lane. -/
theorem test_queue_from_press_to_release :
    let l := waits [.start 3 0 60 2, .start 4 0 62 2, .swell 20] [] 20 (some 5)
    l.takeSwell 24 = some { l with queue := [.start 3 0 60 2, .start 4 0 62 2, .swell 24] }
      ∧ l.withdraw 3 = some { l with queue := [.start 4 0 62 2, .swell 20] }
      ∧ { l with ready := true }.beginOrWait = { l with ready := true, sending := true, stall := none }
      ∧ (live [.swell 24, .tier 3]).takeSwell 30 = some (live [.swell 24, .tier 3, .swell 30]) := by
  decide +kernel

/-- Spec 08, "A full queue and two owed Stops", steps 1 to 3: 31 records refuse a Start and take a Stop; 32 refuse it. -/
theorem test_full_queue :
    let l := waits (filler 31) [] 0 none
    l.acceptStart (.start 1 0 60 2) = none ∧ l.acceptStop 9 = some { l with queue := filler 31 ++ [.stop 9] }
      ∧ (waits (filler 32) [] 0 none).acceptStop 14 = none
      ∧ (waits (filler 27) [] 0 none).acceptStart (.start 1 0 60 2) ≠ none
      ∧ (waits (filler 28) [] 0 none).acceptStart (.start 1 0 60 2) = none := by
  decide +kernel

/-- The same case, step 5: the completion takes the owed Stop, and voice 14 is FREE. -/
theorem test_recordCompletion_owed :
    let s := State.reset.setVoice 14 (owedVoice 4 0)
    let t := after (.recordCompletion 2) (s.setLane 2 { live (filler 32) with owed := [14] })
    t.lanes[(2 : LaneNo)].queue = filler 31 ++ [.stop 14] ∧ t.lanes[(2 : LaneNo)].owed = []
      ∧ t.lanes[(2 : LaneNo)].sending = true ∧ t.vtb.voices[(14 : Slot)].state = .free := by
  decide +kernel

/-- R152 and spec 07, "Panic over four lanes", step 2: a CLOSING lane is OFF after its last Silence, and leaves the
pending set. -/
theorem test_recordCompletion_closing :
    let s := State.reset.setSlc { State.reset.slc with pending := 3 }
    let t := after (.recordCompletion 1) (s.setLane 1 { live [.silence] with state := .closing })
    t.lanes[(1 : LaneNo)].state = .off ∧ t.slc.pending = 1 ∧ t.ntu.slots[(4 : Fin 13)] = none := by
  decide +kernel

/-- R151, R154: a rise begins the waiting head and stops the timer; a fall with a record waiting starts it. -/
theorem test_ready :
    (after (.readyRise 1) (State.reset.setLane 1 (waits [.swell 44] [] 5 (some 199)))).lanes[(1 : LaneNo)]
        = { live [.swell 44] with timeout := 5 }
      ∧ (after (.readyFall 1) (State.reset.setLane 1 (live [.swell 44]))).lanes[(1 : LaneNo)]
        = { live [.swell 44] with ready := false } := by
  decide +kernel

/-- Spec 08, "A stall and a reset", at 80 ms: DEAD and empty, voice 2 FREE, LANE_DEAD raised. -/
theorem test_stallExpiry :
    let s := (State.reset.setVoice 2 (owedVoice 2 0)).setLane 1 (waits [.swell 44] [2] 5 (some 200))
    let t := after (.stallExpiry 1) s
    t.lanes[(1 : LaneNo)] = { waits [] [] 5 none with state := .dead } ∧ t.vtb.voices[(2 : Slot)].state = .free
      ∧ t.ntu.slots[(2 : Fin 13)] = some ⟨.laneDead 1, 0⟩ := by
  decide +kernel

/-- R161, a RESET_LANE that arrives at the same moment, RESET_LANE first: the stall timer is restarted, and the lane that
was about to expire is LIVE after the expiry that then does not occur. -/
theorem test_stallExpiry_after_resetLane :
    let s := State.reset.setLane 1 (waits [.swell 44] [2] 5 (some 200))
    let t := after (.stallExpiry 1) (after (.resetLane 0 [1]) s)
    t.lanes[(1 : LaneNo)] = waits [.silence, .tier 2, .swell 0] [] 5 (some 0)
      ∧ t.ntu.slots[(2 : Fin 13)] = none := by
  decide +kernel

/-- Spec 11.6 at 40 ms: lane 1, the last of the silence-pending set, stalls: LANE_DEAD and SILENCE_DONE are raised. -/
theorem test_stallExpiry_silenceDone :
    let s := State.reset.setSlc { State.reset.slc with pending := 2 }
    let t := after (.stallExpiry 1) (s.setLane 1 (waits [.silence, .tier 2, .swell 0] [] 10 (some 400)))
    t.slc.pending = 0 ∧ t.ntu.slots[(2 : Fin 13)] = some ⟨.laneDead 1, 0⟩
      ∧ t.ntu.slots[(4 : Fin 13)] = some ⟨.silenceDone, 0⟩ := by
  decide +kernel

/-- The same case at 100 ms, ready asserted: the Silence is sent at once, with Tier and Swell behind it. -/
theorem test_resetLane :
    let s := State.reset.setLane 1 { live [] with state := .dead, timeout := 5 }
    (after (.resetLane 0 [1]) s).lanes[(1 : LaneNo)] = { live [.silence, .tier 2, .swell 0] with timeout := 5 }
      ∧ replyOf (after (.resetLane 0 [0]) s) = [0x04] := by
  decide +kernel

/-- R157, R158: enable on an OFF lane makes it LIVE with a Silence; on a DEAD lane it is refused and T stays 20 (log
entry 17). -/
theorem test_setLane :
    (let t := after (.setLane 0 [0, 1, 7]) State.reset;
      replyOf t = [0, 1] ∧ t.lanes[(0 : LaneNo)] = waits [.silence, .tier 2, .swell 0] [] 7 (some 0))
      ∧ (let t := after (.setLane 0 [1, 1, 7]) (State.reset.setLane 1 { live [] with state := .dead });
          replyOf t = [0x04] ∧ t.lanes[(1 : LaneNo)].timeout = 20) := by
  decide +kernel

/-- R160: lane 2's block with an owed list of two. -/
theorem test_readLanes :
    replyOf (after (.readLanes 0 []) (State.reset.setLane 2 (waits (filler 32) [2, 7] 5 (some 0))))
      = [0, 0, 0, 0, 0, 20, 0, 0, 0, 0, 0, 20, 0, 1, 32, 0, 0, 5, 2, 2, 7, 0, 0, 0, 0, 20, 0] := by
  decide +kernel

/-- R162's examples: a Start for voice 12, program 1000, pitch 61 and tier code 3, and a Stop for voice 12. -/
theorem test_lane_records :
    (LaneRecord.start 12 1000 61 3).wire = [0x93, 0x0C, 0x07, 0x68, 0x3D]
      ∧ (LaneRecord.stop 12).wire = [0x80, 0x0C] ∧ LaneRecord.silence.wire = [0xF0]
      ∧ (LaneRecord.swell 40).wire = [0xB0, 40] ∧ (LaneRecord.tier 3).wire = [0xC0, 3] := by
  decide +kernel

/-! ## The message link (spec 09) -/

/-- Spec 09, "A request and its reply on the line": the six bytes of the request, and of the reply. -/
theorem test_request_and_reply_bytes :
    let t := after (.receiveBadFrame ([0xC3, 0x03, 0x11, 0x21, 0x03, 0xC8].map goodByte)) idle
    t.sst.live.settings.transpose = 3
      ∧ t.mlk.reply.map Frame.wire = some [0xC3, 0x03, 0x91, 0x21, 0x00, 0x4B]
      ∧ t.mlk.output = .sendingReply ⟨0x91, 0x21, [0]⟩ ∧ t.mlk.rx = .hunt := by
  decide +kernel

/-- R167: a bad check drops the frame and counts it; so does a gap after a length byte. -/
theorem test_bad_frames :
    (let t := after (.receiveBadFrame ([0xC3, 0x03, 0x11, 0x21, 0x03, 0xC9].map goodByte)) idle;
      t.mlk.badFrames = 1 ∧ t.mlk.reply = none ∧ t.mlk.rx = .hunt)
      ∧ (after (.receiveBadFrame ([0xC3, 0x01].map goodByte)) idle).mlk.badFrames = 1
      ∧ (after (.receiveBadFrame ([0xC3, 0xFB].map goodByte)) idle).mlk.badFrames = 1 := by
  decide +kernel

/-- R167: 2 ms without a byte drop an unfinished frame; in HUNT, and before 2 ms have passed, nothing is dropped. -/
theorem test_gapTimeout : (after (.gapTimeout ([0xC3, 0x03, 0x11].map goodByte)) idle).mlk.badFrames = 1
    ∧ (after (.gapTimeout []) idle).mlk.badFrames = 0
    ∧ (after (.gapTimeout []) (after (.receiveBadFrame [goodByte 0xC3]) idle)).mlk.badFrames = 0 := by
  decide +kernel

/-- Spec 09, "The check order at work". -/
theorem test_check_order :
    replyOf (after (.unknownKindRequest 0x07 0 []) halted) = [0x01]
      ∧ replyOf (after (.loadLayer 0 (List.replicate 13 20)) halted) = [0x02]
      ∧ replyOf (after (.loadLayer 0 (List.replicate 14 20)) halted) = [0x07]
      ∧ replyOf (after (.readVoices 0 [60]) halted) = [0x03] := by
  decide +kernel

/-- R170: a request of kind 0x80 or above is answered with kind 0xFF. -/
theorem test_unknown_high_kind :
    (after (.unknownKindRequest 0x91 5 [1]) State.reset).mlk.reply = some ⟨0xFF, 5, [0x01]⟩ := by
  decide +kernel

/-- Spec 09, "A notice, a reply and a discarded request": the Get Status during the reply, and the end of the reply. -/
theorem test_discard_and_completion :
    (let t := after (.frameDiscard 0x02 1 []) answering;
      t.mlk.discards = 1 ∧ t.mlk.reply = answering.mlk.reply)
      ∧ (let t := after .hostFrameCompletion ((answering.setNtu { answering.ntu with mask := 0 }).raise (.tier 3));
          t.mlk.reply = none ∧ t.mlk.output = .sendingNotice ⟨0x6A, 0, [0, 3]⟩
            ∧ t.ntu.slots[(10 : Fin 13)] = none) := by
  decide +kernel

/-- R174, R175: the reply is 13 bytes, the reset cause last. -/
theorem test_getIdentity :
    replyOf (after (.getIdentity 0x40 []) State.reset) = [0, 0x5A, 0x48, 1, 48, 16, 8, 4, 4, 1, 0, 8, 0] := by
  decide +kernel

/-- R177, R178: the status of the part after power-on with two bad frames and BUTTON pending; the counts are cleared. -/
theorem test_getStatus :
    let t := after (.getStatus 0 []) ((State.reset.setMlk { State.reset.mlk with badFrames := 2 }).raise (.button 9 true))
    replyOf t = [0, 0, 1, 1, 0, 0xFF, 0, 0xFF, 0, 0xFF, 0, 0xFF, 0, 0, 0, 0, 0, 0, 0, 0, 0, 0, 0, 0, 0, 0, 0, 0, 0, 0,
        0, 2, 0, 1, 0x6B] ∧ t.mlk.badFrames = 0 := by
  decide +kernel

/-- Spec 09, "A restart observed from the host", step 1: PLAYING again, the reply of kind 0x83 being sent, IDENTITY
pending with the cause RESTART, BUTTON cleared, and a LIVE lane with its Silence and resynchronisation. -/
theorem test_restart :
    let s := (halted.setLane 1 (live [])).raise (.button 9 true)
    let t := after (.restart 0x40 []) (s.setMlk { s.mlk with output := .idle, badFrames := 2 })
    t.slc.part = .playing ∧ t.mlk.output = .sendingReply ⟨0x83, 0x40, [0]⟩ ∧ t.mlk.badFrames = 0
      ∧ t.ntu.slots[(0 : Fin 13)] = some ⟨.identity .restart, 0⟩ ∧ t.ntu.slots[(11 : Fin 13)] = none
      ∧ t.lanes[(1 : LaneNo)] = live [.silence, .tier 2, .swell 0] := by
  decide +kernel

/-- R55, R163: after power-on the CUE pin decides the detector, and every lane is OFF with T = 20. -/
theorem test_powerOnReset :
    let s := State.reset.setSst { State.reset.sst with cuePin := true }
    let t := after .powerOnReset (s.setLane 1 (live (filler 3)))
    t.sst.detector = .waitFall ∧ t.lanes[(1 : LaneNo)] = { Lane.powerOn with ready := true } := by
  decide +kernel

/-- R181: a byte 0xC3 in the middle of reception when reset ends is no marker; the next one is. -/
theorem test_byte_over_reset :
    let b : RxByte := { goodByte 0xC3 with overReset := true }
    (after (.receiveBadFrame [b]) State.reset).mlk.rx = .hunt
      ∧ (after (.receiveBadFrame [b, goodByte 0xC3]) State.reset).mlk.rx = .length := by
  decide +kernel

/-! ## Notices and metering (spec 10) -/

/-- Spec 10, "A burst of losses while the line is busy": steps 1 and 2 on the VOICE_LOSS slot. -/
theorem test_coalesce :
    ((State.reset.raise (.voiceLoss .stolen (some 9) 40)).raise (.voiceLoss .dropped none 41)).ntu.slots[(8 : Fin 13)]
      = some ⟨.voiceLoss .dropped none 41, 1⟩ := by
  decide +kernel

/-- Spec 10, "Unmasking after a run of buttons": the reply goes first; then REVERSAL, PUSH, with count 1. -/
theorem test_setNoticeMask :
    let s := ((idle.raise (.reversal .pull)).raise (.reversal .push)).raise (.button 240 true)
    let t := after (.setNoticeMask 0 [4, 0]) s
    t.mlk.output = .sendingReply ⟨0x84, 0, [0, 4, 0]⟩
      ∧ (after .hostFrameCompletion t).mlk.output = .sendingNotice ⟨0x69, 0, [1, 0]⟩
      ∧ replyOf (after (.setNoticeMask 0 [0, 2]) idle) = [0x03] := by
  decide +kernel

/-- The part of spec 10, "A snapshot of the worked level". -/
def metered : State :=
  let s := withDynamics (fun y => { y with level := 22528, average := 7700, expr := 55 }) worked
  s.setNtu { s.ntu with interval := 100, items := [0, 2, 3, 4, 6], meterTimer := some 400 }

/-- Spec 10, "A snapshot of the worked level": the thirteen bytes (22528 = 0x5800, 7700 = 0x1E14), and the frame. -/
theorem test_meter_snapshot :
    replyOf (after (.readMeter 0 []) metered) = [0, 5, 0, 0x58, 0, 2, 2, 3, 55, 4, 0x1E, 0x14, 6, 0]
      ∧ (let t := after .meterExpiry (metered.setMlk { metered.mlk with output := .idle });
          t.mlk.output = .sendingNotice ⟨0x6C, 0, [0, 5, 0, 0x58, 0, 2, 2, 3, 55, 4, 0x1E, 0x14, 6, 0]⟩
            ∧ t.ntu.meterTimer = some 0) := by
  decide +kernel

/-- R187: I = 10 with two items is stored; I = 9 is refused, and no item is a bad length. -/
theorem test_setMeter :
    (let t := after (.setMeter 0 [0, 10, 7, 7]) State.reset;
      t.ntu.interval = 10 ∧ t.ntu.items = [7, 7] ∧ t.ntu.meterTimer = some 0)
      ∧ replyOf (after (.setMeter 0 [0, 9, 7]) State.reset) = [0x03]
      ∧ replyOf (after (.setMeter 0 [0, 10]) State.reset) = [0x02] := by
  decide +kernel

/-! ## One step -/

/-- The step takes the front command; with none waiting, time passes, or a due expiry is taken (log entry 3). -/
theorem test_step :
    (let t := nextOf (step { State.reset with pending := [.cueLineRise, .cueLineFall] });
      t.pending = [.cueLineFall] ∧ t.sst.detector = .qualifying)
      ∧ (nextOf (step State.reset)).bfe.lossTimer = some 1
      ∧ (nextOf (step (withBellows (fun b => { b with lossTimer := some 80 }) State.reset))).bfe.lost = true := by
  decide +kernel

/-! ## Witnesses: each obligation's hypotheses are met together, clause by clause -/

theorem witness_StepRunsFrontCommand :
    ({ State.reset with pending := [.cueLineRise] } : State).pending = .cueLineRise :: [] := by decide

theorem witness_IdleStepIsTheTimebase :
    State.reset.pending = []
      ∧ (withBellows (fun b => { b with lossTimer := some 79 }) State.reset).dueExpiries = []
      ∧ (withBellows (fun b => { b with lossTimer := some 80 }) State.reset).dueExpiries = [.streamLossTimeout]
      ∧ (State.reset.setSst { State.reset.sst with qualTimer := some 4 }).dueExpiries = [.cueQualificationExpiry]
      ∧ (State.reset.setMlk { State.reset.mlk with gapTimer := some 8 }).dueExpiries = [.gapTimeout []]
      ∧ (metered.setNtu { metered.ntu with meterTimer := some 399 }).dueExpiries = []
      ∧ metered.dueExpiries = [.meterExpiry]
      ∧ (State.reset.setLane 3 (waits [.silence] [] 1 (some 40))).dueExpiries = [.stallExpiry 3] := by
  decide +kernel

theorem witness_FrameDiscardedWhileReplyWaits : answering.mlk.reply.isSome = true := by decide

theorem witness_ChecksComeInOrder :
    State.reset.mlk.reply = none ∧ (0x07 : Byte).toNat ∉ requestKinds ∧ (0xFF : Byte).toNat ∉ requestKinds
      ∧ (0x05 : Byte).toNat ∈ requestKinds ∧ lengthAdmitted 0x05 2 = false ∧ lengthAdmitted 0x05 11 = false
      ∧ lengthAdmitted 0x09 132 = false ∧ halted.mlk.reply = none ∧ halted.slc.part = .halted
      ∧ (0x09 : Byte).toNat ∉ haltedKinds ∧ lengthAdmitted 0x09 4 = true ∧ lengthAdmitted 0x09 128 = true := by
  decide

theorem witness_RefusedRequestChangesNothing : State.reset.mlk.reply = none := by decide

theorem witness_FrameBytesDeliverTheRequest :
    (⟨0x11, 0x21, []⟩ : Frame).payload.length ≤ 248 ∧ (⟨0x07, 0, List.replicate 248 0⟩ : Frame).payload.length ≤ 248
      ∧ State.reset.mlk.rx = .hunt := by
  decide +kernel

theorem witness_BadFramesAreDropped :
    State.reset.mlk.rx = .hunt ∧ ((1 : Byte).toNat < 2 ∧ 250 < (251 : Byte).toNat)
      ∧ (2 ≤ ([0x11, 0x21] : List Byte).length ∧ byte 2 + ([0x11, 0x21] : List Byte).sum + 0 ≠ 0)
      ∧ ((List.replicate 250 (0 : Byte)).length ≤ 250 ∧ byte 250 + (List.replicate 250 (0 : Byte)).sum + 0 ≠ 0)
      ∧ (([] : List Byte).length ≤ 2 ∧ ([0x11, 0x21] : List Byte).length ≤ 2)
      ∧ (∀ b ∈ ([⟨0xC3, false, false⟩, goodByte 0xC4] : List RxByte), b ≠ goodByte 0xC3)
      ∧ ({ goodByte 0xC3 with overReset := true } : RxByte).overReset = true
      ∧ (let m := { State.reset.mlk with rx := .length, gapTimer := some 8 };
        (∃ e ∈ m.gapTimer, 8 ≤ e) ∧ m.rx ≠ .hunt ∧ ∀ e ∈ { m with gapTimer := some 7 }.gapTimer, e < 8) := by
  decide +kernel

theorem witness_FrameCompletionChoosesTheNext :
    State.reset.mlk.output ≠ .idle
      ∧ (State.reset.setMlk { State.reset.mlk with reply := some ⟨0x91, 0, [0]⟩ }).mlk.reply = some ⟨0x91, 0, [0]⟩
      ∧ (∀ k : Fin 13, (State.reset.raise (.tier 3)).ntu.slots[k].isSome = true →
          2 ≤ k.val ∧ (State.reset.raise (.tier 3)).ntu.mask.getLsbD k.val = true)
      ∧ ((State.reset.raise .halted).ntu.slots[(1 : Fin 13)] = some ⟨.halted, 0⟩ ∧ Notice.halted.kindIndex = 1)
      ∧ (((State.reset.raise (.tier 3)).raise (.meter [])).ntu.slots[(12 : Fin 13)] = some ⟨.meter [], 0⟩
        ∧ ¬ (2 ≤ (12 : Fin 13).val ∧ State.reset.ntu.mask.getLsbD 12 = true)
        ∧ ∀ j : Fin 13, j < 12 → ((State.reset.raise (.tier 3)).raise (.meter [])).ntu.slots[j].isSome = true →
            2 ≤ j.val ∧ State.reset.ntu.mask.getLsbD j.val = true) := by
  decide +kernel

theorem witness_RaiseFillsOrCoalesces :
    (Notice.identity .power).kindIndex = 0 ∧ (Notice.meter []).kindIndex = 12
      ∧ State.reset.ntu.slots[(0 : Fin 13)] = none := by
  decide

theorem witness_GetIdentityReportsTheRecord :
    State.reset.mlk.reply = none ∧ ([0] : List Byte) ≠ [] ∧ ([] : List Byte) = [] := by decide

theorem witness_GetStatusReportsAndClearsCounts : cascade.mlk.reply = none ∧ cascade.stack.length ≤ 4
    ∧ (State.reset.setStack (cascade.stack ++ [⟨7, false, false, none, .cleared⟩])).stack.length ≤ 4 := by
  decide

theorem witness_RestartClearsAndKeeps :
    stalled.mlk.reply = none ∧ stalled.lanes[(2 : LaneNo)].state = .off ∧ stalled.lanes[(1 : LaneNo)].state ≠ .off := by
  decide +kernel

theorem witness_ScanPassDebounces :
    (∀ e ∈ { State.reset.bsc with passTimer := some 3 }.passTimer, e < State.reset.bsc.interval)
      ∧ ∃ e ∈ { State.reset.bsc with passTimer := some 4 }.passTimer, State.reset.bsc.interval ≤ e := by
  decide

/-- D = 3: a press that stands at count 1 does not flip, and neither does an agreeing reading; at count 2 it flips
alone, as a release does, whatever the role. -/
theorem witness_PassesRouteTheirChanges :
    let r := State.reset.setBsc { State.reset.bsc with passTimer := some 4 }
    let s := setRole 9 (.override 2) (setButton 9 ⟨false, 2⟩ (setPressed 20 r))
    let u := setRole 9 .hush (setButton 9 ⟨true, 2⟩ r)
    (∃ e ∈ s.bsc.passTimer, s.bsc.interval ≤ e) ∧ (∃ e ∈ u.bsc.passTimer, u.bsc.interval ≤ e)
      ∧ (∀ x : Crosspoint, (readings [9]).getLsbD x.val = (setButton 9 ⟨false, 1⟩ State.reset).bsc.buttons[x].pressed
        ∨ (setButton 9 ⟨false, 1⟩ State.reset).bsc.buttons[x].count + 1
          ≠ (setButton 9 ⟨false, 1⟩ State.reset).bsc.depth)
      ∧ (s.slc.part = .playing ∧ (readings [9]).getLsbD 9 = true ∧ s.bsc.buttons[(9 : Crosspoint)].pressed = !true
        ∧ s.bsc.buttons[(9 : Crosspoint)].count + 1 = s.bsc.depth ∧ s.bsc.roles[(9 : Crosspoint)] = .override 2
        ∧ s.bsc.groupOcc[(2 : Fin 4)] = 0
        ∧ ∀ y : Crosspoint, y ≠ 9 → (readings [9]).getLsbD y.val = s.bsc.buttons[y].pressed
          ∨ s.bsc.buttons[y].count + 1 ≠ s.bsc.depth)
      ∧ (u.slc.part = .playing ∧ (readings []).getLsbD 9 = false ∧ u.bsc.buttons[(9 : Crosspoint)].pressed = !false
        ∧ u.bsc.buttons[(9 : Crosspoint)].count + 1 = u.bsc.depth ∧ u.bsc.roles[(9 : Crosspoint)] = .hush
        ∧ (u.setBsc { u.bsc with hushOcc := 1 }).bsc.hushOcc = 1
        ∧ ∀ y : Crosspoint, y ≠ 9 → (readings []).getLsbD y.val = u.bsc.buttons[y].pressed
          ∨ u.bsc.buttons[y].count + 1 ≠ u.bsc.depth)
      ∧ halted.slc.part = .halted := by
  decide +kernel

/-- A pass with two releases and two presses: the lists are ascending. -/
theorem witness_PassesRouteTheirChanges_order :
    let s := State.reset.setBsc { State.reset.bsc with passTimer := some 5 }
    let s := setButton 33 ⟨true, 2⟩ (setButton 7 ⟨true, 2⟩ (setButton 9 ⟨false, 2⟩ (setButton 2 ⟨false, 2⟩ s)))
    let flips : Crosspoint → Bool := fun x => (readings [9, 2]).getLsbD x.val != s.bsc.buttons[x].pressed
      && s.bsc.buttons[x].count + 1 == s.bsc.depth
    (∃ e ∈ s.bsc.passTimer, s.bsc.interval ≤ e)
      ∧ ((List.finRange 256).filter fun x => flips x && s.bsc.buttons[x].pressed) = [7, 33]
      ∧ ((List.finRange 256).filter fun x => flips x && !s.bsc.buttons[x].pressed) = [2, 9] := by
  decide +kernel

theorem witness_SetScanStoresAndRestarts :
    State.reset.mlk.reply = none ∧ ([4] : List Byte).length ≠ 2 ∧ halted.slc.part = .halted
      ∧ State.reset.slc.part = .playing ∧ ¬ (1 ≤ (17 : Byte).toNat ∧ (17 : Byte).toNat ≤ 16)
      ∧ ¬ (1 ≤ (0 : Byte).toNat ∧ (0 : Byte).toNat ≤ 15) ∧ (1 ≤ (16 : Byte).toNat ∧ (16 : Byte).toNat ≤ 16)
      ∧ (1 ≤ (15 : Byte).toNat ∧ (15 : Byte).toNat ≤ 15) ∧ (1 ≤ (1 : Byte).toNat ∧ (1 : Byte).toNat ≤ 15) := by
  decide

/-- Role code 8, and key 96 of a TREBLE role, are codings of no role. -/
theorem witness_LoadRolesWritesEntries :
    State.reset.Taking ∧ (setPressed 40 State.reset).bsc.buttons[40].pressed = true
      ∧ (∀ e ∈ List.replicate 32 ((17 : Crosspoint), Role.cue), State.reset.bsc.buttons[e.1].pressed = false)
      ∧ (∀ e : Crosspoint × Role, roleBytes e ≠ [0, 8, 0, 0]) ∧ ∀ e : Crosspoint × Role, roleBytes e ≠ [0, 1, 96, 0] := by
  refine ⟨by decide, by decide +kernel, by decide +kernel, ?_, ?_⟩
  · rintro ⟨x, r⟩; cases r <;> simp [roleBytes]
  · rintro ⟨x, r⟩
    cases r with
    | treble k => simp only [roleBytes, ne_eq, List.cons.injEq, not_and]; intro _ _ h; revert k; decide
    | _ => simp [roleBytes]

theorem witness_FoldKeepsPitchClass : (127 : Int) < 128 ∧ (-1 : Int) < 0 ∧ (0 : Int) ≤ 127 ∧ (127 : Int) ≤ 127 := by
  decide

theorem witness_ExpansionNamesTheEntries :
    (key20 State.reset).bsc.roles[20] = .treble 12 ∧ chordPart.bsc.roles[147] = .bass 5 2
      ∧ chordPart.nex.forms[chordPart.nex.rowForms[(2 : Fin 6)]].length ≤ 4 := by
  decide +kernel

theorem witness_PitchTablesAreLoaded :
    State.reset.Taking ∧ (95 : Fin 96).val + 1 ≤ 96 ∧ (64 : Fin 96).val + 32 ≤ 96 ∧ 96 < (65 : Byte).toNat + 32
      ∧ (19 : Fin 20).val + 1 ≤ 20 ∧ (0 : Fin 20).val + 20 ≤ 20 ∧ 20 < (20 : Byte).toNat + 1
      ∧ 127 < (128 : Byte).toNat ∧ (0 + 1) % 2 = 1 ∧ (30 + 33) % 2 = 1 ∧ 30 + 33 ≤ 63 ∧ (39 + 0) % 2 = 1 := by
  decide

theorem witness_ChordTablesAreLoaded :
    State.reset.Taking ∧ ([36] : List (Fin 37)).length = 1 ∧ ([0, 12, 24, 36] : List (Fin 37)).length ≤ 4
      ∧ 7 < (8 : Byte).toNat ∧ (∃ i ∈ ([0, 37] : List Byte), 36 < i.toNat)
      ∧ ([0, 1, 2, 3, 4, 8] : List Byte).length = 6 ∧ ∃ f ∈ ([0, 1, 2, 3, 4, 8] : List Byte), 7 < f.toNat := by
  decide

theorem witness_SetTransposeWritesTheValue :
    State.reset.mlk.reply = none ∧ ([] : List Byte).length ≠ 1 ∧ halted.slc.part = .halted
      ∧ State.reset.slc.part = .playing ∧ (0xE7 : Byte).toInt < -24 ∧ 24 < (0x19 : Byte).toInt
      ∧ -24 ≤ (0xE8 : Byte).toInt ∧ (0x18 : Byte).toInt ≤ 24 := by
  decide

theorem witness_SetSectionModesWritesBoth :
    State.reset.Taking ∧ State.reset.sst.live.settings.trebleMode = .unisonoric
      ∧ State.reset.sst.live.settings.bassMode = .unisonoric ∧ (∀ x : Crosspoint, State.reset.vtb.voicedAs[x] = none)
      ∧ 1 < (2 : Byte).toNat := by
  decide +kernel

theorem witness_BeginAndEraseClearTheScene :
    State.reset.mlk.reply = none ∧ ([] : List Byte).length ≠ 1 ∧ halted.slc.part = .halted
      ∧ State.reset.slc.part = .playing ∧ 15 < (16 : Byte).toNat ∧ (15 : Byte) = byte (15 : SceneNo).val := by
  decide

/-- A layer at the ends of its ranges, and scenes that are PARTIAL, with and without a layer, and EMPTY. -/
theorem witness_ScenesAreLoadedWhilePartial :
    State.reset.Taking
      ∧ (⟨.bass, 1, 1, 0, 1, 48, 127, 127, 3, false⟩ : Layer).Valid ∧ (trebleLayer 0 1 (-48) false).Valid
      ∧ (loadingScene .blank).sst.library[(4 : SceneNo)].state = .loading
      ∧ State.reset.sst.library[(4 : SceneNo)].state ≠ .loading
      ∧ (∃ i : LayerPos, (loadingScene (validScene (trebleLayer 0 1 0 false))).sst.library[(4 : SceneNo)].layers[i] ≠ none)
      ∧ (∀ i : LayerPos, (loadingScene .blank).sst.library[(4 : SceneNo)].layers[i] = none)
      ∧ (-24 ≤ (⟨0, 0, -24, .unisonoric, .unisonoric⟩ : Settings).transpose) ∧ (24 : Int) ≤ 24 := by
  decide +kernel

/-- The first values beyond the ranges of Load Layer, Set Scene Defaults and Finish Scene. -/
theorem witness_ScenesAreLoadedWhilePartial_range :
    State.reset.Taking ∧ 15 < (16 : Byte).toNat ∧ 7 < (8 : Byte).toNat ∧ 1 < (2 : Byte).toNat ∧ (1 : Byte) ≠ 0
      ∧ 63 < (64 : Byte).toNat ∧ 16383 < (0x40 : Byte).toNat * 256 + (0 : Byte).toNat
      ∧ (0xCF : Byte).toInt < -48 ∧ 48 < (49 : Byte).toInt ∧ 127 < (128 : Byte).toNat ∧ (59 : Byte).toNat < (60 : Byte).toNat
      ∧ 3 < (4 : Byte).toNat ∧ (0xE7 : Byte).toInt < -24 ∧ 24 < (25 : Byte).toInt
      ∧ ([0, 1, 2, 3, 4, 5, 6, 16] : List Byte).length = 8
      ∧ ∃ code ∈ ([0, 1, 2, 3, 4, 5, 6, 16] : List Byte), 15 < code.toNat := by
  decide

theorem witness_CueIsArmedAndCancelled :
    State.reset.Taking ∧ 15 < (16 : Byte).toNat ∧ 7 < (8 : Byte).toNat ∧ (15 : Byte).toNat ≤ 15 ∧ (15 : Byte) ≠ 0
      ∧ (7 : Byte) ≠ 0 ∧ (7 : Byte).toNat ≤ 7 ∧ State.reset.sst.armed = none
      ∧ (armed ⟨6, 8, 1⟩ State.reset).sst.armed ≠ none := by
  decide

theorem witness_FireCueFiresOnce :
    State.reset.Taking ∧ State.reset.sst.armed = none
      ∧ (armed ⟨7, 14, 1⟩ State.reset).sst.armed = some ⟨7, 14, 1⟩ ∧ (14 : BitVec 4).getLsbD 0 = false
      ∧ (15 : BitVec 4).getLsbD 0 = true ∧ State.reset.sst.library[(7 : SceneNo)].state ≠ .valid
      ∧ (State.reset.setScene 7 (validScene (trebleLayer 0 1 0 false))).sst.library[(7 : SceneNo)].state = .valid
      ∧ ((∀ c ∈ State.reset.sst.armed, c.triggers.getLsbD 3 = false) ∧ (14 : BitVec 4).getLsbD 3 = true
        ∧ (14 : BitVec 4).getLsbD 2 = true ∧ (14 : BitVec 4).getLsbD 1 = true ∧ (6 : BitVec 3).getLsbD 0 = false) := by
  decide +kernel

theorem witness_TakeSceneCopiesAllItems :
    State.reset.Taking ∧ State.reset.sst.library[(15 : SceneNo)].state ≠ .valid
      ∧ (State.reset.setScene 15 (validScene (trebleLayer 0 1 0 true))).sst.library[(15 : SceneNo)].state = .valid
      ∧ 15 < (16 : Byte).toNat := by
  decide +kernel

/-- A table with one SOUNDING LIVE voice, its holders given. -/
def oneVoice (holders : List Crosspoint) : State := State.reset.setVoice 3 (sounding 0 60 1 1 holders 0)

/-- A carry layer comes in at position 0, with FREE slots for the join: slot 3 of position 0 is ended, a voice of
position 2 is not of a carry position. -/
theorem witness_TakeSceneCopiesAllItems_carry :
    let s := setLiveLayer 0 (trebleLayer 0 1 0 true) (key20 (oneVoice [20]))
    let s := s.setVoice 5 (sounding 2 60 1 4 [20] 0)
    (s.vtb.voices[(5 : Slot)].state = .sounding ∧ s.sst.live.carriesAt s.vtb.voices[(5 : Slot)].layer = false)
      ∧ s.sst.live.carriesAt 0 = true
      ∧ (((List.finRange 256).filter fun x => s.vtb.voicedAs[x].isSome).flatMap fun x =>
          (s.expand x s.bfe.bd).filter fun e => s.sst.live.carriesAt e.1) = [(0, 60)]
      ∧ 1 ≤ (List.finRange 48).countP (fun v => s.vtb.voices[v].state == .free) := by
  decide +kernel

theorem witness_CueLineDetectorMoves :
    (let c := { State.reset.sst with detector := .qualifying, qualTimer := some 4 };
      c.detector = .qualifying ∧ (∃ e ∈ c.qualTimer, 4 ≤ e)
        ∧ ∀ e ∈ { c with qualTimer := some 3 }.qualTimer, e < 4)
      ∧ (∀ c ∈ State.reset.sst.armed, c.triggers.getLsbD 1 = false)
      ∧ (armed ⟨7, 6, 5⟩ State.reset).sst.armed = some ⟨7, 6, 5⟩ ∧ (6 : BitVec 4).getLsbD 1 = true
      ∧ State.reset.sst.library[(7 : SceneNo)].state ≠ .valid ∧ State.reset.sst.detector ≠ .qualifying := by
  decide

theorem witness_SelectRegisterChangesOneSection :
    State.reset.Taking ∧ State.reset.sst.live.settings.trebleReg = 0 ∧ State.reset.sst.live.settings.bassReg = 0
      ∧ State.reset.sst.live.settings.trebleReg ≠ 15 ∧ State.reset.sst.live.settings.bassReg ≠ 15
      ∧ 1 < (2 : Byte).toNat ∧ 15 < (16 : Byte).toNat := by
  decide

theorem witness_LoadOverrideReplacesTheDefinition :
    State.reset.Taking ∧ -24 ≤ (⟨some 15, none, none, -24, none, none⟩ : OverrideDef).delta
      ∧ (⟨none, some 15, some 0, 24, some .bisonoric, none⟩ : OverrideDef).delta ≤ 24 ∧ 3 < (4 : Byte).toNat := by
  decide

/-- A definition with one byte out of range: the ends of 16 to 254, the first deltas and modes beyond their ranges. -/
theorem witness_definitionOutOfRange :
    (DefinitionOutOfRange 16 0xFF 0xFF 0 0xFF 0xFF ∧ DefinitionOutOfRange 0xFF 0xFE 0 0 0 1)
      ∧ (DefinitionOutOfRange 0xFF 0xFF 16 0 0xFF 0xFF ∧ DefinitionOutOfRange 15 15 15 25 0 1) :=
  ⟨⟨by decide, by decide⟩, by decide, by decide⟩

/-- The same for the delta and the modes, and definitions at the ends of their ranges. -/
theorem witness_definitionOutOfRange_modes :
    (DefinitionOutOfRange 0 0 0 0xE7 0 0 ∧ DefinitionOutOfRange 0 0 0 0 2 0 ∧ DefinitionOutOfRange 0 0 0 0 0 0xFE)
      ∧ ¬ DefinitionOutOfRange 15 15 0xFF 24 1 0xFF ∧ ¬ DefinitionOutOfRange 0xFF 0xFF 15 0xE8 0xFF 1 :=
  ⟨⟨by decide, by decide, by decide⟩, by decide, by decide⟩

theorem witness_EndSettlesEveryLane :
    stalled.vtb.voices[(4 : Slot)].state = .sounding ∧ stalled.vtb.voices[(4 : Slot)].lanes.getLsbD 0 = true
      ∧ stalled.vtb.voices[(4 : Slot)].lanes.getLsbD 2 = false := by
  decide +kernel

/-- A lane that withdraws its one record or one of several; a Stop that joins an empty queue, under ready and not, a
queue of 31, and none of 32. -/
theorem witness_EndSettlesEveryLane_lanes :
    ((waits [.start 4 0 60 2] [] 10 (some 240)).unsent.any (LaneRecord.isStartOf 4) = true
        ∧ (waits [.start 4 0 60 2] [] 10 (some 240)).unsent.eraseP (LaneRecord.isStartOf 4) = [])
      ∧ (waits [.start 4 0 60 2, .tier 1] [] 10 (some 240)).unsent.eraseP (LaneRecord.isStartOf 4) = [.tier 1]
      ∧ (live [.start 4 0 60 2]).unsent.any (LaneRecord.isStartOf 4) = false
      ∧ ((live []).queue = [] ∧ (live []).sending = false ∧ (live []).ready = true ∧ (waits [] [] 0 none).ready = false)
      ∧ (live (filler 31)).queue.length < 32 ∧ ¬ (live (filler 32)).queue.length < 32 := by
  decide +kernel

theorem witness_JoinSharesTheVoice :
    (oneVoice [1, 2, 3, 4, 5]).vtb.LiveDistinct ∧ (oneVoice [1]).vtb.voices[(3 : Slot)].state = .sounding
      ∧ (oneVoice [1]).vtb.voices[(3 : Slot)].origin = .live
      ∧ (20 : Crosspoint) ∉ (oneVoice [1, 2, 3, 4, 5]).vtb.voices[(3 : Slot)].holders
      ∧ (oneVoice [1, 2, 3, 4, 5]).vtb.voices[(3 : Slot)].holders.length < 6
      ∧ 6 ≤ (oneVoice [1, 2, 3, 4, 5, 6]).vtb.voices[(3 : Slot)].holders.length
      ∧ (20 : Crosspoint) ∉ (oneVoice [1, 2, 3, 4, 5, 6]).vtb.voices[(3 : Slot)].holders
      ∧ (6 : Crosspoint) ∈ (oneVoice [1, 2, 3, 4, 5, 6]).vtb.voices[(3 : Slot)].holders
      ∧ (∀ v : Slot, (oneVoice [1]).vtb.voices[v].state = .sounding → (oneVoice [1]).vtb.voices[v].origin = .live →
          ¬ ((oneVoice [1]).vtb.voices[v].layer = 0 ∧ (oneVoice [1]).vtb.voices[v].pitch = 61))
      ∧ (State.reset.slc.part = .playing ∧ State.reset.slc.enable = true)
      ∧ (State.reset.setSlc { State.reset.slc with enable := false }).slc.part = .playing
      ∧ (State.reset.setSlc { State.reset.slc with enable := false }).slc.enable = false := by
  decide +kernel

/-- With slots 0 to 2 not FREE slot 3 is the lowest; with none FREE slot 9 is the candidate, and its end leaves it
FREE, or OWED where lane 1 is full; with priority 0 asked for by nobody above it there is none. -/
theorem witness_AllocationFillsOrSteals :
    fullTable.sst.live.layers[(0 : LayerPos)] = some (trebleLayer 0 1 0 false)
      ∧ (State.reset.vtb.voices[(0 : Slot)].state = .free)
      ∧ (∀ v : Slot, fullTable.vtb.voices[v].state ≠ .free)
      ∧ fullTable.vtb.voices[(9 : Slot)].state = .sounding
      ∧ fullTable.vtb.voices[(9 : Slot)].priority ≤ (trebleLayer 0 1 0 false).priority
      ∧ (∀ w : Slot, w ≠ 9 → fullTable.vtb.voices[w].state = .sounding →
          fullTable.vtb.voices[(9 : Slot)].priority < fullTable.vtb.voices[w].priority
            ∨ (fullTable.vtb.voices[(9 : Slot)].priority = fullTable.vtb.voices[w].priority
              ∧ ((fullTable.vtb.seqCounter - fullTable.vtb.voices[w].startSeq).toNat
                    < (fullTable.vtb.seqCounter - fullTable.vtb.voices[(9 : Slot)].startSeq).toNat
                ∨ (fullTable.vtb.voices[(9 : Slot)].startSeq = fullTable.vtb.voices[w].startSeq ∧ 9 < w))))
      ∧ (endVoice fullTable 9).vtb.voices[(9 : Slot)].state = .free
      ∧ (endVoice (fullTable.setLane 1 (waits (filler 32) [] 20 (some 0))) 9).vtb.voices[(9 : Slot)].state ≠ .free
      ∧ (∀ v : Slot, (Vector.replicate 48 (sounding 1 40 2 2 [10] 990))[v].state = .sounding →
          (trebleLayer 0 1 0 false).priority < (Vector.replicate 48 (sounding 1 40 2 2 [10] 990))[v].priority) := by
  decide +kernel

/-- Two LIVE lanes of a mask refuse the Start, lane 3 the higher of them; lane 0 takes it. -/
theorem witness_AllocationFillsOrSteals_overrun :
    let s := ((lanesUp State.reset).setLane 1 (live (filler 28))).setLane 3 (live (filler 32))
    let l := trebleLayer 0 11 0 false
    let taken : LaneNo → Bool := fun n => l.laneMask.getLsbD n.val && s.lanes[n].state == .live
      && decide (s.lanes[n].queue.length < 28)
    taken 0 = true ∧ (∀ n : LaneNo, n = 1 ∨ n = 3 → l.laneMask.getLsbD n.val = true ∧ s.lanes[n].state = .live
      ∧ taken n = false) ∧ ∀ k : LaneNo, 3 < k → taken k = true := by
  decide +kernel

theorem witness_ReleaseLeavesEveryVoice :
    (oneVoice [20, 21]).vtb.Coherent ∧ (20 : Crosspoint) ∈ (oneVoice [20]).vtb.voices[(3 : Slot)].holders
      ∧ (oneVoice [20]).vtb.voices[(3 : Slot)].holders.erase 20 = []
      ∧ (oneVoice [20, 21]).vtb.voices[(3 : Slot)].holders.erase 20 ≠ []
      ∧ (22 : Crosspoint) ∉ (oneVoice [20]).vtb.voices[(3 : Slot)].holders := by
  decide +kernel

/-- The held key 20 sounds (0, 60), and its list under PUSH is that entry alone. -/
def matchedPart : State := setLiveLayer 0 (trebleLayer 0 1 0 false) (key20 (oneVoice [20]))

theorem witness_MatchedVoicesAreUntouched :
    (∀ x ∈ ([20] : List Crosspoint), ∀ v : Slot, x ∈ matchedPart.vtb.voices[v].holders →
        matchedPart.vtb.voices[v].state = .sounding → matchedPart.vtb.voices[v].origin = .live →
        (matchedPart.vtb.voices[v].layer, matchedPart.vtb.voices[v].pitch) ∈ matchedPart.expand x .push)
      ∧ ∀ x ∈ ([20] : List Crosspoint), ∀ e ∈ matchedPart.expand x .push,
        ∃ v : Slot, x ∈ matchedPart.vtb.voices[v].holders ∧ matchedPart.vtb.voices[v].state = .sounding
          ∧ matchedPart.vtb.voices[v].origin = .live ∧ matchedPart.vtb.voices[v].layer = e.1
          ∧ matchedPart.vtb.voices[v].pitch = e.2 := by
  constructor
  · intro x hx
    obtain rfl := List.mem_singleton.mp hx
    decide +kernel
  · intro x hx
    obtain rfl := List.mem_singleton.mp hx
    decide +kernel

/-- The second clause: a coherent table, and crosspoints none of which is named twice. -/
theorem witness_MatchedVoicesAreUntouched_order :
    matchedPart.vtb.Coherent ∧ ([20, 21] : List Crosspoint).Nodup := by
  decide +kernel

theorem witness_ReadsReportAndChangeNothing : State.reset.mlk.reply = none ∧ 47 < (48 : Byte).toNat := by decide

/-- The rail counters at 62 and 63 on each side of the flag; the timer running with the stream lost and not. -/
theorem witness_SensorChecksAreStageOne :
    (32767 : BitVec 16).toInt = 32767 ∧ (32768 : BitVec 16).toInt = -32768 ∧ (32766 : BitVec 16).toInt ≠ 32767
      ∧ State.reset.bfe.railFault = false ∧ 62 + 1 ≠ 64 ∧ 63 + 1 = 64
      ∧ (withBellows (fun b => { b with railFault := true, clearRun := 63 }) State.reset).bfe.railFault = true
      ∧ (∃ e ∈ { State.reset.bfe with lossTimer := some 80 }.lossTimer, 80 ≤ e)
      ∧ (∀ e ∈ { State.reset.bfe with lossTimer := some 79 }.lossTimer, e < 80)
      ∧ State.reset.bfe.lost = false ∧ { State.reset.bfe with lost := true, lossTimer := some 80 }.lost = true := by
  decide

/-- With o = 0 and Ts = 600: 600 is STILL, 601 PUSH and −601 PULL; the run of 3 is one short of Nr = 4. The 63rd rail
sample in a row is judged, and so is the sample that clears the rail fault. -/
theorem witness_DirectionIsJudged :
    State.reset.bfe.Judges 600 ∧ { State.reset.bfe with railRun := 62 }.Judges 32767
      ∧ { State.reset.bfe with railFault := true, clearRun := 63 }.Judges 600
      ∧ max (-32768) (min 32767 ((600 : BitVec 16).toInt - State.reset.bfe.acc / 256)) = 600
      ∧ ¬ ((State.reset.bfe.settings.still : Int) < 600) ∧ (State.reset.bfe.settings.still : Int) < 601
      ∧ (-601 : Int) < -(State.reset.bfe.settings.still : Int)
      ∧ SampleClass.pull = State.reset.bfe.bd.opposite.asClass ∧ SampleClass.push = State.reset.bfe.bd.asClass
      ∧ 2 + 1 < State.reset.bfe.settings.confirm ∧ State.reset.bfe.settings.confirm ≤ 3 + 1 := by
  decide

/-- A PUSH sample, and a STILL one with no hold left; a LIVE lane with an unsent Swell, one with room, one full. -/
theorem witness_ProcessedSampleMovesTheDynamics :
    worked.bfe.Judges 8400
      ∧ (8400 : Int) = max (-32768) (min 32767 ((8400 : BitVec 16).toInt - worked.bfe.acc / 256))
      ∧ (worked.bfe.bd = .push ∧ (worked.bfe.settings.still : Int) < 8400)
      ∧ (worked.bfe.Judges 800 ∧ (800 : Int) ≤ worked.bfe.settings.still
        ∧ (if worked.bfe.lastClass ≠ .still ∧ 0 < worked.bfe.settings.hold then worked.bfe.settings.hold
          else worked.bfe.holdLeft) = 0)
      ∧ worked.dyn.winPos + 1 < 2 ^ worked.dyn.settings.winShift ∧ 2 ^ worked.dyn.settings.winShift ≤ 7 + 1
      ∧ worked.dyn.lastCode = some (worked.sst.live.tierMap[tierOf worked.dyn.level])
      ∧ worked.dyn.lastCode ≠ some (worked.sst.live.tierMap[tierOf 24576])
      ∧ (worked.setLane 1 (live [])).lanes[(1 : LaneNo)].state = .live
      ∧ ((live [.tier 1, .swell 3]).unsent = [] ++ .swell 3 :: [] ∧ (LaneRecord.swell 3).isSwell = true)
      ∧ ((live []).queue.length < 32 ∧ ∀ r ∈ (live []).unsent, r.isSwell = false)
      ∧ ¬ (live (List.replicate 32 (.stop 1))).queue.length < 32 := by
  decide +kernel

theorem witness_ReversalReexpandsVoicedKeys :
    let s := withBellows (fun b => { b with run := 3 }) (key20 State.reset)
    (armed ⟨6, 8, 1⟩ s).sst.armed = some ⟨6, 8, 1⟩ ∧ s.bfe.Judges (-601)
      ∧ (-601 : Int) = max (-32768) (min 32767 ((-601 : BitVec 16).toInt - s.bfe.acc / 256))
      ∧ (s.bfe.bd = .push ∧ (-601 : Int) < -(s.bfe.settings.still : Int)) ∧ s.bfe.settings.confirm ≤ s.bfe.run + 1
      ∧ (∀ q ∈ s.sst.armed, q.triggers.getLsbD 3 = false) ∧ s.mlk.output ≠ .idle := by
  decide +kernel

theorem witness_SetBellowsStoresSettings :
    State.reset.mlk.reply = none ∧ ([] : List Byte).length ≠ 8 ∧ halted.slc.part = .halted
      ∧ State.reset.slc.part = .playing ∧ 1 < (2 : Byte).toNat ∧ ((5 : Byte).toNat ≠ 4 ∧ (5 : Byte).toNat ≠ 6)
      ∧ 32767 < (0x80 : Byte).toNat * 256 + (0 : Byte).toNat ∧ 64 < (65 : Byte).toNat
      ∧ (0x7F : Byte).toNat * 256 + (0xFF : Byte).toNat ≤ 32767 ∧ (64 : Byte).toNat ≤ 64 ∧ (64 : Byte) ≠ 0 := by
  decide

/-- The power-on settings with the widest window, and the ends of Set Expression's ranges. -/
theorem witness_DynamicsRequestsWrite :
    let d := { State.reset.dyn.settings with winShift := 12, floor := 65535, ceil := 65535, drift := -8192 }
    State.reset.Taking ∧ (1 ≤ d.winShift ∧ d.winShift ≤ 12) ∧ d.td ≤ d.tu ∧ d.tu ≤ 32767 ∧ d.rise ≤ 16383
      ∧ d.fall ≤ 16383 ∧ (-8192 ≤ d.drift ∧ d.drift ≤ 8191) ∧ d.tsurge ≤ 32767 ∧ d.surge ≤ 16383 ∧ d.holdOff ≤ 255
      ∧ d.floor ≤ d.ceil ∧ d.smooth = State.reset.dyn.settings.smooth ∧ d.gain = State.reset.dyn.settings.gain
      ∧ d.swellStep = State.reset.dyn.settings.swellStep ∧ (7 : Byte).toNat ≤ 7 ∧ (32 : Byte).toNat ≤ 32
      ∧ 7 < (8 : Byte).toNat ∧ 32 < (33 : Byte).toNat
      ∧ State.reset.dyn.lastCode = some (State.reset.sst.live.tierMap[tierOf State.reset.dyn.level])
      ∧ (withDynamics (fun y => { y with lastCode := none }) State.reset).dyn.lastCode
        ≠ some (State.reset.sst.live.tierMap[tierOf State.reset.dyn.level]) := by
  decide +kernel

/-- The first values beyond the ranges of Set Dynamics and Load Tier Map. -/
theorem witness_DynamicsRequestsWrite_range :
    12 < (13 : Byte).toNat ∧ 32767 < (0x80 : Byte).toNat * 256 + (0 : Byte).toNat
      ∧ 16383 < (0x40 : Byte).toNat * 256 + (0 : Byte).toNat ∧ ((0xDF : Byte) ++ (0xFF : Byte)).toInt < -8192
      ∧ 8191 < ((0x20 : Byte) ++ (0 : Byte)).toInt
      ∧ (1 : Byte).toNat * 256 + (0 : Byte).toNat < (1 : Byte).toNat * 256 + (1 : Byte).toNat
      ∧ ([0, 0, 0, 0, 0, 0, 0, 16] : List Byte).length = 8
      ∧ ∃ code ∈ ([0, 0, 0, 0, 0, 0, 0, 16] : List Byte), 15 < code.toNat := by
  decide

/-- The lanes a Tier record is offered to: one that is not LIVE, one with an unsent Tier behind other records, one that
is empty, one with a record of room, one that is full. -/
theorem witness_DynamicsRequestsWrite_lanes :
    Lane.powerOn.state ≠ .live ∧ (live []).state = .live
      ∧ ((live [.tier 1, .swell 3, .tier 4, .stop 1]).unsent = [.swell 3] ++ .tier 4 :: [.stop 1]
        ∧ (LaneRecord.tier 4).isTier = true ∧ ∀ r ∈ ([.swell 3] : List LaneRecord), r.isTier = false)
      ∧ ((live []).queue = [] ∧ (live []).sending = false) ∧ (live [.tier 1]).queue ≠ []
      ∧ ((∀ r ∈ (live (filler 31)).unsent, r.isTier = false) ∧ ¬ 32 ≤ (live (filler 31)).queue.length)
      ∧ (∀ r ∈ (live (filler 32)).unsent, r.isTier = false) ∧ 32 ≤ (live (filler 32)).queue.length := by
  decide +kernel

/-- Tag 6 is on the stack and tag 7 is not; the stack of three has room and one of four has none. Switch tag 0 is on
the stack, 2 is not; its definition keeps the scene, or names scene 9, which is EMPTY. -/
theorem witness_PushOverrideSavesAndApplies :
    (cascade.Taking ∧ (3 : Byte).toNat < 4 ∧ 7 < (8 : Byte).toNat) ∧ 4 ≤ (6 : Fin 8).val ∧ (∃ e ∈ cascade.stack, e.tag = 6) ∧ (∀ e ∈ cascade.stack, e.tag ≠ 7)
      ∧ cascade.stack.length < 4
      ∧ 4 ≤ (⟨4, false, false, none, .cleared⟩ :: cascade.stack : List StackEntry).length
      ∧ cascade.sst.library[(9 : SceneNo)].state ≠ .valid ∧ cascade.sst.library[(5 : SceneNo)].state = .valid
      ∧ ((2 : Fin 8).val = (2 : Fin 4).val ∧ (∀ e ∈ cascade.stack, e.tag ≠ 2) ∧ ∃ e ∈ cascade.stack, e.tag = 0)
      ∧ (∀ e ∈ (⟨4, false, false, none, .cleared⟩ :: cascade.stack : List StackEntry), e.tag ≠ 2)
      ∧ (∀ m ∈ cascade.sst.overrides[(2 : Fin 4)].target, cascade.sst.library[m].state = .valid)
      ∧ (let d : OverrideDef := ⟨some 9, none, none, 0, none, none⟩;
        let s := cascade.setSst { cascade.sst with overrides := put cascade.sst.overrides 2 d };
        ∃ m ∈ s.sst.overrides[(2 : Fin 4)].target, s.sst.library[m].state ≠ .valid) := by
  decide +kernel

/-- The run of the cascade, which replaced the scene, with scene 3 VALID, then not, with scene 0 VALID and not; the
run of entry 6 alone, which did not. Switch tag 2 is not on the stack, tag 1 lies below the top, and is on top of the
stack without entry 6. -/
theorem witness_PopOverrideRestores :
    let bare := cascade.setStack (cascade.stack.take 2)
    let gone := cascade.setScene 3 .blank
    cascade.Taking ∧ (∀ e ∈ cascade.stack.head?, e.tag ≠ 5) ∧ 7 < (8 : Byte).toNat
      ∧ (cascade.stack = cascade.stack ++ [] ∧ cascade.stack.head?.map StackEntry.tag = some 6)
      ∧ (∀ e ∈ cascade.stack.tail, e.released = true) ∧ (∃ e ∈ cascade.stack, e.sceneReplaced = true)
      ∧ cascade.stack.getLast?.bind StackEntry.origin = some 3 ∧ cascade.sst.library[(3 : SceneNo)].state = .valid
      ∧ (∀ e ∈ bare.stack, e.sceneReplaced = false) ∧ (∀ e ∈ bare.stack.tail, e.released = true)
      ∧ gone.sst.library[(3 : SceneNo)].state ≠ .valid ∧ gone.sst.library[(0 : SceneNo)].state ≠ .valid
      ∧ (gone.setScene 0 (validScene (trebleLayer 0 1 0 false))).sst.library[(0 : SceneNo)].state = .valid
      ∧ ((1 : Fin 8).val = (1 : Fin 4).val ∧ (∀ e ∈ cascade.stack, e.tag ≠ 2) ∧ (∃ e ∈ cascade.stack, e.tag = 1)
        ∧ ∀ e ∈ cascade.stack.head?, e.tag ≠ 1)
      ∧ ((cascade.setStack cascade.stack.tail).Taking ∧ ∃ e ∈ (cascade.setStack cascade.stack.tail).stack.head?, e.tag = 1)
      := by
  decide +kernel

theorem witness_EnablePairIsWritten :
    State.reset.Taking
      ∧ (Instr.hush 0 [], (0x2C : Byte), false, State.reset.slc.enable)
        ∈ [(Instr.mute 0 [], (0x2A : Byte), false, false), (.unmute 0 [], 0x2B, true, true),
          (.hush 0 [], 0x2C, false, State.reset.slc.enable),
          (.unhush 0 [], 0x2D, State.reset.slc.shadow, State.reset.slc.shadow)]
      ∧ State.reset.slc.enable = true ∧ (State.reset.setSlc { State.reset.slc with enable := false }).slc.enable = false
      ∧ (State.reset.setSlc { State.reset.slc with enable := false }).slc.shadow = true := by
  decide +kernel

theorem witness_PanicSilencesEveryLane :
    stalled.Taking ∧ stalled.lanes[(1 : LaneNo)].state = .live ∧ stalled.slc.enable = true ∧ stalled.vtb.Coherent
      ∧ (∀ n : LaneNo, (11 : LaneSet).getLsbD n.val
          = (stalled.lanes[n].state == .live || stalled.lanes[n].state == .closing))
      ∧ (stalled.setLane 2 { live [.silence] with state := .closing }).lanes[(2 : LaneNo)].state = .closing
      ∧ (after (.panic 0 []) State.reset).slc.pending = 0 := by
  decide +kernel

theorem witness_ReadyLineStartsAndStopsWaiting :
    (waits [.silence] [] 0 none).ready = false ∧ (live [.silence]).ready = true
      ∧ (State.reset.setLane 1 (live [])).lanes[(1 : LaneNo)] = live [] := by
  decide

theorem witness_CompletionTakesTheNextRecord :
    (State.reset.setLane 1 (live [.swell 1])).lanes[(1 : LaneNo)] = live [.swell 1] ∧ (live [.swell 1]).sending = true
      ∧ (live [.swell 1]).queue = .swell 1 :: [] ∧ (live [.swell 1]).state = .live ∧ (live [.swell 1]).owed = []
      ∧ (LaneRecord.silence ∉ ([] : List LaneRecord) ∧ (live [.silence]).queue = .silence :: [])
      ∧ { live [.silence] with state := .closing }.state = .closing
      ∧ ((live (filler 32)).queue = .swell 1 :: filler 31 ∧ [14].take (32 - (filler 31).length) = [14]
        ∧ [14, 15].take (32 - (filler 31).length) = [14] ∧ [14, 15].take (32 - (filler 32).length) = [])
      ∧ ((live (.silence :: filler 3)).queue = .silence :: filler 3 ∧ (live (.silence :: filler 3)).state = .live
        ∧ [14, 15].take (32 - (filler 3).length) = [14, 15])
      ∧ .silence ∈ ([.silence] : List LaneRecord)
      ∧ (State.reset.mlk.output ≠ .idle ∧ (2 : LaneSet) ≠ 0 ∧ State.reset.slc.pending = 0) := by
  decide +kernel

/-- R137: the last lane of the silence-pending set leaves it, CLOSING with its last Silence sent, LIVE, and at a stall. -/
theorem witness_leaves_empty_the_set :
    let s := State.reset.setSlc { State.reset.slc with pending := 2 }
    let closes := s.setLane 1 { live [.silence] with state := .closing }
    let stalls := s.setLane 1 (waits [.silence] [] 5 (some 200))
    s.slc.pending ≠ 0 ∧ s.mlk.output ≠ .idle ∧ (after (.recordCompletion 1) closes).slc.pending = 0
      ∧ (after (.recordCompletion 1) (s.setLane 1 (live [.silence]))).slc.pending = 0
      ∧ (after (.stallExpiry 1) stalls).slc.pending = 0 := by
  decide +kernel

theorem witness_StallKillsTheLane :
    let l := waits [.swell 44] [2] 5 (some 200)
    (State.reset.setLane 1 l).lanes[(1 : LaneNo)] = l ∧ l.state = .live ∧ l.queue ≠ [] ∧ l.sending = false
      ∧ l.ready = false ∧ (∃ e ∈ l.stall, 40 * l.timeout ≤ e)
      ∧ (∀ e ∈ { l with stall := some 199 }.stall, e < 40 * l.timeout) ∧ State.reset.mlk.output ≠ .idle
      ∧ stalled.vtb.voices[(4 : Slot)].state ≠ .free ∧ stalled.vtb.voices[(0 : Slot)].state = .free := by
  decide +kernel

theorem witness_SetLaneMovesTheLane :
    State.reset.Taking ∧ State.reset.lanes[(0 : LaneNo)].state = .off ∧ 3 < (4 : Byte).toNat ∧ 1 < (2 : Byte).toNat
      ∧ (State.reset.setLane 0 { live [] with state := .dead }).lanes[(0 : LaneNo)].state = .dead
      ∧ (State.reset.setLane 0 (live [.swell 1])).lanes[(0 : LaneNo)].state = .live
      ∧ (State.reset.setLane 0 { live [.silence] with state := .closing }).lanes[(0 : LaneNo)].state = .closing
      ∧ ((waits [.swell 1] [] 5 (some 3)).waiting = true ∧ (live [.swell 1]).sending = true)
      ∧ ((live []).queue = [] ∧ (live []).sending = false ∧ (waits [] [] 5 none).sending = false)
      ∧ stalled.vtb.voices[(4 : Slot)].state ≠ .free ∧ stalled.vtb.voices[(0 : Slot)].state = .free := by
  decide +kernel

theorem witness_ResetLaneRevivesAndReadLanesReports :
    State.reset.Taking ∧ halted.mlk.reply = none ∧ State.reset.lanes[(0 : LaneNo)].state = .off ∧ stalled.Taking
      ∧ stalled.lanes[(1 : LaneNo)].state ≠ .off ∧ stalled.lanes[(1 : LaneNo)].sending = false
      ∧ stalled.lanes[(1 : LaneNo)].ready = false ∧ stalled.vtb.voices[(4 : Slot)].state = .sounding
      ∧ 3 < (4 : Byte).toNat ∧ stalled.vtb.voices[(7 : Slot)].state = .owed
      ∧ stalled.vtb.voices[(0 : Slot)].state = .free := by
  decide +kernel

theorem witness_MaskAndMeterRequests :
    State.reset.Taking ∧ halted.mlk.reply = none ∧ ((0 : Byte) ++ (2 : Byte)) &&& (0xE003 : BitVec 16) ≠ 0
      ∧ ((0x1F : Byte) ++ (0xFC : Byte)) &&& (0xE003 : BitVec 16) = 0
      ∧ (10 ≤ 10000 ∧ 10000 ≤ 10000) ∧ ([0, 9] : List MeterItem).length ≤ 8
      ∧ (1 ≤ 9 ∧ 9 ≤ 9) ∧ 10000 < 10001 ∧ (∃ i ∈ ([10] : List Byte), 9 < i.toNat)
      ∧ (∃ e ∈ metered.ntu.meterTimer, 4 * metered.ntu.interval ≤ e)
      ∧ ∀ e ∈ { metered.ntu with meterTimer := some 399 }.meterTimer, e < 4 * metered.ntu.interval := by
  decide

/-- A part with a key held and sounding, a scan pass waiting: every state that the invariants' premises ask for. -/
def playingPart : State :=
  let s := key20 (lanesUp (oneVoice [20]))
  let s := s.setScene 3 (validScene (trebleLayer 0 1 0 false))
  { s with pending := [.mute 0 []], stack := [⟨2, true, false, some 3, .cleared⟩] }

theorem witness_StepKeepsScannerCounts :
    playingPart.bsc.InRange ∧ playingPart.bsc.CountsAgree
      ∧ ∃ t, step playingPart = .next t := ⟨by decide +kernel, by decide +kernel, _, rfl⟩

theorem witness_StepKeepsVoicesCoherent : playingPart.vtb.Coherent ∧ ∃ t, step playingPart = .next t :=
  ⟨by decide +kernel, _, rfl⟩

theorem witness_StepKeepsSilenceWhenDisabled :
    (halted.slc.enable = false → (∀ v : Slot, halted.vtb.voices[v].state ≠ .sounding)
        ∧ ∀ x : Crosspoint, halted.vtb.voicedAs[x] = none)
      ∧ (halted.slc.part = .halted → halted.slc.enable = false ∧ halted.stack = [] ∧ halted.sst.armed = none)
      ∧ ∃ t, step halted = .next t := ⟨by decide +kernel, by decide, _, rfl⟩

/-- A key held and sounding, a lane with its Start unsent behind the record being sent, one that owes a Stop and waits,
and one that closes and is pending. -/
def agreeingPart : State :=
  let s := (playingPart.setVoice 7 (owedVoice 2 0)).setLane 0 (live [.tier 2, .start 3 0 60 2])
  let s := (s.setLane 1 (waits (filler 1 ++ List.replicate 31 (.stop 9)) [7] 10 (some 240))).setLane 2
    { live [.silence] with state := .closing }
  s.setSlc { s.slc with pending := 4 }

theorem witness_StepKeepsSilenceWhenDisabled_lanes :
    agreeingPart.VoicesLanesCoherent ∧ ∃ t, step agreeingPart = .next t :=
  ⟨⟨by decide +kernel, by decide +kernel, by decide +kernel, by decide +kernel, by decide +kernel, by decide +kernel,
    by decide +kernel⟩, _, rfl⟩

/-- Voices and lanes in agreement: lane 0 sends and holds an unsent Start, 1 waits and owes a Stop, 2 is CLOSING and
sends its Silence, and 3 is in the state given. -/
def agreeingWith (st : LaneState) : State := agreeingPart.setLane 3 { live [] with state := st }

theorem witness_PanicSilencesEveryLane_off :
    ((agreeingWith .off).VoicesAndLanesAgree ∧ (agreeingWith .off).vtb.Coherent ∧ (agreeingWith .off).Taking)
      ∧ ((agreeingWith .off).lanes[(3 : LaneNo)].state = .off ∧ (agreeingWith .off).slc.enable = true
        ∧ (agreeingWith .off).vtb.voices[(3 : Slot)].state = .sounding
        ∧ (agreeingWith .off).vtb.voices[(7 : Slot)].state ≠ .sounding) :=
  ⟨⟨by decide +kernel, by decide +kernel, by decide⟩, by decide +kernel⟩

theorem witness_PanicSilencesEveryLane_dead :
    (agreeingWith .dead).VoicesAndLanesAgree ∧ (agreeingWith .dead).lanes[(3 : LaneNo)].state = .dead :=
  ⟨by decide +kernel, by decide +kernel⟩

/-- The lanes that join, those that are LIVE, and the one that sends a Silence. -/
theorem witness_PanicSilencesEveryLane_sets :
    let s := agreeingWith .off
    (∀ n : LaneNo, (7 : LaneSet).getLsbD n.val = (s.lanes[n].state == .live || s.lanes[n].state == .closing))
      ∧ (∀ n : LaneNo, (3 : LaneSet).getLsbD n.val = (s.lanes[n].state == .live))
      ∧ (s.lanes[(2 : LaneNo)].sending && s.lanes[(2 : LaneNo)].queue.head? == some .silence) = true
      ∧ (s.lanes[(0 : LaneNo)].sending && s.lanes[(0 : LaneNo)].queue.head? == some .silence) = false
      ∧ s.lanes[(1 : LaneNo)].waiting = true := by
  decide +kernel

/-- The halt of `witness_PopOverrideRestores` with those lanes and voices. -/
theorem witness_PopOverrideRestores_lanes :
    let s := (agreeingWith .dead).setStack [⟨6, false, true, none, .cleared⟩]
    (s.VoicesAndLanesAgree ∧ s.vtb.Coherent ∧ s.Taking)
      ∧ (s.sst.library[(0 : SceneNo)].state ≠ .valid ∧ s.stack = s.stack ++ [] ∧ ∃ e ∈ s.stack, e.sceneReplaced = true)
      ∧ (∀ n : LaneNo, (3 : LaneSet).getLsbD n.val = (s.lanes[n].state == .live))
      ∧ replyOf (after (.popOverride 0 [6]) s) = [0, 1, 2] :=
  ⟨⟨by decide +kernel, by decide +kernel, by decide⟩, by decide +kernel, by decide +kernel, by decide +kernel⟩

theorem witness_StepKeepsOutputServed :
    answering.OutputServed ∧ (answering.raise (.tier 3)).ntu.SlotsCoherent ∧ ∃ t, step answering = .next t :=
  ⟨by decide +kernel, by decide +kernel, _, rfl⟩

theorem witness_StepKeepsBellowsAndDynamicsInRange :
    playingPart.bfe.InRange ∧ playingPart.dyn.InRange ∧ ∃ t, step playingPart = .next t :=
  ⟨by decide +kernel, by decide +kernel, _, rfl⟩

theorem witness_StepKeepsScenesAndStackCoherent :
    playingPart.ScenesCoherent ∧ playingPart.TransposesInRange ∧ playingPart.StackBounded
      ∧ ∃ t, step playingPart = .next t := ⟨by decide +kernel, by decide +kernel, by decide +kernel, _, rfl⟩

end Sys2Proof.Tests
end

