-- ==== Sys2Proof/Proofs/SetScan.lean ====
section
/-! PROOF. Set Scan (R15): what its payload reads as, what an accepted request does to the scanner, and that the
scan pass it overtakes does not happen. -/

namespace Sys2Proof.Machine

/-! ## A byte field with bounds -/

/-- A value within the bounds is read as it stands. -/
theorem fieldIn_of_mem {lo hi : Nat} {b : Byte} (h : lo ≤ b.toNat ∧ b.toNat ≤ hi) :
    fieldIn lo hi b = some b.toNat := if_pos h

/-- A value outside the bounds is not read. -/
theorem fieldIn_of_not_mem {lo hi : Nat} {b : Byte} (h : ¬ (lo ≤ b.toNat ∧ b.toNat ≤ hi)) :
    fieldIn lo hi b = none := if_neg h

/-! ## The payload of Set Scan -/

/-- Only two bytes are a payload of Set Scan. -/
theorem parseSetScan_badLength {p : List Byte} (h : p.length ≠ 2) : parseSetScan p = .badLength := by
  match p, h with
  | [], _ => rfl
  | [_], _ => rfl
  | [_, _], h => exact absurd rfl h
  | _ :: _ :: _ :: _, _ => rfl

/-- An interval of 1..16 and a depth of 1..15 are read as they stand. -/
theorem parseSetScan_fields {i d : Byte} (hi : 1 ≤ i.toNat ∧ i.toNat ≤ 16) (hd : 1 ≤ d.toNat ∧ d.toNat ≤ 15) :
    parseSetScan [i, d] = .fields (i.toNat, d.toNat) := by
  simp [parseSetScan, fieldIn_of_mem hi, fieldIn_of_mem hd, Parsed.ofOption]

/-- An interval or a depth outside its range makes the payload OUT_OF_RANGE. -/
theorem parseSetScan_outOfRange {i d : Byte}
    (h : ¬ ((1 ≤ i.toNat ∧ i.toNat ≤ 16) ∧ 1 ≤ d.toNat ∧ d.toNat ≤ 15)) :
    parseSetScan [i, d] = .outOfRange := by
  by_cases hi : 1 ≤ i.toNat ∧ i.toNat ≤ 16
  · have hd : ¬ (1 ≤ d.toNat ∧ d.toNat ≤ 15) := fun hd => h ⟨hi, hd⟩
    simp [parseSetScan, fieldIn_of_mem hi, fieldIn_of_not_mem hd, Parsed.ofOption]
  · simp [parseSetScan, fieldIn_of_not_mem hi, Parsed.ofOption]

/-- Two bytes have the length of a Set Scan payload, whatever their values. -/
theorem parseSetScan_pair_ne_badLength (i d : Byte) : parseSetScan [i, d] ≠ .badLength := by
  by_cases h : (1 ≤ i.toNat ∧ i.toNat ≤ 16) ∧ 1 ≤ d.toNat ∧ d.toNat ≤ 15
  · obtain ⟨hi, hd⟩ := h
    simp [parseSetScan_fields hi hd]
  · simp [parseSetScan_outOfRange h]

/-! ## The command -/

/-- The command takes the request of kind 0x08, which is not admitted while HALTED. -/
theorem exec_setScan (tag : Byte) (p : List Byte) (s : State) :
    exec (.setScan tag p) s = .next (takeRequest 0x08 tag false (parseSetScan p) setScanOwner s) := rfl

/-- A verdict of refusal on a Set Scan is its reply. -/
theorem setScan_refuses {tag : Byte} {p : List Byte} {s : State} {st : Status} (h : s.mlk.reply = none)
    (hv : judgeRequest false (parseSetScan p) setScanOwner s.rxDone = .refuse st) :
    Refuses (.setScan tag p) s 0x08 tag st := by
  rw [Refuses, exec_setScan, takeRequest_refuse h hv]

/-- The scanner after an accepted Set Scan: the interval and the depth are new, every debounce count is 0, and the
pass timer runs from zero (R15). -/
def Scanner.rescanned (b : Scanner) (interval depth : Nat) : Scanner :=
  { b with interval := interval, depth := depth, buttons := clearCounts b.buttons, passTimer := some 0 }

/-- The owner accepts with the scanner restarted and no data. -/
theorem setScanOwner_eq (a : Nat × Nat) (s : State) :
    setScanOwner a s = .accept (s.setBsc (s.bsc.rescanned a.1 a.2)) [] := rfl

/-- With both fields in range a PLAYING part accepts Set Scan (R15). -/
theorem setScan_accepts {tag i d : Byte} {s : State} (h : s.mlk.reply = none) (hp : s.slc.part = .playing)
    (hi : 1 ≤ i.toNat ∧ i.toNat ≤ 16) (hd : 1 ≤ d.toNat ∧ d.toNat ≤ 15) :
    Accepts (.setScan tag [i, d]) s (s.setBsc (s.bsc.rescanned i.toNat d.toNat)) 0x08 tag [] := by
  have hv : judgeRequest false (parseSetScan [i, d]) setScanOwner s.rxDone
      = .accept (s.rxDone.setBsc (s.bsc.rescanned i.toNat d.toNat)) [] := by
    rw [parseSetScan_fields hi hd, judgeRequest_fields (s := s.rxDone) _ _ (.inr hp), setScanOwner_eq, State.rxDone_bsc]
  rw [Accepts, exec_setScan, takeRequest_accept h hv rfl rfl rfl]
  rfl

/-! ## The overtaken scan pass -/

/-- A scan pass does not occur while the pass timer has not run for an interval (R1, R15). -/
theorem exec_scanPass_early (readings : Readings) {s : State} (h : s.bsc.passDue = false) :
    exec (.scanPass readings) s = .next s := by
  calc exec (.scanPass readings) s = .next (scanPass readings s) := rfl
    _ = .next s := by rw [scanPass_early readings h]

/-- No pass is due right after a restart of the pass timer with an interval above 0. -/
theorem Scanner.rescanned_passDue (b : Scanner) {interval : Nat} (depth : Nat) (h : 0 < interval) :
    (b.rescanned interval depth).passDue = false := by
  rw [Scanner.passDue, Timer.due_false_iff]
  simpa [Scanner.rescanned] using h

/-- Settles O16: each of the checks of R169 gives its refusal, and the accepted request restarts the pass timer, so a
pass that comes right after it is not due. -/
theorem setScanStoresAndRestarts : Obligations.SetScanStoresAndRestarts := by
  intro tag p s hs
  refine ⟨fun hlen => ?badLength, ?pair⟩
  case badLength =>
    apply setScan_refuses hs
    rw [parseSetScan_badLength hlen, judgeRequest_badLength]
  case pair =>
    rintro i d rfl
    refine ⟨fun hh => ?halted, fun hp hout => ?outOfRange, fun hp hi hd t ht => ?accepted⟩
    case halted => exact setScan_refuses hs (judgeRequest_halted _ (parseSetScan_pair_ne_badLength i d) hh)
    case outOfRange =>
      apply setScan_refuses hs
      rw [parseSetScan_outOfRange hout, judgeRequest_outOfRange (s := s.rxDone) _ (.inr hp)]
    case accepted =>
      obtain rfl : t = s.setBsc (s.bsc.rescanned i.toNat d.toNat) := ht
      refine ⟨setScan_accepts hs hp hi hd, fun readings => exec_scanPass_early readings ?_⟩
      rw [State.replied_bsc, State.setBsc_bsc]
      exact Scanner.rescanned_passDue s.bsc d.toNat hi.1

end Sys2Proof.Machine
end

/-! PROOF. Begin Scene and Erase Scene (R39, R43): both are requests that name one scene and overwrite it, whatever it
was, with a scene that does not depend on the state. The checks and the effect are proved once for such a request. -/

namespace Sys2Proof.Machine

/-! ## A payload of one field -/

/-- A value of at least n is not one of 0..n−1. -/
theorem field_of_le {n : Nat} {b : Byte} (h : n ≤ b.toNat) : field n b = none := dif_neg (Nat.not_lt.2 h)

/-- An index of a table of at most 256 entries is read back from its byte. -/
theorem field_byte {n : Nat} (hn : n ≤ 256) (i : Fin n) : field n (byte i.val) = some i := by
  have hval : (byte i.val).toNat = i.val := by
    rw [byte, BitVec.toNat_ofNat, Nat.mod_eq_of_lt (i.isLt.trans_le hn)]
  simp [field, hval]

/-- Only one byte is a payload of one field. -/
theorem parseOne_badLength {α : Type} (f : Byte → Option α) {p : List Byte} (h : p.length ≠ 1) :
    parseOne f p = .badLength := by
  match p, h with
  | [], _ => rfl
  | [_], h => exact absurd rfl h
  | _ :: _ :: _, _ => rfl

/-- One byte with a value of the field is read as that value. -/
theorem parseOne_fields {α : Type} {f : Byte → Option α} {b : Byte} {a : α} (h : f b = some a) :
    parseOne f [b] = .fields a := by
  rw [parseOne, h, Parsed.ofOption]

/-- One byte outside the field makes the payload OUT_OF_RANGE. -/
theorem parseOne_outOfRange {α : Type} {f : Byte → Option α} {b : Byte} (h : f b = none) :
    parseOne f [b] = .outOfRange := by
  rw [parseOne, h, Parsed.ofOption]

/-- One byte has the length of a payload of one field, whatever its value. -/
theorem parseOne_singleton_ne_badLength {α : Type} (f : Byte → Option α) (b : Byte) :
    parseOne f [b] ≠ .badLength := by
  cases h : f b with
  | none => simp [parseOne_outOfRange h]
  | some a => simp [parseOne_fields h]

/-! ## A request that overwrites a scene -/

/-- The owner of a request that makes the named scene c, whatever it was. -/
def overwriteOwner (c : Scene) (n : SceneNo) (s : State) : Verdict := .accept (s.setScene n c) []

/-- The command takes a request of this kind that names one scene and makes it c; the kind is not admitted while
HALTED. -/
def OverwritesScene (i : Byte → List Byte → Instr) (kind : Byte) (c : Scene) : Prop :=
  ∀ (tag : Byte) (p : List Byte) (s : State),
    exec (i tag p) s = .next (takeRequest kind tag false (parseOne (field 16) p) (overwriteOwner c) s)

/-- Begin Scene overwrites with a PARTIAL, cleared scene (R37, R39). -/
theorem beginScene_overwritesScene :
    OverwritesScene .beginScene 0x14 { Scene.blank with state := .loading } := fun _ _ _ => rfl

/-- Erase Scene overwrites with an EMPTY, cleared scene (R37, R43). -/
theorem eraseScene_overwritesScene : OverwritesScene .eraseScene 0x18 .blank := fun _ _ _ => rfl

section
variable {i : Byte → List Byte → Instr} {kind tag : Byte} {c : Scene} {s : State}

/-- A verdict of refusal on a request that overwrites a scene is its reply. -/
theorem OverwritesScene.refuses (hi : OverwritesScene i kind c) (hs : s.mlk.reply = none) {p : List Byte} {st : Status}
    (hv : judgeRequest false (parseOne (field 16) p) (overwriteOwner c) s.rxDone = .refuse st) :
    Refuses (i tag p) s kind tag st := by
  rw [Refuses, hi, takeRequest_refuse hs hv]

/-- Check 2: a payload of any other length than one byte. -/
theorem OverwritesScene.badLength (hi : OverwritesScene i kind c) (hs : s.mlk.reply = none) {p : List Byte}
    (hlen : p.length ≠ 1) : Refuses (i tag p) s kind tag .badLength := by
  apply hi.refuses hs
  rw [parseOne_badLength _ hlen, judgeRequest_badLength]

/-- Check 3: the part is HALTED. -/
theorem OverwritesScene.halted (hi : OverwritesScene i kind c) (hs : s.mlk.reply = none) (b : Byte)
    (hh : s.slc.part = .halted) : Refuses (i tag [b]) s kind tag .halted :=
  hi.refuses hs (judgeRequest_halted (s := s.rxDone) _ (parseOne_singleton_ne_badLength _ b) hh)

/-- Check 4: there is no scene of that number. -/
theorem OverwritesScene.outOfRange (hi : OverwritesScene i kind c) (hs : s.mlk.reply = none) {b : Byte}
    (hp : s.slc.part = .playing) (hb : 15 < b.toNat) : Refuses (i tag [b]) s kind tag .outOfRange := by
  apply hi.refuses hs
  rw [parseOne_outOfRange (field_of_le hb), judgeRequest_outOfRange (s := s.rxDone) _ (.inr hp)]

/-- A PLAYING part accepts: the named scene becomes c, whatever it was, and nothing else changes. -/
theorem OverwritesScene.accepts (hi : OverwritesScene i kind c) (hs : s.mlk.reply = none)
    (hp : s.slc.part = .playing) (n : SceneNo) : Accepts (i tag [byte n.val]) s (s.setScene n c) kind tag [] := by
  have hv : judgeRequest false (parseOne (field 16) [byte n.val]) (overwriteOwner c) s.rxDone
      = .accept (s.rxDone.setScene n c) [] := by
    rw [parseOne_fields (field_byte (by decide) n), judgeRequest_fields (s := s.rxDone) _ _ (.inr hp), overwriteOwner]
  rw [Accepts, hi, takeRequest_accept hs hv rfl rfl rfl]
  rfl

end

/-- Settles O24: both requests overwrite the scene they name, Begin Scene with a PARTIAL and Erase Scene with an EMPTY
cleared scene. -/
theorem beginAndEraseClearTheScene : Obligations.BeginAndEraseClearTheScene := by
  intro tag p s hs
  have hbegin := beginScene_overwritesScene
  have herase := eraseScene_overwritesScene
  refine ⟨fun hlen => ⟨hbegin.badLength hs hlen, herase.badLength hs hlen⟩, ?single⟩
  case single =>
    rintro b rfl
    refine ⟨fun hh => ⟨hbegin.halted hs b hh, herase.halted hs b hh⟩,
      fun hp hb => ⟨hbegin.outOfRange hs hp hb, herase.outOfRange hs hp hb⟩, ?accepted⟩
    case accepted =>
      rintro n _ _ hp rfl rfl rfl
      exact ⟨hbegin.accepts hs hp n, herase.accepts hs hp n⟩

end Sys2Proof.Machine

/-! PROOF. Get Identity (R175) and Get Status (R177, R178): both are requests without fields, admitted while HALTED,
whose reply reads the state. What such a request does is proved once; then each block of the two replies is given
byte by byte. -/

namespace Sys2Proof.Machine

/-! ## A request without fields that is admitted while HALTED -/

/-- Only the empty payload is a payload without fields. -/
theorem parseEmpty_badLength {p : List Byte} (h : p ≠ []) : parseEmpty p = .badLength := by
  cases p with
  | nil => exact absurd rfl h
  | cons b bs => rfl

/-- Check 2: a payload that is not empty. -/
theorem takeRequest_parseEmpty_badLength {kind tag : Byte} {p : List Byte} {owner : Unit → State → Verdict} {s : State}
    (hs : s.mlk.reply = none) (hp : p ≠ []) :
    takeRequest kind tag true (parseEmpty p) owner s = s.replied kind tag .badLength [] := by
  apply takeRequest_refuse hs
  rw [parseEmpty_badLength hp, judgeRequest_badLength]

/-- With an empty payload the owner's acceptance is the answer, in either part state (R139, R169). -/
theorem takeRequest_parseEmpty_accept {kind tag : Byte} {owner : Unit → State → Verdict} {s t : State}
    {data : List Byte} (hs : s.mlk.reply = none) (ho : owner () s.rxDone = .accept t data)
    (hr : t.mlk.rx = .hunt) (hb : t.mlk.buffer = []) (hg : t.mlk.gapTimer = none) :
    takeRequest kind tag true (parseEmpty []) owner s = t.replied kind tag .ok data := by
  refine takeRequest_accept hs ?_ hr hb hg
  calc judgeRequest true (parseEmpty []) owner s.rxDone
      = owner () s.rxDone := judgeRequest_fields () owner (.inl rfl)
    _ = .accept t data := ho

/-! ## Get Identity -/

/-- The command takes the request of kind 0x01, admitted while HALTED, whose owner changes nothing. -/
theorem exec_getIdentity (tag : Byte) (p : List Byte) (s : State) :
    exec (.getIdentity tag p) s = .next (takeRequest 0x01 tag true (parseEmpty p)
      (fun _ s => .accept s (identityRecord s.mlk.cause)) s) := rfl

/-- The identity record byte by byte (R174). -/
theorem identityRecord_eq (cause : ResetCause) :
    identityRecord cause = [0x5A, 0x48, 1, 48, 16, 8, 4, 4, 0x01, 0x00, 8,
      match cause with | .power => 0 | .restart => 1] := by
  cases cause <;> rfl

/-- Get Identity is accepted in either part state and leaves the part as it is (R175, R139). -/
theorem getIdentity_accepts {tag : Byte} {s : State} (hs : s.mlk.reply = none) :
    Accepts (.getIdentity tag []) s s 0x01 tag (identityRecord s.mlk.cause) := by
  rw [Accepts, exec_getIdentity, takeRequest_parseEmpty_accept hs rfl rfl rfl rfl, State.replied_rxDone]
  rfl

/-- Settles O11: the payload's length is the only check, and the owner accepts with the state it was given. -/
theorem getIdentityReportsTheRecord : Obligations.GetIdentityReportsTheRecord := by
  intro tag p s hs
  refine ⟨fun hp => ?badLength, ?accepted⟩
  case badLength => rw [Refuses, exec_getIdentity, takeRequest_parseEmpty_badLength hs hp]
  case accepted =>
    rintro rfl
    have haccepts := getIdentity_accepts (tag := tag) hs
    rw [identityRecord_eq] at haccepts
    exact haccepts

/-! ## The blocks of a status report (R177) -/

/-- Equal blocks for the entries of a list and a filler for the positions after it, said position by position. -/
theorem flatMap_range_getElem? {α β : Type} (f : α → List β) (filler : List β) {l : List α} {n : Nat}
    (h : l.length ≤ n) :
    ((List.range n).flatMap fun i => l[i]?.elim filler f)
      = l.flatMap f ++ (List.replicate (n - l.length) filler).flatten := by
  induction l generalizing n with
  | nil => simp [List.flatMap]
  | cons a l ih =>
    obtain ⟨m, rfl⟩ : ∃ m, n = m + 1 := ⟨n - 1, by simp at h; omega⟩
    have hl : l.length ≤ m := by simpa using h
    simp [List.range_succ_eq_map, List.flatMap_map, ih hl]

/-- The stack's blocks position by position, bottom entry first. -/
theorem stackBlocks_eq {stack : List StackEntry} (h : stack.length ≤ 4) :
    stackBlocks stack = [0, 1, 2, 3].flatMap fun i => match stack.reverse[i]? with
      | some e => [byte e.tag.val, byteOfBool e.released]
      | none => [0xFF, 0] := by
  have hblocks := flatMap_range_getElem? (fun e : StackEntry => [byte e.tag.val, byteOfBool e.released]) [0xFF, 0]
    (l := stack.reverse) (n := 4) (by simpa using h)
  rw [List.length_reverse] at hblocks
  rw [stackBlocks, ← hblocks]
  refine congrArg (fun f => List.flatMap f _) (funext fun i => ?_)
  cases stack.reverse[i]? <;> rfl

/-- A stack of at most 4 entries takes 8 bytes. -/
theorem stackBlocks_length {stack : List StackEntry} (h : stack.length ≤ 4) : (stackBlocks stack).length = 8 := by
  simp [stackBlocks, List.length_flatMap]
  omega

/-- The armed cue takes 4 bytes. -/
theorem cueBlock_length (c : Option Cue) : (cueBlock c).length = 4 := by
  cases c <;> rfl

/-- A lane's three bytes. -/
theorem Lane.statusBlock_eq (l : Lane) :
    l.statusBlock = [match l.state with | .off => 0 | .live => 1 | .closing => 2 | .dead => 3,
      byte l.queue.length, byte l.owed.length] := by
  rw [Lane.statusBlock, Lane.occupancy]
  cases l.state <;> rfl

/-- The part state's byte. -/
theorem byte_partCode (p : PartState) : byte p.code = if p = .halted then 1 else 0 := by
  cases p <;> rfl

/-- The sensor state's byte: a lost stream hides a rail fault (R100). -/
theorem Bellows.byte_sensorCode (b : Bellows) :
    byte b.sensor.code = if b.lost then 2 else if b.railFault then 1 else 0 := by
  rw [Bellows.sensor]
  split_ifs <;> rfl

/-- A status report is 33 bytes and one byte for each pending kind. -/
theorem State.statusReport_length {s : State} (h : s.stack.length ≤ 4) :
    s.statusReport.length = 33 + s.ntu.pendingKinds.length := by
  simp [State.statusReport, stackBlocks_length h, cueBlock_length, allLanes, Lane.statusBlock]
  omega

/-! ## Get Status -/

/-- The command takes the request of kind 0x02, admitted while HALTED, whose owner clears the link counts. -/
theorem exec_getStatus (tag : Byte) (p : List Byte) (s : State) :
    exec (.getStatus tag p) s = .next (takeRequest 0x02 tag true (parseEmpty p)
      (fun _ s => .accept s.clearLinkCounts s.statusReport) s) := rfl

/-- The report reads nothing of the receiver. -/
theorem State.statusReport_rxDone (s : State) : s.rxDone.statusReport = s.statusReport := rfl

/-- Get Status is accepted with the report of the state it was taken in, and clears the link counts (R178). -/
theorem getStatus_accepts {tag : Byte} {s : State} (hs : s.mlk.reply = none) :
    Accepts (.getStatus tag []) s s.clearLinkCounts 0x02 tag s.statusReport := by
  rw [Accepts, exec_getStatus, takeRequest_parseEmpty_accept hs rfl rfl rfl rfl, State.statusReport_rxDone]
  rfl

/-- Settles O12: the report of the state in which the request is taken, block by block. -/
theorem getStatusReportsAndClearsCounts : Obligations.GetStatusReportsAndClearsCounts := by
  intro tag s hs hstack
  refine ⟨s.statusReport, getStatus_accepts hs, ?_, State.statusReport_length hstack⟩
  rw [State.statusReport, stackBlocks_eq hstack, byte_partCode, Bellows.byte_sensorCode]
  simp only [Lane.statusBlock_eq]
  rfl

end Sys2Proof.Machine

/-! PROOF. What a step can do, said once for every invariant: the command at the front of the queue or a due expiry
runs, or time passes; a command is an event of a line or a timer, or a good frame, whose request is judged by its
owner, or bytes that the receiver takes. A property that each of these keeps is kept by every step (`step_keeps`). -/

namespace Sys2Proof.Machine

/-! ## One step -/

/-- A step is a command run on the state with another queue and counter, or a quarter millisecond of the timebase. -/
theorem step_cases {s t : State} (h : step s = .next t) :
    (∃ (c : Instr) (pending : List Instr) (draws : Nat),
        exec c { s with pending := pending, freeDraws := draws } = .next t) ∨ t = tick s := by
  unfold step at h
  split at h
  · next c rest _ => exact .inl ⟨c, rest, s.freeDraws, h⟩
  · next hp =>
    split at h
    · next c s' hi =>
      refine .inl ⟨c, s.pending, s'.freeDraws, ?_⟩
      have hs' : s' = { s with freeDraws := s'.freeDraws } := by
        unfold State.idleExpiry at hi
        split at hi <;> cases hi <;> rfl
      rw [hs'] at h
      exact h
    · exact .inr (Host.Outcome.next.inj h).symm

/-! ## Good frames -/

/-- What a request of one kind is: whether it is admitted while HALTED, what its payload reads as, and its owner. -/
structure Request where
  Fields : Type
  admitted : Bool
  parsed : Parsed Fields
  owner : Fields → State → Verdict

/-- The request that a kind and a payload make, for the kinds of the table (spec 09, 9.3). -/
def Request.of (kind : Nat) (p : List Byte) : Option Request :=
  match kind with
  | 0x01 => some ⟨_, true, parseEmpty p, fun _ s => .accept s (identityRecord s.mlk.cause)⟩
  | 0x02 => some ⟨_, true, parseEmpty p, fun _ s => .accept s.clearLinkCounts s.statusReport⟩
  | 0x03 => some ⟨_, true, parseEmpty p, restartOwner⟩
  | 0x04 => some ⟨_, false, parseNoticeMask p, setNoticeMaskOwner⟩
  | 0x05 => some ⟨_, false, parseSetMeter p, setMeterOwner⟩
  | 0x06 => some ⟨_, true, parseEmpty p, fun _ s => .accept s s.snapshot⟩
  | 0x08 => some ⟨_, false, parseSetScan p, setScanOwner⟩
  | 0x09 => some ⟨_, false, parseLoadRoles p, loadRolesOwner⟩
  | 0x0A => some ⟨_, true, parseOne (field 256) p, fun first s => .accept s (s.buttonReport first)⟩
  | 0x0C => some ⟨_, false, parsePairs 96 32 p, loadTreblePitchesOwner⟩
  | 0x0D => some ⟨_, false, parsePairs 20 20 p, loadBassRootsOwner⟩
  | 0x0E => some ⟨_, false, parseChordForm p, loadChordFormOwner⟩
  | 0x0F => some ⟨_, false, parseRowForms p, setRowFormsOwner⟩
  | 0x10 => some ⟨_, false, parseSectionModes p, setSectionModesOwner⟩
  | 0x11 => some ⟨_, false, parseOne (signedField (-24) 24) p, fun v s => .accept (s.setTransposeTo v) []⟩
  | 0x14 => some ⟨_, false, parseOne (field 16) p, beginSceneOwner⟩
  | 0x15 => some ⟨_, false, parseLoadLayer p, loadLayerOwner⟩
  | 0x16 => some ⟨_, false, parseSceneDefaults p, setSceneDefaultsOwner⟩
  | 0x17 => some ⟨_, false, parseOne (field 16) p, finishSceneOwner⟩
  | 0x18 => some ⟨_, false, parseOne (field 16) p, eraseSceneOwner⟩
  | 0x19 => some ⟨_, false, parseArmCue p, armCueOwner⟩
  | 0x1A => some ⟨_, false, parseEmpty p, cancelCueOwner⟩
  | 0x1B => some ⟨_, false, parseEmpty p, fireCueOwner⟩
  | 0x1C => some ⟨_, false, parseOne (field 16) p, takeSceneOwner⟩
  | 0x1D => some ⟨_, false, parseSelectRegister p, fun a s => .accept (selectRegisterIn a.1 a.2 s) []⟩
  | 0x1E => some ⟨_, false, parseLoadOverride p, loadOverrideOwner⟩
  | 0x20 => some ⟨_, true, parseOne (field 48) p, fun first s => .accept s (s.voiceReport first)⟩
  | 0x22 => some ⟨_, false, parseSetBellows p, setBellowsOwner⟩
  | 0x23 => some ⟨_, false, parseSetDynamics p, setDynamicsOwner⟩
  | 0x24 => some ⟨_, false, parseSetExpression p, setExpressionOwner⟩
  | 0x25 => some ⟨_, false, parseTierMap p, loadTierMapOwner⟩
  | 0x26 => some ⟨_, false, parseSetLevel p, setLevelOwner⟩
  | 0x28 => some ⟨_, false, parsePushOverride p, pushOverrideOwner⟩
  | 0x29 => some ⟨_, false, parseOne (field 8) p, popOverrideOwner⟩
  | 0x2A => some ⟨_, false, parseEmpty p, fun _ s => .accept (writeEnable false false s) (writeEnable false false s).enableData⟩
  | 0x2B => some ⟨_, false, parseEmpty p, fun _ s => .accept (writeEnable true true s) (writeEnable true true s).enableData⟩
  | 0x2C => some ⟨_, false, parseEmpty p, fun _ s => .accept (hushPart s) (hushPart s).enableData⟩
  | 0x2D => some ⟨_, false, parseEmpty p, fun _ s => .accept (unhushPart s) (unhushPart s).enableData⟩
  | 0x2E => some ⟨_, false, parseEmpty p,
      fun _ s => .accept (panicPart s) ((panicPart s).enableData ++ [byte (panicPart s).slc.pending.toNat])⟩
  | 0x30 => some ⟨_, false, parseSetLane p, setLaneOwner⟩
  | 0x31 => some ⟨_, false, parseOne (field 4) p, resetLaneOwner⟩
  | 0x32 => some ⟨_, true, parseEmpty p, fun _ s => .accept s (allLanes.flatMap fun n => s.lanes[n].report)⟩
  | _ => none

/-- A request of a kind is taken when its frame completes its check. -/
def Request.take (r : Request) (kind tag : Byte) (s : State) : State :=
  takeRequest kind tag r.admitted r.parsed r.owner s

/-- A good frame is taken as the request of its kind, or as one of unknown kind (R169). -/
theorem takeFrame_eq (kind tag : Byte) (p : List Byte) (s : State) :
    takeFrame kind tag p s
      = (Request.of kind.toNat p).elim (takeUnknown kind tag s) fun r => r.take kind tag s := by
  obtain ⟨k, hk⟩ : ∃ k, kind.toNat = k := ⟨_, rfl⟩
  obtain rfl : kind = byte k := by rw [← hk, byte, BitVec.ofNat_toNat, BitVec.setWidth_eq]
  unfold takeFrame requestOfFrame
  rw [hk]
  fun_cases Request.of k p
  case case43 => simp only [*]; rfl
  all_goals rfl

/-- The command that a frame spells does what the receiver does with the frame. -/
theorem exec_requestOfFrame (kind tag : Byte) (p : List Byte) (s : State) :
    exec (requestOfFrame kind tag p) s = .next (takeFrame kind tag p s) := by
  have hunknown : ∀ k t q, exec (.unknownKindRequest k t q) s = .next (takeFrame k t q s) := fun _ _ _ => rfl
  unfold takeFrame
  generalize hi : requestOfFrame kind tag p = i
  unfold requestOfFrame at hi
  split at hi
  case h_43 =>
    subst hi
    rw [hunknown, takeFrame]
    simp only [requestOfFrame, *]
  all_goals subst hi; rfl

/-! ## What every command keeps -/

/-- A property that each event of a line or a timer keeps, each request, and each thing the receiver does. -/
structure KeptByCommands (P : State → Prop) : Prop where
  powerOnReset : ∀ s, P s → P (powerOnReset s)
  takePass : ∀ readings s, P s → P (takePass readings s)
  sampleArrival : ∀ w s, P s → P (sampleArrival w s)
  streamLossTimeout : ∀ s, P s → P (streamLossTimeout s)
  cueLineRise : ∀ s, P s → P (cueLineRise s)
  cueLineFall : ∀ s, P s → P (cueLineFall s)
  cueQualificationExpiry : ∀ s, P s → P (cueQualificationExpiry s)
  readyRise : ∀ n s, P s → P (readyRise n s)
  readyFall : ∀ n s, P s → P (readyFall n s)
  recordCompletion : ∀ n s, P s → P (recordCompletion n s)
  stallExpiry : ∀ n s, P s → P (stallExpiry n s)
  meterExpiry : ∀ s, P s → P (meterExpiry s)
  hostFrameCompletion : ∀ s, P s → P (hostFrameCompletion s)
  request : ∀ (k : Nat) (p : List Byte) (r : Request), Request.of k p = some r →
    ∀ kind tag s, P s → P (r.take kind tag s)
  unknown : ∀ kind tag s, P s → P (takeUnknown kind tag s)
  receive : ∀ s rx buffer gap, P s →
    P (s.setMlk { s.mlk with rx := rx, buffer := buffer, gapTimer := gap })
  drop : ∀ s, P s → P (dropFrame s)
  discard : ∀ s, P s → P s.discardFrame
  tick : ∀ s, P s → P (tick s)
  queue : ∀ s pending draws, P s → P { s with pending := pending, freeDraws := draws }

section
variable {P : State → Prop} (h : KeptByCommands P)
include h

theorem KeptByCommands.takeFrame_keeps (kind tag : Byte) (p : List Byte) (s : State) (hs : P s) :
    P (takeFrame kind tag p s) := by
  rw [takeFrame_eq]
  cases hr : Request.of kind.toNat p with
  | none => exact h.unknown kind tag s hs
  | some r => exact h.request _ p r hr kind tag s hs

theorem KeptByCommands.takeBody_keeps (body : List Byte) (s : State) (hs : P s) : P (takeBody body s) := by
  match body with
  | [] => exact hs
  | [_] => exact hs
  | kind :: tag :: payload => exact h.takeFrame_keeps kind tag payload s hs

theorem KeptByCommands.judgeByte_keeps (s : State) (b : RxByte) (hs : P s) : P (judgeByte s b) := by
  unfold judgeByte
  split
  · split_ifs
    · exact h.receive s _ _ _ hs
    · exact hs
  · split
    · exact h.drop s hs
    · split
      · exact h.receive s _ _ _ hs
      · exact h.drop s hs
  · split
    · exact h.drop s hs
    · exact h.receive s _ _ _ hs
  · split
    · exact h.drop s hs
    · split
      · exact h.takeBody_keeps _ _ (h.receive s _ _ _ hs)
      · exact h.drop s hs

theorem KeptByCommands.receiveByte_keeps (s : State) (b : RxByte) (hs : P s) : P (receiveByte s b) := by
  unfold receiveByte
  split
  · exact hs
  · exact h.judgeByte_keeps s b hs

theorem KeptByCommands.receiveBytes_keeps (bytes : List RxByte) (s : State) (hs : P s) : P (receiveBytes bytes s) := by
  induction bytes generalizing s with
  | nil => exact hs
  | cons b bytes ih => exact ih _ (h.receiveByte_keeps s b hs)

theorem KeptByCommands.gapTimeout_keeps (bytes : List RxByte) (s : State) (hs : P s) : P (gapTimeout bytes s) := by
  unfold gapTimeout gapExpired
  split_ifs
  · exact hs
  · split
    · exact h.receiveBytes_keeps bytes s hs
    · exact h.drop _ (h.receiveBytes_keeps bytes s hs)

theorem KeptByCommands.exec_keeps (c : Instr) (s t : State) (hs : P s) (he : exec c s = .next t) : P t := by
  have hreq : ∀ kind tag p, exec (requestOfFrame kind tag p) s = .next t → P t := by
    intro kind tag p he
    rw [exec_requestOfFrame] at he
    cases he
    exact h.takeFrame_keeps kind tag p s hs
  cases c with
  | powerOnReset => cases he; exact h.powerOnReset s hs
  | scanPass readings =>
    cases he
    unfold scanPass
    split_ifs
    · exact h.takePass readings s hs
    · exact hs
  | sampleArrival w => cases he; exact h.sampleArrival w s hs
  | streamLossTimeout => cases he; exact h.streamLossTimeout s hs
  | cueLineRise => cases he; exact h.cueLineRise s hs
  | cueLineFall => cases he; exact h.cueLineFall s hs
  | cueQualificationExpiry => cases he; exact h.cueQualificationExpiry s hs
  | readyRise n => cases he; exact h.readyRise n s hs
  | readyFall n => cases he; exact h.readyFall n s hs
  | recordCompletion n => cases he; exact h.recordCompletion n s hs
  | stallExpiry n => cases he; exact h.stallExpiry n s hs
  | meterExpiry => cases he; exact h.meterExpiry s hs
  | receiveBadFrame bytes => cases he; exact h.receiveBytes_keeps bytes s hs
  | gapTimeout bytes => cases he; exact h.gapTimeout_keeps bytes s hs
  | frameDiscard kind tag p =>
    cases he
    unfold frameDiscard
    split_ifs
    · exact h.discard _ (h.receive s _ _ _ hs)
    · exact h.takeFrame_keeps kind tag p s hs
  | unknownKindRequest kind tag p => cases he; exact h.takeFrame_keeps kind tag p s hs
  | hostFrameCompletion => cases he; exact h.hostFrameCompletion s hs
  | getIdentity tag p => exact hreq 0x01 tag p he
  | getStatus tag p => exact hreq 0x02 tag p he
  | restart tag p => exact hreq 0x03 tag p he
  | setNoticeMask tag p => exact hreq 0x04 tag p he
  | setMeter tag p => exact hreq 0x05 tag p he
  | readMeter tag p => exact hreq 0x06 tag p he
  | setScan tag p => exact hreq 0x08 tag p he
  | loadRoles tag p => exact hreq 0x09 tag p he
  | readButtons tag p => exact hreq 0x0A tag p he
  | loadTreblePitches tag p => exact hreq 0x0C tag p he
  | loadBassRoots tag p => exact hreq 0x0D tag p he
  | loadChordForm tag p => exact hreq 0x0E tag p he
  | setRowForms tag p => exact hreq 0x0F tag p he
  | setSectionModes tag p => exact hreq 0x10 tag p he
  | setTranspose tag p => exact hreq 0x11 tag p he
  | beginScene tag p => exact hreq 0x14 tag p he
  | loadLayer tag p => exact hreq 0x15 tag p he
  | setSceneDefaults tag p => exact hreq 0x16 tag p he
  | finishScene tag p => exact hreq 0x17 tag p he
  | eraseScene tag p => exact hreq 0x18 tag p he
  | armCue tag p => exact hreq 0x19 tag p he
  | cancelCue tag p => exact hreq 0x1A tag p he
  | fireCue tag p => exact hreq 0x1B tag p he
  | takeScene tag p => exact hreq 0x1C tag p he
  | selectRegister tag p => exact hreq 0x1D tag p he
  | loadOverride tag p => exact hreq 0x1E tag p he
  | readVoices tag p => exact hreq 0x20 tag p he
  | setBellows tag p => exact hreq 0x22 tag p he
  | setDynamics tag p => exact hreq 0x23 tag p he
  | setExpression tag p => exact hreq 0x24 tag p he
  | loadTierMap tag p => exact hreq 0x25 tag p he
  | setLevel tag p => exact hreq 0x26 tag p he
  | pushOverride tag p => exact hreq 0x28 tag p he
  | popOverride tag p => exact hreq 0x29 tag p he
  | mute tag p => exact hreq 0x2A tag p he
  | unmute tag p => exact hreq 0x2B tag p he
  | hush tag p => exact hreq 0x2C tag p he
  | unhush tag p => exact hreq 0x2D tag p he
  | panic tag p => exact hreq 0x2E tag p he
  | setLane tag p => exact hreq 0x30 tag p he
  | resetLane tag p => exact hreq 0x31 tag p he
  | readLanes tag p => exact hreq 0x32 tag p he

/-- What every command and the timebase keep, every step keeps. -/
theorem KeptByCommands.step_keeps {s t : State} (hs : P s) (he : step s = .next t) : P t := by
  rcases step_cases he with ⟨c, pending, draws, hc⟩ | rfl
  · exact h.exec_keeps c _ t (h.queue s pending draws hs) hc
  · exact h.tick s hs

end

/-! ## Properties that do not read the link -/

/-- The property reads nothing of the notices, the link, the queue and the counter. -/
def LinkBlind (P : State → Prop) : Prop :=
  ∀ s ntu mlk pending draws, P s →
    P { s with ntu := ntu, mlk := mlk, pending := pending, freeDraws := draws }

/-- The state that a verdict leaves, if it accepts, has the property. -/
def Verdict.Leaves (P : State → Prop) : Verdict → Prop
  | .refuse _ => True
  | .accept t _ => P t

section
variable {P : State → Prop} (h : LinkBlind P)
include h

theorem LinkBlind.arbitrate {s : State} (hs : P s) : P s.arbitrate := by
  rw [State.arbitrate_frame]
  exact h s _ _ s.pending s.freeDraws hs

theorem LinkBlind.raise {s : State} (n : Notice) (hs : P s) : P (s.raise n) := h s _ s.mlk s.pending s.freeDraws hs

theorem LinkBlind.setMlk {s : State} (m : Link) (hs : P s) : P (s.setMlk m) :=
  h s s.ntu m s.pending s.freeDraws hs

/-- A request keeps the property if its owner does, in a part that admits the kind, on fields that a payload reads
as. -/
theorem LinkBlind.take {r : Request} (kind tag : Byte) {s : State} (hs : P s)
    (howner : ∀ a, r.parsed = .fields a → (s.slc.part = .halted → r.admitted = true) →
      (r.owner a s.rxDone).Leaves P) :
    P (r.take kind tag s) := by
  have hrx : P s.rxDone := h.setMlk _ hs
  have hrefuse : ∀ st, P (s.rxDone.answer kind tag (.refuse st)) := fun st => h.arbitrate (h.setMlk _ hrx)
  unfold Request.take takeRequest
  simp only []
  split
  · exact h.setMlk _ hrx
  · unfold judgeRequest
    split
    · exact hrefuse _
    · split <;> exact hrefuse _
    · next a ha =>
      split
      · exact hrefuse _
      · next hadm =>
        have ho := howner a ha fun hh => by
          cases hr : r.admitted
          · simp [State.isHalted, hh, hr] at hadm
          · rfl
        cases hv : r.owner a s.rxDone with
        | refuse st => exact hrefuse st
        | accept t data =>
          rw [hv] at ho
          exact h.arbitrate (h.setMlk _ ho)

theorem LinkBlind.unknown (kind tag : Byte) {s : State} (hs : P s) : P (takeUnknown kind tag s) := by
  unfold takeUnknown
  simp only []
  split
  · exact h.setMlk _ (h.setMlk _ hs)
  · exact h.arbitrate (h.setMlk _ (h.setMlk _ hs))

end

end Sys2Proof.Machine

/-! PROOF. The frame of everything that playing does: the events of the Voice Table, transfers, cues, overrides, the
enable, Panic and the lanes' own events write no setting of the scanner, no table of the expander, no scene of the
library, nothing of the bellows front end and nothing of the link (`PlayingWork`). -/

namespace Sys2Proof.Machine

/-! ## What is raised on the way -/

/-- The pending slots after a notice has been raised (R182). -/
def NoticeUnit.withNotice (u : NoticeUnit) (n : Notice) : NoticeUnit :=
  { u with slots := put u.slots n.kindIndex (some (raiseInto u.slots[n.kindIndex] n)) }

theorem State.raise_ntu (s : State) (n : Notice) : (s.raise n).ntu = s.ntu.withNotice n := rfl

/-- The second notice unit is the first after some notices have been raised. -/
def NoticeUnit.Raised (u w : NoticeUnit) : Prop := ∃ ns : List Notice, w = ns.foldl NoticeUnit.withNotice u

theorem NoticeUnit.Raised.refl (u : NoticeUnit) : u.Raised u := ⟨[], rfl⟩

theorem NoticeUnit.Raised.of_eq {u w : NoticeUnit} (h : w = u) : u.Raised w := ⟨[], h⟩

theorem NoticeUnit.Raised.trans {u v w : NoticeUnit} (h : u.Raised v) (h' : v.Raised w) : u.Raised w := by
  obtain ⟨ns, rfl⟩ := h
  obtain ⟨ms, rfl⟩ := h'
  exact ⟨ns ++ ms, (List.foldl_append ..).symm⟩

theorem NoticeUnit.Raised.foldl {α : Type} {f : State → α → State} (hf : ∀ (t : State) a, t.ntu.Raised (f t a).ntu) (l : List α)
    (s : State) : s.ntu.Raised (l.foldl f s).ntu := by
  induction l generalizing s with
  | nil => exact .refl _
  | cons a l ih => exact (hf s a).trans (ih (f s a))

/-- Raises write nothing but the pending slots. -/
theorem NoticeUnit.Raised.frame {u w : NoticeUnit} (h : u.Raised w) : w = { u with slots := w.slots } := by
  obtain ⟨ns, rfl⟩ := h
  induction ns generalizing u with
  | nil => rfl
  | cons n ns ih => exact ih

theorem State.raise_raised (s : State) (n : Notice) : s.ntu.Raised (s.raise n).ntu := ⟨[n], rfl⟩

theorem endVoice_raised (s : State) (v : Slot) : s.ntu.Raised (endVoice s v).ntu := .of_eq (endVoice_keeps s v).1

theorem leaveVoice_ntu (x : Crosspoint) (s : State) (v : Slot) : (leaveVoice x s v).ntu = s.ntu := by
  rcases leaveVoice_cases x s v with ⟨_, e⟩ | ⟨_, e⟩ <;> rw [e]
  · rfl
  · exact (endVoice_keeps _ v).1

theorem leaveAll_raised (x : Crosspoint) (p : Voice → Bool) (s : State) : s.ntu.Raised (leaveAll x p s).ntu :=
  .foldl (fun t v => .of_eq (leaveVoice_ntu x t v)) _ s

theorem leavePhase_raised (orphans : Bool) (s : State) (p : Crosspoint × List (LayerPos × Pitch)) :
    s.ntu.Raised (leavePhase orphans s p).ntu := by
  unfold leavePhase
  simp only []
  split
  · exact (leaveAll_raised _ _ s).trans (leaveAll_raised _ _ _)
  · exact leaveAll_raised _ _ s

theorem offerStart_raised (v : Slot) (s : State) (n : LaneNo) : s.ntu.Raised (offerStart v s n).ntu := by
  rcases offerStart_cases v s n with ⟨_, _, e⟩ | ⟨_, _, e⟩ | ⟨_, e⟩ <;> rw [e]
  · exact .refl _
  · exact s.raise_raised _
  · exact .refl _

theorem fillSlot_raised (x : Crosspoint) (e : LayerPos × Pitch) (l : Layer) (s : State) (v : Slot) :
    s.ntu.Raised (fillSlot x e l s v).ntu := by
  have hstart : s.ntu.Raised (startVoice x e l s v).ntu :=
    .foldl (offerStart_raised v) _ (s.setVoice v (newVoice x e l s.vtb.seqCounter)).countStart
  unfold fillSlot
  simp only []
  split
  · exact hstart.trans (State.raise_raised _ _)
  · exact hstart

theorem allocate_raised (x : Crosspoint) (s : State) (e : LayerPos × Pitch) : s.ntu.Raised (allocate x s e).ntu := by
  unfold allocate
  split
  · exact .refl _
  · split
    · exact fillSlot_raised _ _ _ _ _
    · split
      · exact s.raise_raised _
      · simp only []
        split_ifs
        · exact ((endVoice_raised s _).trans (State.raise_raised _ _)).trans (fillSlot_raised _ _ _ _ _)
        · exact (endVoice_raised s _).trans (State.raise_raised _ _)
        · exact s.raise_raised _

theorem joinEntry_raised (x : Crosspoint) (s : State) (e : LayerPos × Pitch) : s.ntu.Raised (joinEntry x s e).ntu := by
  rcases joinEntry_cases x s e with ⟨_, _, _, h⟩ | ⟨_, _, _, _, h⟩ | ⟨_, _, _, _, h⟩ | ⟨_, h⟩ <;> rw [h]
  · exact .refl _
  · exact .refl _
  · exact s.raise_raised _
  · exact allocate_raised x s e

theorem pressKey_raised (s : State) (x : Crosspoint) : s.ntu.Raised (pressKey s x).ntu := by
  unfold pressKey
  split
  · exact .foldl (joinEntry_raised x) _ s
  · exact .refl _

theorem reexpand_raised (orphans : Bool) (d : Dir) (xs : List Crosspoint) (s : State) :
    s.ntu.Raised (reexpand orphans d xs s).ntu :=
  (NoticeUnit.Raised.foldl (leavePhase_raised orphans) _ s).trans
    (.foldl (fun t (p : Crosspoint × List (LayerPos × Pitch)) => .foldl (joinEntry_raised p.1) p.2 t) _ _)

theorem layersTransferred_raised (s : State) : s.ntu.Raised (layersTransferred s).ntu :=
  (NoticeUnit.Raised.foldl endVoice_raised _ (s.mapVoices _)).trans
    (.foldl (fun t x => .foldl (joinEntry_raised x) _ t) _ _)

theorem offerTier_raised (code : TierCode) (p : State × Bool) (n : LaneNo) :
    p.1.ntu.Raised (offerTier code p n).1.ntu := by
  unfold offerTier
  split
  · split <;> exact .refl _
  · exact .refl _

theorem offerTiers_raised (code : TierCode) (ns : List LaneNo) (p : State × Bool) :
    p.1.ntu.Raised (ns.foldl (offerTier code) p).1.ntu := by
  induction ns generalizing p with
  | nil => exact .refl _
  | cons n ns ih => exact (offerTier_raised code p n).trans (ih _)

theorem tierCheck_raised (s : State) : s.ntu.Raised (tierCheck s).ntu := by
  unfold tierCheck
  simp only []
  split
  · exact .refl _
  · rw [State.setDyn_ntu]
    exact (s.raise_raised _).trans (offerTiers_raised _ _ _)

theorem transfer_raised (n : SceneNo) (items : BitVec 3) (separate : Bool) (s : State) :
    s.ntu.Raised (transfer n items separate s).ntu := by
  unfold transfer
  simp only []
  have hcheck (t : State) : t.ntu.Raised (if hasTierMap items then tierCheck t else t).ntu := by
    split
    · exact tierCheck_raised t
    · exact .refl _
  have hwritten := hcheck (s.setLive (s.sst.live.writeItems n s.sst.library[n] items))
  generalize (if hasTierMap items then tierCheck _ else _) = u at hwritten ⊢
  refine NoticeUnit.Raised.trans (by exact hwritten) ?_
  split_ifs
  · exact layersTransferred_raised _
  · exact reexpand_raised _ _ _ _
  · exact .refl _

theorem writeEnable_raised (e sh : Bool) (s : State) : s.ntu.Raised (writeEnable e sh s).ntu := by
  unfold writeEnable
  simp only []
  split_ifs
  · exact .foldl endVoice_raised _ (s.setSlc _)
  · exact .foldl pressKey_raised _ (s.setSlc _)
  · exact .refl _

/-! ## The relation -/

/-- Between two states only what playing may change differs: voices, lanes, the Live Copy, the armed cue, the cue line's
detector, the stack, the enable and the silence-pending set, the notices raised on the way, the last code posted and the
last-posted swells. -/
structure PlayingWork (s t : State) : Prop where
  bsc : t.bsc = s.bsc
  nex : t.nex = s.nex
  library : t.sst.library = s.sst.library
  overrides : t.sst.overrides = s.sst.overrides
  bfe : t.bfe = s.bfe
  dyn : t.dyn = { s.dyn with lastCode := t.dyn.lastCode, lastSwell := t.dyn.lastSwell }
  raised : s.ntu.Raised t.ntu
  mlk : t.mlk = s.mlk
  pending : t.pending = s.pending
  freeDraws : t.freeDraws = s.freeDraws

theorem PlayingWork.refl (s : State) : PlayingWork s s := ⟨rfl, rfl, rfl, rfl, rfl, rfl, .refl _, rfl, rfl, rfl⟩

theorem PlayingWork.trans {s t u : State} (h : PlayingWork s t) (h' : PlayingWork t u) : PlayingWork s u where
  bsc := h'.bsc.trans h.bsc
  nex := h'.nex.trans h.nex
  library := h'.library.trans h.library
  overrides := h'.overrides.trans h.overrides
  bfe := h'.bfe.trans h.bfe
  dyn := h'.dyn.trans (congrArg (fun y : Dynamics => { y with lastCode := u.dyn.lastCode, lastSwell := u.dyn.lastSwell }) h.dyn)
  raised := h.raised.trans h'.raised
  mlk := h'.mlk.trans h.mlk
  pending := h'.pending.trans h.pending
  freeDraws := h'.freeDraws.trans h.freeDraws

theorem PlayingWork.foldl {α : Type} {f : State → α → State} (hf : ∀ t a, PlayingWork t (f t a)) (l : List α)
    (s : State) : PlayingWork s (l.foldl f s) := by
  induction l generalizing s with
  | nil => exact .refl s
  | cons a l ih => exact (hf s a).trans (ih (f s a))

theorem PlayingWork.ite {c : Prop} [Decidable c] {s t u : State} (ht : PlayingWork s t) (hu : PlayingWork s u) :
    PlayingWork s (if c then t else u) := by
  split
  · exact ht
  · exact hu

theorem OnlyVoiceAndTierWork.playing {s t : State} (h : OnlyVoiceAndTierWork s t) (hn : s.ntu.Raised t.ntu) :
    PlayingWork s t := by
  obtain ⟨h, -⟩ := h
  constructor
  case raised => exact hn
  all_goals rw [h]

theorem OnlyVoiceWork.playing {s t : State} (h : OnlyVoiceWork s t) (hn : s.ntu.Raised t.ntu) : PlayingWork s t :=
  h.andTier.playing hn

/-! ## Updates -/

theorem State.raise_playing (s : State) (n : Notice) : PlayingWork s (s.raise n) :=
  (s.raise_voiceWork n).playing (s.raise_raised n)

theorem State.setLane_playing (s : State) (n : LaneNo) (l : Lane) : PlayingWork s (s.setLane n l) :=
  ⟨rfl, rfl, rfl, rfl, rfl, rfl, .refl _, rfl, rfl, rfl⟩

theorem State.setVoice_playing (s : State) (v : Slot) (y : Voice) : PlayingWork s (s.setVoice v y) :=
  (s.setVoice_voiceWork v y).playing (.refl _)

theorem State.setStack_playing (s : State) (l : List StackEntry) : PlayingWork s (s.setStack l) :=
  ⟨rfl, rfl, rfl, rfl, rfl, rfl, .refl _, rfl, rfl, rfl⟩

theorem State.setSlc_playing (s : State) (b : Silencing) : PlayingWork s (s.setSlc b) :=
  ⟨rfl, rfl, rfl, rfl, rfl, rfl, .refl _, rfl, rfl, rfl⟩

theorem State.setLive_playing (s : State) (c : LiveCopy) : PlayingWork s (s.setLive c) :=
  ⟨rfl, rfl, rfl, rfl, rfl, rfl, .refl _, rfl, rfl, rfl⟩

theorem State.setSettings_playing (s : State) (t : Settings) : PlayingWork s (s.setSettings t) :=
  ⟨rfl, rfl, rfl, rfl, rfl, rfl, .refl _, rfl, rfl, rfl⟩

theorem State.disarm_playing (s : State) : PlayingWork s s.disarm :=
  ⟨rfl, rfl, rfl, rfl, rfl, rfl, .refl _, rfl, rfl, rfl⟩

/-! ## Lanes and silence -/

theorem State.silenceLane_playing (s : State) (n : LaneNo) : PlayingWork s (s.silenceLane n) := by
  have h := s.silenceLane_frame n
  constructor
  case raised => exact .of_eq (by rw [h])
  all_goals rw [h]

theorem State.leavePending_playing (s : State) (n : LaneNo) : PlayingWork s (s.leavePending n) := by
  have h := s.leavePending_frame n
  constructor
  case raised => rcases s.leavePending_cases n with ⟨_, _, e⟩ | ⟨_, e⟩ <;> rw [e]; exacts [⟨[.silenceDone], rfl⟩, .refl _]
  all_goals rw [h]

theorem deliverOwed_playing (n : LaneNo) (vs : List Slot) (s : State) : PlayingWork s (deliverOwed n vs s) := by
  have h := deliverOwed_frame n vs s
  constructor
  case raised => exact .of_eq (by rw [h])
  all_goals rw [h]

theorem silenceSent_playing (n : LaneNo) (s : State) : PlayingWork s (silenceSent n s) := by
  unfold silenceSent
  simp only []
  have leave : PlayingWork s (if LaneSet.has s.slc.stale n then
      s.setSlc { s.slc with stale := LaneSet.remove s.slc.stale n } else s.leavePending n) :=
    .ite (s.setSlc_playing _) (s.leavePending_playing n)
  exact leave.trans (.ite ((State.setLane_playing _ _ _).trans (State.leavePending_playing _ _)) (.refl _))

theorem reviveLane_playing (s : State) (n : LaneNo) : PlayingWork s (reviveLane s n) :=
  ((s.setLane_playing n _).trans (State.silenceLane_playing _ n)).trans (State.setLane_playing _ n _)

theorem applyLaneEnable_playing (n : LaneNo) (enable : Bool) (s : State) :
    PlayingWork s (applyLaneEnable n enable s) := by
  have silenced (l : Lane) : PlayingWork s ((s.setLane n l).silenceLane n) :=
    (s.setLane_playing n l).trans (State.silenceLane_playing _ n)
  unfold applyLaneEnable
  simp only []
  split
  · exact .refl s
  · exact silenced _
  · exact silenced _
  · exact .refl s
  · exact .refl s
  · exact silenced _
  · exact (s.setLane_playing n _).trans (State.leavePending_playing _ n)
  · exact .refl s

theorem writeEnable_playing (e sh : Bool) (s : State) : PlayingWork s (writeEnable e sh s) :=
  (s.setSlc_playing { s.slc with enable := e, shadow := sh }).trans ((writeEnable_voiceWork e sh s).playing (writeEnable_raised e sh s))

theorem hushPart_playing (s : State) : PlayingWork s (hushPart s) := writeEnable_playing _ _ s

theorem unhushPart_playing (s : State) : PlayingWork s (unhushPart s) := writeEnable_playing _ _ s

theorem haltPart_playing (s : State) : PlayingWork s (haltPart s) := by
  unfold haltPart
  exact (((((s.setSlc_playing _).trans (.foldl State.silenceLane_playing _ _)).trans (writeEnable_playing _ _ _)).trans
    (State.setStack_playing _ _)).trans (State.disarm_playing _)).trans (State.raise_playing _ _)

theorem panicPart_playing (s : State) : PlayingWork s (panicPart s) := by
  unfold panicPart
  exact (((PlayingWork.foldl State.silenceLane_playing _ s).trans (State.setSlc_playing _ _)).trans
    (writeEnable_playing _ _ _)).trans (.ite (State.raise_playing _ _) (.refl _))

/-! ## Transfers, cues and settings -/

theorem transfer_playing (n : SceneNo) (items : BitVec 3) (separate : Bool) (s : State) :
    PlayingWork s (transfer n items separate s) :=
  (s.setLive_playing _).trans ((transfer_frame n items separate s).playing (transfer_raised n items separate s))

theorem fireArmed_playing (c : Cue) (t : Trigger) (s : State) : PlayingWork s (fireArmed c t s) := by
  unfold fireArmed
  exact (s.disarm_playing.trans (.ite (transfer_playing _ _ _ _) (.refl _))).trans (State.raise_playing _ _)

theorem triggerCue_playing (t : Trigger) (s : State) : PlayingWork s (triggerCue t s) := by
  unfold triggerCue
  split
  · exact .ite (fireArmed_playing _ _ _) (.refl s)
  · exact .refl s

theorem reexpand_playing (orphans : Bool) (d : Dir) (xs : List Crosspoint) (s : State) :
    PlayingWork s (reexpand orphans d xs s) :=
  (reexpand_voiceWork _ _ _ s).playing (reexpand_raised _ _ _ s)

theorem tierCheck_playing (s : State) : PlayingWork s (tierCheck s) := (tierCheck_frame s).playing (tierCheck_raised s)

theorem selectRegisterIn_playing (c : Sect) (n : RegNo) (s : State) : PlayingWork s (selectRegisterIn c n s) :=
  .ite (.refl s) ((s.setSettings_playing _).trans (reexpand_playing _ _ _ _))

theorem applySettings_playing (t : Settings) (s : State) : PlayingWork s (applySettings t s) :=
  (s.setSettings_playing t).trans (reexpand_playing _ _ _ _)

theorem State.setTransposeTo_playing (s : State) (v : Int) : PlayingWork s (s.setTransposeTo v) :=
  s.setSettings_playing _

/-! ## Overrides -/

theorem pushEntry_playing (tag : Fin 8) (d : OverrideDef) (s : State) : PlayingWork s (pushEntry tag d s) := by
  have target (t : State) : PlayingWork t (match d.target with
      | some n => transfer n layersAndMap true t
      | none => t) := by
    split
    · exact transfer_playing _ _ _ t
    · exact .refl t
  exact (((s.setStack_playing _).trans (target _)).trans (applySettings_playing _ _)).trans
    (State.setTransposeTo_playing _ _)

theorem State.markReleased_playing (s : State) (tag : Fin 8) (b : Bool) : PlayingWork s (s.markReleased tag b) :=
  s.setStack_playing _

theorem switchPush_playing (n : Fin 4) (s : State) : PlayingWork s (switchPush n s) :=
  .ite (s.markReleased_playing _ _)
    (.ite (s.raise_playing _) (.ite (pushEntry_playing _ _ s) (s.raise_playing _)))

theorem restoreSettings_playing (deepest : StackEntry) (s : State) : PlayingWork s (restoreSettings deepest s) :=
  (applySettings_playing _ s).trans (State.setTransposeTo_playing _ _)

theorem restoreContext_playing (first deepest : StackEntry) (replaced : Bool) (s : State) :
    PlayingWork s (restoreContext first deepest replaced s).1 := by
  unfold restoreContext
  split
  · split
    · exact (transfer_playing _ _ _ s).trans (restoreSettings_playing _ _)
    · simp only []
      split
      · exact ((s.raise_playing _).trans (transfer_playing _ _ _ _)).trans (restoreSettings_playing _ _)
      · exact (s.raise_playing _).trans (haltPart_playing _)
  · exact restoreSettings_playing _ s

theorem popTop_playing (first : StackEntry) (below : List StackEntry) (s : State) :
    PlayingWork s (popTop first below s).1 :=
  (s.setStack_playing _).trans (restoreContext_playing _ _ _ _)

theorem switchRelease_playing (n : Fin 4) (s : State) : PlayingWork s (switchRelease n s) := by
  unfold switchRelease
  simp only []
  split
  · exact .refl s
  · exact .ite (popTop_playing _ _ s) (.ite (s.markReleased_playing _ _) (.refl s))

/-! ## Samples -/

theorem postSwell_playing (s : State) (n : LaneNo) : PlayingWork s (postSwell s n) := by
  unfold postSwell
  simp only []
  split
  · split
    · exact (s.setLane_playing n _).trans ⟨rfl, rfl, rfl, rfl, rfl, rfl, .refl _, rfl, rfl, rfl⟩
    · exact .refl s
  · exact .refl s

theorem handReversal_playing (s : State) : PlayingWork s (handReversal s) :=
  ((triggerCue_playing .reversal s).trans (reexpand_playing _ _ _ _)).trans (State.raise_playing _ _)

/-! ## The scanner's hand-on -/

/-- A count moved by one with a press or a release. -/
def moved (press : Bool) (n : Nat) : Nat := if press then n + 1 else n - 1

/-- The scanner after a change of a crosspoint with this role has moved the occupancy of its group (R8, R9). -/
def Scanner.occupied (b : Scanner) (press : Bool) : Role → Scanner
  | .override n => { b with groupOcc := put b.groupOcc n (moved press b.groupOcc[n]) }
  | .hush => { b with hushOcc := moved press b.hushOcc }
  | _ => b

/-- The scanner after a change of a crosspoint has been handed on: the held count and the occupancy (R5, R8, R9). -/
def Scanner.handedOn (b : Scanner) (press : Bool) (x : Crosspoint) : Scanner :=
  ({ b with held := if b.roles[x].plays then moved press b.held else b.held } : Scanner).occupied press b.roles[x]

theorem keyChange_playing (press : Bool) (s : State) (x : Crosspoint) :
    PlayingWork s (if press then pressKey s x else releaseKey s x) :=
  .ite ((pressKey_voiceWork s x).playing (pressKey_raised s x))
    ((releaseKey_voiceWork s x).playing (leaveAll_raised x _ s))

/-- A change routed does playing work once its own group's occupancy has been written (R8, R9). -/
theorem routeChange_playing (x : Crosspoint) (press : Bool) (s : State) :
    PlayingWork (s.setBsc (s.bsc.occupied press s.bsc.roles[x])) (routeChange x press s) := by
  unfold routeChange
  cases s.bsc.roles[x] with
  | none => exact .refl s
  | override n =>
    exact .ite (.refl _)
      (.ite (.ite (switchPush_playing _ _) (.refl _)) (.ite (switchRelease_playing _ _) (.refl _)))
  | hush =>
    exact .ite (.refl _) (.ite (.ite (hushPart_playing _) (.refl _)) (.ite (unhushPart_playing _) (.refl _)))
  | treble k => exact .ite (.refl s) (keyChange_playing press s x)
  | bass c r => exact .ite (.refl s) (keyChange_playing press s x)
  | trebleRegister n => exact .ite (selectRegisterIn_playing _ _ s) (.refl s)
  | bassRegister n => exact .ite (selectRegisterIn_playing _ _ s) (.refl s)
  | cue => exact .ite (triggerCue_playing _ s) (.refl s)

theorem countHeld_eq (x : Crosspoint) (press : Bool) (s : State) :
    countHeld x press s
      = s.setBsc { s.bsc with held := if s.bsc.roles[x].plays then moved press s.bsc.held else s.bsc.held } := by
  unfold countHeld moved
  split <;> rfl

/-- A change handed on moves the scanner's counts and otherwise does playing work (R3, R12). -/
theorem handOn_playing (press : Bool) (s : State) (x : Crosspoint) :
    PlayingWork (s.setBsc (s.bsc.handedOn press x)) (handOn press s x) := by
  have h := routeChange_playing x press (countHeld x press s)
  rw [countHeld_eq] at h
  exact .trans (by exact h) (by rw [← countHeld_eq]; exact State.raise_playing _ _)

end Sys2Proof.Machine

/-! PROOF. Which requests do playing work alone, and which write a block of settings: the owners, kind by kind. -/

namespace Sys2Proof.Machine

/-- The request kinds whose owners write more than playing work does: link counts, RESTART, mask and meter, the scanner's
and the expander's tables, the library, the definitions, the bellows front end's and the Dynamics Unit's settings. -/
def settingKinds : List Nat :=
  [0x02, 0x03, 0x04, 0x05, 0x08, 0x09, 0x0C, 0x0D, 0x0E, 0x0F, 0x14, 0x15, 0x16, 0x17, 0x18, 0x1E, 0x22, 0x23, 0x24,
   0x26]

theorem Verdict.leaves_ite {P : State → Prop} {c : Prop} [Decidable c] {v w : Verdict} (hv : c → v.Leaves P)
    (hw : ¬ c → w.Leaves P) : (if c then v else w).Leaves P := by
  split
  · next h => exact hv h
  · next h => exact hw h

theorem fireCueOwner_playing (u : Unit) (s : State) : (fireCueOwner u s).Leaves (PlayingWork s) := by
  unfold fireCueOwner
  split
  · exact Verdict.leaves_ite (fun _ => fireArmed_playing _ _ s) fun _ => trivial
  · trivial

theorem pushOverrideOwner_playing (a : Fin 8 × OverrideDef) (s : State) :
    (pushOverrideOwner a s).Leaves (PlayingWork s) :=
  Verdict.leaves_ite (fun _ => trivial) fun _ => Verdict.leaves_ite (fun _ => trivial) fun _ =>
    Verdict.leaves_ite (fun _ => pushEntry_playing _ _ s) fun _ => trivial

theorem popOverrideOwner_playing (tag : Fin 8) (s : State) : (popOverrideOwner tag s).Leaves (PlayingWork s) := by
  unfold popOverrideOwner
  split
  · trivial
  · exact Verdict.leaves_ite (fun _ => popTop_playing _ _ s) fun _ => trivial

theorem setLaneOwner_playing (a : LaneNo × Bool × Nat) (s : State) : (setLaneOwner a s).Leaves (PlayingWork s) :=
  Verdict.leaves_ite (fun _ => trivial) fun _ => (s.setLane_playing _ _).trans (applyLaneEnable_playing _ _ _)

theorem resetLaneOwner_playing (n : LaneNo) (s : State) : (resetLaneOwner n s).Leaves (PlayingWork s) :=
  Verdict.leaves_ite (fun _ => trivial) fun _ => reviveLane_playing s n

/-- The owner of a request of any other kind does playing work. -/
theorem Request.owner_playing {k : Nat} {p : List Byte} {r : Request} (hr : Request.of k p = some r)
    (hk : k ∉ settingKinds) (a : r.Fields) (s : State) : (r.owner a s).Leaves (PlayingWork s) := by
  revert hk
  fun_cases Request.of k p <;> simp only [Request.of, Option.some.injEq, reduceCtorEq] at hr <;> subst hr
  case case1 | case6 | case9 | case27 | case42 => exact fun _ => .refl s
  case case14 => exact fun _ => applySettings_playing _ s
  case case15 => exact fun _ => s.setTransposeTo_playing a
  case case21 => exact fun _ => ⟨rfl, rfl, rfl, rfl, rfl, rfl, .refl _, rfl, rfl, rfl⟩
  case case22 => exact fun _ => Verdict.leaves_ite (fun _ => s.disarm_playing) fun _ => trivial
  case case23 => exact fun _ => fireCueOwner_playing a s
  case case24 => exact fun _ => Verdict.leaves_ite (fun _ => transfer_playing _ _ _ s) fun _ => trivial
  case case25 => exact fun _ => selectRegisterIn_playing _ _ s
  case case31 => exact fun _ => (s.setLive_playing _).trans (tierCheck_playing _)
  case case33 => exact fun _ => pushOverrideOwner_playing a s
  case case34 => exact fun _ => popOverrideOwner_playing a s
  case case35 | case36 | case37 | case38 => exact fun _ => writeEnable_playing _ _ s
  case case39 => exact fun _ => panicPart_playing s
  case case40 => exact fun _ => setLaneOwner_playing a s
  case case41 => exact fun _ => resetLaneOwner_playing a s
  all_goals exact fun hk => absurd (by decide) hk

/-! ## RESTART, in its stages -/

/-- The part once RESTART has cleared its blocks, before the lanes (R180 steps 1 to 7). -/
def State.restartCleared (s : State) : State :=
  let s := s.setBsc (restartScanner s.bsc)
  let s := s.setVtb (restartVoices s.vtb)
  let s := s.setBfe (restartBellows s.bfe)
  let s := s.setDyn (restartDynamics s.sst.live.tierMap s.dyn)
  (s.disarm.setStack []).setSlc { enable := true, shadow := true, part := .playing, pending := 0, stale := 0 }

/-- The end of RESTART: notices and counts cleared, the meter restarted, IDENTITY raised (R180 steps 9 and 10). -/
def State.restartNoticed (s : State) : State :=
  let s := s.setNtu { s.ntu with slots := Vector.replicate 13 none, meterTimer := meterStart s.ntu.interval }
  let s := s.clearLinkCounts
  (s.setMlk { s.mlk with cause := .restart }).raise (.identity .restart)

section
variable (s : State)
@[simp] theorem State.restartNoticed_bsc : s.restartNoticed.bsc = s.bsc := rfl
@[simp] theorem State.restartNoticed_nex : s.restartNoticed.nex = s.nex := rfl
@[simp] theorem State.restartNoticed_sst : s.restartNoticed.sst = s.sst := rfl
@[simp] theorem State.restartNoticed_vtb : s.restartNoticed.vtb = s.vtb := rfl
@[simp] theorem State.restartNoticed_bfe : s.restartNoticed.bfe = s.bfe := rfl
@[simp] theorem State.restartNoticed_dyn : s.restartNoticed.dyn = s.dyn := rfl
@[simp] theorem State.restartNoticed_stack : s.restartNoticed.stack = s.stack := rfl
@[simp] theorem State.restartNoticed_slc : s.restartNoticed.slc = s.slc := rfl
@[simp] theorem State.restartNoticed_lanes : s.restartNoticed.lanes = s.lanes := rfl
@[simp] theorem State.restartNoticed_pending : s.restartNoticed.pending = s.pending := rfl
@[simp] theorem State.restartNoticed_freeDraws : s.restartNoticed.freeDraws = s.freeDraws := rfl
@[simp] theorem State.restartCleared_bsc : s.restartCleared.bsc = restartScanner s.bsc := rfl
@[simp] theorem State.restartCleared_nex : s.restartCleared.nex = s.nex := rfl
@[simp] theorem State.restartCleared_sst : s.restartCleared.sst = { s.sst with armed := none } := rfl
@[simp] theorem State.restartCleared_vtb : s.restartCleared.vtb = restartVoices s.vtb := rfl
@[simp] theorem State.restartCleared_bfe : s.restartCleared.bfe = restartBellows s.bfe := rfl
@[simp] theorem State.restartCleared_dyn : s.restartCleared.dyn = restartDynamics s.sst.live.tierMap s.dyn := rfl
@[simp] theorem State.restartCleared_stack : s.restartCleared.stack = [] := rfl
@[simp] theorem State.restartCleared_slc : s.restartCleared.slc = ⟨true, true, .playing, 0, 0⟩ := rfl
@[simp] theorem State.restartCleared_lanes : s.restartCleared.lanes = s.lanes := rfl
@[simp] theorem State.restartCleared_ntu : s.restartCleared.ntu = s.ntu := rfl
@[simp] theorem State.restartCleared_mlk : s.restartCleared.mlk = s.mlk := rfl
@[simp] theorem State.restartCleared_pending : s.restartCleared.pending = s.pending := rfl
@[simp] theorem State.restartCleared_freeDraws : s.restartCleared.freeDraws = s.freeDraws := rfl
end

theorem restartOwner_eq (u : Unit) (s : State) :
    restartOwner u s = .accept (allLanes.foldl restartLane s.restartCleared).restartNoticed [] := by
  simp only [restartOwner, State.restartNoticed, State.restartCleared]

theorem restartLanes_playing (s : State) : PlayingWork s (allLanes.foldl restartLane s) :=
  .foldl (fun t n => .ite (.refl t) (reviveLane_playing t n)) _ _

/-! ## Events that do playing work -/

/-- An event does playing work, and then the idle output makes its choice, or no notice has been raised. -/
def PlayingEvent (s t : State) : Prop := ∃ u, PlayingWork s u ∧ (t = u ∧ u.ntu = s.ntu ∨ t = u.arbitrate)

theorem PlayingEvent.refl (s : State) : PlayingEvent s s := ⟨s, .refl s, .inl ⟨rfl, rfl⟩⟩

theorem PlayingWork.event {s t : State} (h : PlayingWork s t) (hn : t.ntu = s.ntu) : PlayingEvent s t :=
  ⟨t, h, .inl ⟨rfl, hn⟩⟩

theorem PlayingWork.eventArbitrated {s t : State} (h : PlayingWork s t) : PlayingEvent s t.arbitrate := ⟨t, h, .inr rfl⟩

theorem cueLineRise_playing (s : State) : PlayingEvent s (cueLineRise s) := by
  unfold cueLineRise
  simp only []
  split <;> exact PlayingWork.event ⟨rfl, rfl, rfl, rfl, rfl, rfl, .refl _, rfl, rfl, rfl⟩ rfl

theorem cueLineFall_playing (s : State) : PlayingEvent s (cueLineFall s) := by
  unfold cueLineFall
  simp only []
  split <;> exact PlayingWork.event ⟨rfl, rfl, rfl, rfl, rfl, rfl, .refl _, rfl, rfl, rfl⟩ rfl

theorem cueQualificationExpiry_playing (s : State) : PlayingEvent s (cueQualificationExpiry s) := by
  have detector (d : Detector) (t : Timer) :
      PlayingWork s (s.setSst { s.sst with detector := d, qualTimer := t }) :=
    ⟨rfl, rfl, rfl, rfl, rfl, rfl, .refl _, rfl, rfl, rfl⟩
  unfold cueQualificationExpiry
  split
  · exact ((detector _ _).trans (triggerCue_playing _ _)).eventArbitrated
  · exact .refl s

theorem readyRise_playing (n : LaneNo) (s : State) : PlayingEvent s (readyRise n s) := by
  unfold readyRise
  split
  · exact .refl s
  · exact (s.setLane_playing n _).event rfl

theorem readyFall_playing (n : LaneNo) (s : State) : PlayingEvent s (readyFall n s) := by
  unfold readyFall
  split
  · exact (s.setLane_playing n _).event rfl
  · exact .refl s

theorem recordCompletion_playing (n : LaneNo) (s : State) : PlayingEvent s (recordCompletion n s) := by
  unfold recordCompletion
  simp only []
  split
  · exact ((((s.setLane_playing n _).trans (.ite (silenceSent_playing n _) (.refl _))).trans
      (.ite (deliverOwed_playing n _ _) (.refl _))).trans (State.setLane_playing _ n _)).eventArbitrated
  · exact .refl s

theorem stallExpiry_playing (n : LaneNo) (s : State) : PlayingEvent s (stallExpiry n s) := by
  unfold stallExpiry
  simp only []
  split
  · exact ((((s.setLane_playing n _).trans ((State.mapVoices_voiceWork _ _).playing (.refl _))).trans
      (State.leavePending_playing _ n)).trans (State.raise_playing _ _)).eventArbitrated
  · exact .refl s

/-! ## Properties that playing work keeps -/

section
variable {P : State → Prop} (h : LinkBlind P)
include h

theorem LinkBlind.playingEvent (hplay : ∀ s t, PlayingWork s t → P s → P t) {s t : State} (he : PlayingEvent s t)
    (hs : P s) : P t := by
  obtain ⟨u, hu, ⟨rfl, -⟩ | rfl⟩ := he
  · exact hplay s _ hu hs
  · exact h.arbitrate (hplay s _ hu hs)

theorem LinkBlind.meterExpiry (s : State) (hs : P s) : P (meterExpiry s) := by
  unfold Machine.meterExpiry
  split
  · exact h.arbitrate (h.raise _ (h s _ s.mlk s.pending s.freeDraws hs))
  · exact hs

theorem LinkBlind.hostFrameCompletion (s : State) (hs : P s) : P (hostFrameCompletion s) := by
  unfold Machine.hostFrameCompletion
  split
  · exact hs
  · exact h.arbitrate (h.setMlk _ hs)
  · exact h.arbitrate (h.setMlk _ hs)

end

/-- What playing work keeps, and the scan pass, the samples, the setting requests, reset and time, every command keeps. -/
theorem keptByCommands_of_playing {P : State → Prop} (h : LinkBlind P) (hplay : ∀ s t, PlayingWork s t → P s → P t)
    (hpower : ∀ s, P s → P (powerOnReset s)) (hpass : ∀ readings s, P s → P (takePass readings s))
    (hsample : ∀ w s, P s → P (sampleArrival w s)) (hloss : ∀ s, P s → P (streamLossTimeout s))
    (hsettings : ∀ k ∈ settingKinds, ∀ p r, Request.of k p = some r → ∀ a s, P s → r.parsed = .fields a →
      (r.owner a s).Leaves P)
    (htick : ∀ s, P s → P (tick s)) : KeptByCommands P where
  powerOnReset := hpower
  takePass := hpass
  sampleArrival := hsample
  streamLossTimeout := hloss
  cueLineRise s := h.playingEvent hplay (cueLineRise_playing s)
  cueLineFall s := h.playingEvent hplay (cueLineFall_playing s)
  cueQualificationExpiry s := h.playingEvent hplay (cueQualificationExpiry_playing s)
  readyRise n s := h.playingEvent hplay (readyRise_playing n s)
  readyFall n s := h.playingEvent hplay (readyFall_playing n s)
  recordCompletion n s := h.playingEvent hplay (recordCompletion_playing n s)
  stallExpiry n s := h.playingEvent hplay (stallExpiry_playing n s)
  meterExpiry := h.meterExpiry
  hostFrameCompletion := h.hostFrameCompletion
  request k p r hr kind tag s hs := by
    refine h.take kind tag hs fun a ha _ => ?_
    by_cases hk : k ∈ settingKinds
    · exact hsettings k hk p r hr a s.rxDone (h.setMlk _ hs) ha
    · have ho := r.owner_playing hr hk a s.rxDone
      cases hv : r.owner a s.rxDone with
      | refuse st => trivial
      | accept t data =>
        rw [hv] at ho
        exact hplay _ t ho (h.setMlk _ hs)
  unknown kind tag _ hs := h.unknown kind tag hs
  receive _ _ _ _ hs := h.setMlk _ hs
  drop _ hs := h.setMlk _ hs
  discard _ hs := h.setMlk _ hs
  tick := htick
  queue s pending draws hs := h s s.ntu s.mlk pending draws hs

end Sys2Proof.Machine

/-! PROOF. A sample arrival in its stages (R87 to R97, R106): the sensor checks, the judgement, the hand-off, and what
the Dynamics Unit's stages compute beside the tier check and the swells. -/

namespace Sys2Proof.Machine

/-! ## The dynamics of a processed sample -/

/-- What the stages of a processed sample of magnitude m compute beside the tier check and the swells: surge, window,
smoothed pressure, expression (R106). -/
def Dynamics.processed (m : Nat) (y : Dynamics) : Dynamics := expressionStage m (windowStage m (surgeStage m y))

/-- The stages read and write neither the last code posted nor the last-posted swells. -/
theorem Dynamics.processed_posted (m : Nat) (y : Dynamics) (c : Option TierCode) (x : Vector (Fin 128) 4) :
    ({ y with lastCode := c, lastSwell := x } : Dynamics).processed m
      = { y.processed m with lastCode := c, lastSwell := x } := by
  unfold Dynamics.processed surgeStage windowStage
  simp only [Dynamics.move]
  split_ifs <;> rfl

theorem expressionStage_posted (m : Nat) (y : Dynamics) (c : Option TierCode) (x : Vector (Fin 128) 4) :
    expressionStage m { y with lastCode := c, lastSwell := x }
      = { expressionStage m y with lastCode := c, lastSwell := x } := rfl

/-- A processed sample writes what the stages compute, and otherwise does playing work. -/
theorem processSample_playing (m : Nat) (s : State) :
    PlayingWork (s.setDyn (s.dyn.processed m)) (processSample m s) := by
  unfold processSample
  simp only []
  generalize hA : s.setDyn (windowStage m (surgeStage m s.dyn)) = A
  have hAB := tierCheck_playing A
  generalize tierCheck A = B at hAB ⊢
  have hC : PlayingWork (s.setDyn (s.dyn.processed m)) (B.setDyn (expressionStage m B.dyn)) := by
    subst hA
    refine ⟨hAB.bsc, hAB.nex, hAB.library, hAB.overrides, hAB.bfe, ?_, hAB.raised, hAB.mlk, hAB.pending, hAB.freeDraws⟩
    have hdyn := hAB.dyn
    simp only [State.setDyn_dyn] at hdyn ⊢
    rw [hdyn, expressionStage_posted]
    rfl
  exact hC.trans (.foldl postSwell_playing _ _)

/-- The stages behind playing work are the stages before it. -/
theorem PlayingWork.processed {s t : State} (h : PlayingWork s t) (m : Nat) :
    PlayingWork (s.setDyn (s.dyn.processed m)) (t.setDyn (t.dyn.processed m)) := by
  refine ⟨h.bsc, h.nex, h.library, h.overrides, h.bfe, ?_, h.raised, h.mlk, h.pending, h.freeDraws⟩
  have hdyn := h.dyn
  simp only [State.setDyn_dyn]
  rw [hdyn, Dynamics.processed_posted]

/-- What the Dynamics Unit computes of a judged sample of magnitude m: nothing of a held one (R96). -/
def Dynamics.handed (y : Dynamics) (j : Judgement) (m : Nat) : Dynamics :=
  match j with
  | .held => y
  | .processed | .reversal => y.processed m

theorem handOff_playing (j : Judgement) (m : Nat) (s : State) :
    PlayingWork (s.setDyn (s.dyn.handed j m)) (handOff j m s) := by
  cases j with
  | held => exact .refl s
  | processed => exact processSample_playing m s
  | reversal => exact ((handReversal_playing s).processed m).trans (processSample_playing m _)

/-! ## The arrival -/

/-- Stages 2 to 5 of a sample r with a held count: the front end after it, and the judgement (R88 to R95). -/
def Bellows.judged (b : Bellows) (held : Nat) (r : Int) : Bellows × Judgement :=
  judge (classify b.settings.still (correct b.offset r))
    (track held (correct b.offset r) (classify b.settings.still (correct b.offset r)) b)

/-- The part after stage 1 of the arrival of a word (R87, R98 to R100). -/
def State.sensed (s : State) (w : BitVec 16) : State :=
  raiseSensor s.bfe.sensor (s.setBfe (sensorStage w.toInt s.bfe))

theorem raiseSensor_playing (before : SensorState) (s : State) : PlayingWork s (raiseSensor before s) :=
  .ite (.refl s) (s.raise_playing _)

theorem State.sensed_playing (s : State) (w : BitVec 16) :
    PlayingWork (s.setBfe (sensorStage w.toInt s.bfe)) (s.sensed w) := raiseSensor_playing _ _

theorem State.sensed_bfe (s : State) (w : BitVec 16) : (s.sensed w).bfe = sensorStage w.toInt s.bfe :=
  (s.sensed_playing w).bfe

/-- An arrival that leaves the sensor faulted ends at stage 1; any other is judged and handed off (R96, R100). -/
theorem sampleArrival_cases (w : BitVec 16) (s : State) :
    ((sensorStage w.toInt s.bfe).sensor ≠ .ok ∧ sampleArrival w s = (s.sensed w).arbitrate)
      ∨ ((sensorStage w.toInt s.bfe).sensor = .ok
        ∧ sampleArrival w s = (handOff ((sensorStage w.toInt s.bfe).judged s.bsc.held w.toInt).2
            (magnitude (correct (sensorStage w.toInt s.bfe).offset w.toInt))
            ((s.sensed w).setBfe ((sensorStage w.toInt s.bfe).judged s.bsc.held w.toInt).1)).arbitrate) := by
  have hbfe := s.sensed_bfe w
  have hbsc : (s.sensed w).bsc = s.bsc := (s.sensed_playing w).bsc
  have hgo : sampleArrival w s
      = (if (s.sensed w).bfe.sensor = .ok then takeSample w.toInt (s.sensed w) else s.sensed w).arbitrate := rfl
  rw [hgo, hbfe]
  by_cases h : (sensorStage w.toInt s.bfe).sensor = .ok
  · refine .inr ⟨h, ?_⟩
    rw [if_pos h]
    unfold takeSample
    simp only [hbfe, hbsc]
    rfl
  · exact .inl ⟨h, by rw [if_neg h]⟩

/-- An arrival writes the front end and what the Dynamics Unit's stages compute, and otherwise does playing work. -/
theorem sampleArrival_playing (w : BitVec 16) (s : State) :
    ((sensorStage w.toInt s.bfe).sensor ≠ .ok
        ∧ PlayingEvent (s.setBfe (sensorStage w.toInt s.bfe)) (sampleArrival w s))
      ∨ ((sensorStage w.toInt s.bfe).sensor = .ok
        ∧ PlayingEvent
          ((s.setBfe ((sensorStage w.toInt s.bfe).judged s.bsc.held w.toInt).1).setDyn
            (s.dyn.handed ((sensorStage w.toInt s.bfe).judged s.bsc.held w.toInt).2
              (magnitude (correct (sensorStage w.toInt s.bfe).offset w.toInt))))
          (sampleArrival w s)) := by
  have hs := s.sensed_playing w
  rcases sampleArrival_cases w s with ⟨h, e⟩ | ⟨h, e⟩
  · exact .inl ⟨h, by rw [e]; exact hs.eventArbitrated⟩
  · refine .inr ⟨h, ?_⟩
    rw [e]
    generalize (sensorStage w.toInt s.bfe).judged s.bsc.held w.toInt = j
    generalize magnitude (correct (sensorStage w.toInt s.bfe).offset w.toInt) = m
    have hdyn : (s.sensed w).dyn = s.dyn := by
      unfold State.sensed raiseSensor
      split <;> rfl
    have hbfe : PlayingWork ((s.setBfe j.1).setDyn (s.dyn.handed j.2 m))
        (((s.sensed w).setBfe j.1).setDyn (((s.sensed w).setBfe j.1).dyn.handed j.2 m)) := by
      rw [State.setBfe_dyn, hdyn]
      exact ⟨hs.bsc, hs.nex, hs.library, hs.overrides, rfl, rfl, hs.raised, hs.mlk, hs.pending, hs.freeDraws⟩
    exact (hbfe.trans (handOff_playing j.2 m _)).eventArbitrated

theorem streamLossTimeout_playing (s : State) : ∃ b, (b = s.bfe ∨ b = { s.bfe with lost := true, lossTimer := none })
    ∧ PlayingEvent (s.setBfe b) (streamLossTimeout s) := by
  unfold streamLossTimeout
  split
  · exact ⟨_, .inr rfl, (raiseSensor_playing _ _).eventArbitrated⟩
  · exact ⟨_, .inl rfl, .refl s⟩

theorem PlayingEvent.bsc {s t : State} (h : PlayingEvent s t) : t.bsc = s.bsc := by
  obtain ⟨u, hu, ⟨rfl, -⟩ | rfl⟩ := h
  · exact hu.bsc
  · rw [State.arbitrate_bsc, hu.bsc]

theorem sampleArrival_bsc (w : BitVec 16) (s : State) : (sampleArrival w s).bsc = s.bsc := by
  rcases sampleArrival_playing w s with ⟨_, h⟩ | ⟨_, h⟩ <;> exact h.bsc

theorem streamLossTimeout_bsc (s : State) : (streamLossTimeout s).bsc = s.bsc := by
  obtain ⟨b, -, h⟩ := streamLossTimeout_playing s
  exact h.bsc

end Sys2Proof.Machine

/-! PROOF. The scanner's settings and counts (R1, R2, R5, R8, R9): a pass moves each count by the changes it hands on,
and the changes are the difference between the debounced states before and after. -/

namespace Sys2Proof.Machine

/-! ## Debounce -/

/-- A debounced count stays below the depth (R2). -/
theorem debounce_count_lt {depth : Nat} (reading : Bool) {b : Button} (h : b.count < depth) :
    (debounce depth reading b).count < depth := by
  unfold debounce
  split_ifs <;> simp only [] <;> omega

theorem debounceAll_get (depth : Nat) (readings : Readings) (buttons : Vector Button 256) (x : Crosspoint) :
    (debounceAll depth readings buttons)[x] = debounce depth (readings.getLsbD x.val) buttons[x] := get_tabulate _ _

theorem clearCounts_get (buttons : Vector Button 256) (x : Crosspoint) :
    (clearCounts buttons)[x] = { buttons[x] with count := 0 } := get_tabulate _ _

/-! ## Counting crosspoints by their role -/

/-- The crosspoints of a list whose role satisfies p. -/
def roleCount (roles : Vector Role 256) (p : Role → Bool) (xs : List Crosspoint) : Nat :=
  xs.countP fun x => p roles[x]

theorem Scanner.pressedWith_length (b : Scanner) (p : Role → Bool) :
    (b.pressedWith p).length = allCrosspoints.countP fun x => b.buttons[x].pressed && p b.roles[x] := by
  rw [Scanner.pressedWith, List.countP_eq_length_filter]

/-- What held before and what has come to hold is what holds after and what has ceased to hold. -/
theorem countP_changes {α : Type} (b a p : α → Bool) (xs : List α) :
    xs.countP (fun x => b x && p x) + (xs.filter fun x => b x != true && a x == true).countP p
      = xs.countP (fun x => a x && p x) + (xs.filter fun x => b x != false && a x == false).countP p := by
  simp only [List.countP_filter]
  induction xs with
  | nil => rfl
  | cons x xs ih =>
    simp only [List.countP_cons]
    cases b x <;> cases a x <;> cases p x <;> simp at ih ⊢ <;> omega

/-- What was pressed and what has become pressed is what is pressed and what has become released. -/
theorem countP_confirmed (before after : Vector Button 256) (p : Crosspoint → Bool) :
    allCrosspoints.countP (fun x => before[x].pressed && p x) + (confirmed true before after).countP p
      = allCrosspoints.countP (fun x => after[x].pressed && p x) + (confirmed false before after).countP p :=
  countP_changes (fun x => before[x].pressed) (fun x => after[x].pressed) p allCrosspoints

/-- At most what was pressed becomes released. -/
theorem countP_released_le (before after : Vector Button 256) (p : Crosspoint → Bool) :
    (confirmed false before after).countP p ≤ allCrosspoints.countP fun x => before[x].pressed && p x := by
  unfold confirmed
  rw [List.countP_filter]
  refine List.countP_mono_left fun x _ h => ?_
  cases hb : before[x].pressed <;> simp_all

/-! ## Changes handed on -/

theorem Scanner.handedOn_keeps (b : Scanner) (press : Bool) (x : Crosspoint) :
    b.handedOn press x = { b with
      held := (b.handedOn press x).held, groupOcc := (b.handedOn press x).groupOcc
      hushOcc := (b.handedOn press x).hushOcc } := by
  unfold Scanner.handedOn Scanner.occupied
  cases b.roles[x] <;> rfl

theorem Scanner.handedOn_held (b : Scanner) (press : Bool) (x : Crosspoint) :
    (b.handedOn press x).held = if b.roles[x].plays then moved press b.held else b.held := by
  unfold Scanner.handedOn Scanner.occupied
  split <;> rfl

theorem Scanner.handedOn_groupOcc (b : Scanner) (press : Bool) (x : Crosspoint) (n : Fin 4) :
    (b.handedOn press x).groupOcc[n]
      = if b.roles[x] == .override n then moved press b.groupOcc[n] else b.groupOcc[n] := by
  unfold Scanner.handedOn Scanner.occupied
  cases b.roles[x] with
  | override m =>
    simp only [get_put]
    by_cases h : n = m
    · subst h; simp
    · simp [h, Ne.symm h]
  | _ => rfl

theorem Scanner.handedOn_hushOcc (b : Scanner) (press : Bool) (x : Crosspoint) :
    (b.handedOn press x).hushOcc = if b.roles[x] == .hush then moved press b.hushOcc else b.hushOcc := by
  unfold Scanner.handedOn Scanner.occupied
  cases b.roles[x] <;> rfl

/-- A count moved by several changes of one kind: up by as many, or down by as many, at most to 0. -/
def movedBy (press : Bool) (n k : Nat) : Nat := if press then n + k else n - k

/-- The scanner after changes have been handed on: each count has moved by the changes it counts (R3, R5, R8, R9). -/
theorem handOns_counts (press : Bool) (xs : List Crosspoint) (s : State) :
    let t := xs.foldl (handOn press) s
    t.bsc = { s.bsc with held := t.bsc.held, groupOcc := t.bsc.groupOcc, hushOcc := t.bsc.hushOcc }
      ∧ t.bsc.held = movedBy press s.bsc.held (roleCount s.bsc.roles Role.plays xs)
      ∧ (∀ n : Fin 4, t.bsc.groupOcc[n]
          = movedBy press s.bsc.groupOcc[n] (roleCount s.bsc.roles (fun r => r == .override n) xs))
      ∧ t.bsc.hushOcc = movedBy press s.bsc.hushOcc (roleCount s.bsc.roles (fun r => r == .hush) xs) := by
  induction xs generalizing s with
  | nil => cases press <;> simp [movedBy, roleCount]
  | cons x xs ih =>
    have hx : (handOn press s x).bsc = s.bsc.handedOn press x := (handOn_playing press s x).bsc
    have hroles : (s.bsc.handedOn press x).roles = s.bsc.roles := by rw [Scanner.handedOn_keeps]
    have one (p : Role → Bool) (n : Nat) :
        movedBy press (if p s.bsc.roles[x] then moved press n else n) (roleCount s.bsc.roles p xs)
          = movedBy press n (roleCount s.bsc.roles p (x :: xs)) := by
      unfold roleCount movedBy moved
      rw [List.countP_cons]
      cases press <;> cases p s.bsc.roles[x] <;> simp <;> omega
    obtain ⟨hkeeps, hheld, hgroup, hhush⟩ := ih (handOn press s x)
    rw [hx] at hkeeps hheld hgroup hhush
    rw [hroles] at hheld hgroup hhush
    simp only [List.foldl_cons]
    refine ⟨?_, ?_, fun n => ?_, ?_⟩
    · rw [hkeeps, Scanner.handedOn_keeps]
    · rw [hheld, Scanner.handedOn_held, one]
    · rw [hgroup, Scanner.handedOn_groupOcc, one fun r => r == .override n]
    · rw [hhush, Scanner.handedOn_hushOcc, one fun r => r == .hush]

/-- A count after a pass: down by the releases that it counts, then up by the presses. -/
def passCount (roles : Vector Role 256) (p : Role → Bool) (releases presses : List Crosspoint) (n : Nat) : Nat :=
  n - roleCount roles p releases + roleCount roles p presses

/-- The scanner after releases and then presses have been handed on. -/
theorem handOns_both (releases presses : List Crosspoint) (u : State) :
    let t := presses.foldl (handOn true) (releases.foldl (handOn false) u)
    t.bsc = { u.bsc with held := t.bsc.held, groupOcc := t.bsc.groupOcc, hushOcc := t.bsc.hushOcc }
      ∧ t.bsc.held = passCount u.bsc.roles Role.plays releases presses u.bsc.held
      ∧ (∀ n : Fin 4, t.bsc.groupOcc[n]
          = passCount u.bsc.roles (fun r => r == .override n) releases presses u.bsc.groupOcc[n])
      ∧ t.bsc.hushOcc = passCount u.bsc.roles (fun r => r == .hush) releases presses u.bsc.hushOcc := by
  obtain ⟨hk, hh, hg, hq⟩ := handOns_counts false releases u
  generalize releases.foldl (handOn false) u = v at hk hh hg hq ⊢
  obtain ⟨hk', hh', hg', hq'⟩ := handOns_counts true presses v
  have hroles : v.bsc.roles = u.bsc.roles := by rw [hk]
  rw [hroles] at hh' hg' hq'
  refine ⟨?_, ?_, fun n => ?_, ?_⟩
  · rw [hk', hk]
  · rw [hh', hh]; rfl
  · rw [hg', hg]; rfl
  · rw [hq', hq]; rfl

/-- The scanner in a pass once every crosspoint has been debounced and the timer restarted (R1, R2). -/
def Scanner.debounced (b : Scanner) (readings : Readings) : Scanner :=
  { b with buttons := debounceAll b.depth readings b.buttons, passTimer := some 0 }

/-- The crosspoints whose debounced state becomes `pressed` in a pass with these readings (R2, R3). -/
def Scanner.flips (b : Scanner) (readings : Readings) (pressed : Bool) : List Crosspoint :=
  confirmed pressed b.buttons (b.debounced readings).buttons

/-- A pass debounces, hands on the releases and then the presses, and the output makes its choice (R1 to R3). -/
theorem takePass_eq (readings : Readings) (s : State) :
    takePass readings s = ((s.bsc.flips readings true).foldl (handOn true)
      ((s.bsc.flips readings false).foldl (handOn false) (s.setBsc (s.bsc.debounced readings)))).arbitrate := rfl

/-! ## The invariant -/

/-- The scanner's settings and counts lie in their ranges and agree with what they count. -/
def Scanner.Sound (b : Scanner) : Prop := b.InRange ∧ b.CountsAgree

theorem Scanner.sound_linkBlind : LinkBlind fun s => s.bsc.Sound := fun _ _ _ _ _ h => h

/-- What leaves the scanner as it is keeps the invariant. -/
theorem PlayingWork.scannerSound {s t : State} (h : PlayingWork s t) (hs : s.bsc.Sound) : t.bsc.Sound := by
  rw [h.bsc]
  exact hs

/-- A pass keeps the counts right: releases leave and presses join what each counts (R3, R5, R8, R9). -/
theorem takePass_scannerSound (readings : Readings) (s : State) (hs : s.bsc.Sound) :
    (takePass readings s).bsc.Sound := by
  obtain ⟨⟨hint, hdepth, hcount⟩, hheld, hgroup, hhush⟩ := hs
  have right (p : Role → Bool) (n : Nat) (hn : n = (s.bsc.pressedWith p).length) :
      passCount s.bsc.roles p (s.bsc.flips readings false) (s.bsc.flips readings true) n
        = allCrosspoints.countP fun x => (s.bsc.debounced readings).buttons[x].pressed && p s.bsc.roles[x] := by
    have hle := countP_released_le s.bsc.buttons (s.bsc.debounced readings).buttons fun x => p s.bsc.roles[x]
    have heq := countP_confirmed s.bsc.buttons (s.bsc.debounced readings).buttons fun x => p s.bsc.roles[x]
    rw [Scanner.pressedWith_length] at hn
    unfold passCount roleCount Scanner.flips
    omega
  rw [takePass_eq, State.arbitrate_bsc]
  obtain ⟨hk, hh, hg, hq⟩ := handOns_both (s.bsc.flips readings false) (s.bsc.flips readings true)
    (s.setBsc (s.bsc.debounced readings))
  generalize (s.bsc.flips readings true).foldl (handOn true) _ = t at hk hh hg hq ⊢
  have hbuttons : t.bsc.buttons = (s.bsc.debounced readings).buttons := by rw [hk]; rfl
  have hroles : t.bsc.roles = s.bsc.roles := by rw [hk]; rfl
  refine ⟨⟨by rw [hk]; exact hint, by rw [hk]; exact hdepth, fun x => ?_⟩, ?_, fun n => ?_, ?_⟩
  · rw [hbuttons, Scanner.debounced, debounceAll_get, hk]
    exact debounce_count_lt _ (hcount x)
  · rw [Scanner.pressedWith_length, hbuttons, hroles]
    exact hh.trans (right _ _ hheld)
  · rw [Scanner.pressedWith_length, hbuttons, hroles]
    exact (hg n).trans (right _ _ (hgroup n))
  · rw [Scanner.pressedWith_length, hbuttons, hroles]
    exact hq.trans (right _ _ hhush)

/-- Debounce counts of 0 are in range, and the counts are of the debounced states. -/
theorem Scanner.Sound.clearCounts {b : Scanner} (hb : b.Sound) {interval depth : Nat} {timer : Timer}
    (hi : 1 ≤ interval ∧ interval ≤ 16) (hd : 1 ≤ depth ∧ depth ≤ 15) :
    ({ b with interval := interval, depth := depth, buttons := clearCounts b.buttons, passTimer := timer } :
      Scanner).Sound := by
  obtain ⟨-, hheld, hgroup, hhush⟩ := hb
  refine ⟨⟨hi, hd, fun x => ?_⟩, ?_, fun n => ?_, ?_⟩
  · rw [clearCounts_get]
    exact hd.1
  · simpa only [Scanner.pressedWith, clearCounts_get] using hheld
  · simpa only [Scanner.pressedWith, clearCounts_get] using hgroup n
  · simpa only [Scanner.pressedWith, clearCounts_get] using hhush

theorem fieldIn_some {lo hi : Nat} {b : Byte} {n : Nat} (h : fieldIn lo hi b = some n) : lo ≤ n ∧ n ≤ hi := by
  unfold fieldIn at h
  split at h
  · next c => cases h; exact c
  · cases h

theorem Parsed.ofOption_fields {α : Type} {o : Option α} {a : α} (h : Parsed.ofOption o = .fields a) : o = some a := by
  cases o with
  | none => cases h
  | some b => cases h; rfl

theorem parseSetScan_range {p : List Byte} {a : Nat × Nat} (h : parseSetScan p = .fields a) :
    (1 ≤ a.1 ∧ a.1 ≤ 16) ∧ 1 ≤ a.2 ∧ a.2 ≤ 15 := by
  unfold parseSetScan at h
  split at h
  · have ho := Parsed.ofOption_fields h
    simp only [Option.bind_eq_bind, Option.bind_eq_some_iff, Option.pure_def, Option.some.injEq] at ho
    obtain ⟨i, hi, d, hd, rfl⟩ := ho
    exact ⟨fieldIn_some hi, fieldIn_some hd⟩
  · cases h

/-- A role that no PRESSED crosspoint takes leaves the counts right (R13). -/
theorem loadRoles_pressedWith (es : List (Crosspoint × Role)) (b : Scanner)
    (h : ∀ e ∈ es, b.buttons[e.1].pressed = false) (p : Role → Bool) :
    ({ b with roles := es.foldl (fun t e => put t e.1 e.2) b.roles } : Scanner).pressedWith p = b.pressedWith p := by
  have hroles : ∀ (roles : Vector Role 256) (x : Crosspoint), b.buttons[x].pressed = true →
      (es.foldl (fun t e => put t e.1 e.2) roles)[x] = roles[x] := by
    intro roles x hx
    induction es generalizing roles with
    | nil => rfl
    | cons e es ih =>
      have hne : x ≠ e.1 := fun c => by rw [c, h e List.mem_cons_self] at hx; cases hx
      rw [List.foldl_cons, ih (fun e' he' => h e' (List.mem_cons_of_mem _ he')), get_put_ne _ _ hne]
  refine List.filter_congr fun x _ => ?_
  cases hx : b.buttons[x].pressed with
  | false => rfl
  | true => simp only [hroles b.roles x hx]

theorem loadRolesOwner_sound (es : List (Crosspoint × Role)) (s : State) (hs : s.bsc.Sound) :
    (loadRolesOwner es s).Leaves fun t => t.bsc.Sound := by
  refine Verdict.leaves_ite (fun _ => trivial) fun h => ?_
  have hup : ∀ e ∈ es, s.bsc.buttons[e.1].pressed = false := by simpa using h
  obtain ⟨hrange, hheld, hgroup, hhush⟩ := hs
  refine ⟨hrange, ?_, fun n => ?_, ?_⟩
  · rw [State.setBsc_bsc, loadRoles_pressedWith es s.bsc hup]; exact hheld
  · rw [State.setBsc_bsc, loadRoles_pressedWith es s.bsc hup]; exact hgroup n
  · rw [State.setBsc_bsc, loadRoles_pressedWith es s.bsc hup]; exact hhush

/-- The scanner right after reset: nothing pressed, every count 0 (R17). -/
theorem Scanner.sound_of_nothing_pressed {b : Scanner} (hb : ∀ x : Crosspoint, b.buttons[x] = ⟨false, 0⟩)
    (hi : 1 ≤ b.interval ∧ b.interval ≤ 16) (hd : 1 ≤ b.depth ∧ b.depth ≤ 15) (hheld : b.held = 0)
    (hgroup : ∀ n : Fin 4, b.groupOcc[n] = 0) (hhush : b.hushOcc = 0) : b.Sound := by
  have none_pressed (p : Role → Bool) : b.pressedWith p = [] := by
    refine List.filter_eq_nil_iff.mpr fun x _ => ?_
    rw [hb]
    exact Bool.false_ne_true
  refine ⟨⟨hi, hd, fun x => ?_⟩, ?_, fun n => ?_, ?_⟩
  · rw [hb]; exact hd.1
  · rw [hheld, none_pressed]; rfl
  · rw [hgroup, none_pressed]; rfl
  · rw [hhush, none_pressed]; rfl

theorem State.reset_scannerSound : State.reset.bsc.Sound :=
  Scanner.sound_of_nothing_pressed (fun x => get_replicate _ x) ⟨by decide, by decide⟩ ⟨by decide, by decide⟩ rfl
    (fun n => get_replicate _ n) rfl

/-- Set Scan, Load Roles and RESTART keep the scanner's settings and counts right; the other settings are of other
blocks. -/
theorem settings_scannerSound : ∀ k ∈ settingKinds, ∀ p r, Request.of k p = some r → ∀ a s, s.bsc.Sound →
    r.parsed = .fields a → (r.owner a s).Leaves fun t => t.bsc.Sound := by
  simp only [settingKinds, List.forall_mem_cons, List.not_mem_nil, false_implies, implies_true, and_true]
  refine ⟨?status, ?restart, ?mask, ?meter, ?scan, ?roles, ?treble, ?bass, ?form, ?rows, ?beginScene, ?layer, ?defaults,
    ?finish, ?erase, ?override, ?bellows, ?dynamics, ?expression, ?level⟩ <;> rintro p r hr a s hs ha <;> cases hr
  case restart =>
    change (restartOwner a s).Leaves _
    rw [restartOwner_eq, Verdict.Leaves, State.restartNoticed_bsc, (restartLanes_playing _).bsc,
      State.restartCleared_bsc]
    exact hs.clearCounts hs.1.1 hs.1.2.1
  case scan => exact hs.clearCounts (parseSetScan_range ha).1 (parseSetScan_range ha).2
  case roles => exact loadRolesOwner_sound a s hs
  case dynamics => exact (tierCheck_playing _).scannerSound hs
  case level => exact (tierCheck_playing _).scannerSound hs
  case layer | defaults | finish => exact Verdict.leaves_ite (fun _ => hs) fun _ => trivial
  all_goals exact hs

/-- Every command and the timebase keep the scanner's settings and counts right. -/
theorem scannerSound_kept : KeptByCommands fun s => s.bsc.Sound :=
  keptByCommands_of_playing (h := fun _ _ _ _ _ h => h)
    (hplay := fun _ _ h hs => h.scannerSound hs)
    (hpower := fun _ _ => State.reset_scannerSound)
    (hpass := takePass_scannerSound)
    (hsample := fun w s hs => by rw [sampleArrival_bsc]; exact hs)
    (hloss := fun s hs => by rw [streamLossTimeout_bsc]; exact hs)
    (hsettings := settings_scannerSound)
    (htick := fun _ hs => hs)

/-- Settles O54: every command keeps the scanner's settings in range and its counts equal to what they count. -/
theorem stepKeepsScannerCounts : Obligations.StepKeepsScannerCounts :=
  fun _ _ hrange hcounts hstep => scannerSound_kept.step_keeps ⟨hrange, hcounts⟩ hstep

end Sys2Proof.Machine

/-! PROOF. The ranges of the Bellows Front End and of the Dynamics Unit (R90 to R95, R98, R107 to R113): each stage of a
sample keeps them, and so do the requests that write the settings. -/

namespace Sys2Proof.Machine

/-! ## Arithmetic -/

theorem clampInt_mem {v lo hi : Int} (h : lo ≤ hi) : lo ≤ clampInt v lo hi ∧ clampInt v lo hi ≤ hi := by
  unfold clampInt
  split_ifs <;> omega

theorem clampLevel_val (v : Int) (lo hi : Fin 65536) :
    (clampLevel v lo hi).val = if v < lo.val then lo.val else if v > hi.val then hi.val else v.toNat := by
  unfold clampLevel
  split_ifs <;> rfl

theorem clampLevel_mem {v : Int} {lo hi : Fin 65536} (h : lo ≤ hi) : lo ≤ clampLevel v lo hi ∧ clampLevel v lo hi ≤ hi := by
  rw [Fin.le_def] at h
  rw [Fin.le_def, Fin.le_def, clampLevel_val]
  split_ifs <;> omega

theorem magnitude_le (c : Int) : magnitude c ≤ 32767 := Nat.min_le_right _ _

/-- The smoothed pressure stays between where it was and where it is drawn (R113). -/
theorem smoothStep_le {s m f16 b : Nat} (hm : m * 16 ≤ b) (hf : f16 ≤ b) : smoothStep s m f16 ≤ b := by
  unfold smoothStep
  have hpos : (0 : Int) < (2 ^ s : Nat) := by exact_mod_cast Nat.two_pow_pos s
  have hdiv : ((m * 16 : Int) - f16) / (2 ^ s : Nat) ≤ (b : Int) - f16 := by
    apply Int.ediv_le_of_le_mul hpos
    have hone : (1 : Int) ≤ (2 ^ s : Nat) := hpos
    have hgap : (0 : Int) ≤ (b : Int) - f16 := by omega
    calc (m * 16 : Int) - f16 ≤ (b : Int) - f16 := by omega
      _ ≤ ((b : Int) - f16) * (2 ^ s : Nat) := le_mul_of_one_le_right hgap hone
  omega

/-! ## The front end's stages -/

/-- The hold that a STILL sample finds: a fresh one after a sample that was not STILL, else what is left (R94). -/
def Bellows.stillHold (b : Bellows) : Nat :=
  if b.lastClass ≠ .still ∧ 0 < b.settings.hold then b.settings.hold else b.holdLeft

theorem judgeStill_eq (b : Bellows) :
    judgeStill b = ({ b with run := 0, holdLeft := b.stillHold - 1 }, if 0 < b.stillHold then .held else .processed) := by
  have hgo : judgeStill b = if 0 < b.stillHold then ({ b with run := 0, holdLeft := b.stillHold - 1 }, .held)
    else ({ b with run := 0, holdLeft := b.stillHold }, .processed) := rfl
  rw [hgo]
  split_ifs with h
  · rfl
  · rw [Nat.eq_zero_of_not_pos h]

theorem sensorStage_inRange (r : Int) {b : Bellows} (h : b.InRange) : (sensorStage r b).InRange := by
  obtain ⟨hacc, hrun, hhold, hrail, hclear, hsettings⟩ := h
  unfold sensorStage railStep
  simp only []
  split_ifs <;> refine ⟨hacc, hrun, hhold, ?_, ?_, hsettings⟩ <;> simp only [] <;> omega

theorem track_inRange (held : Nat) (c : Int) (cls : SampleClass) {b : Bellows} (h : b.InRange) :
    (track held c cls b).InRange := by
  obtain ⟨hacc, hrun, hhold, hrail, hclear, hfixed, hstill, hconfirm, hlen, hmode⟩ := h
  unfold track
  split_ifs with hc
  · exact ⟨clampInt_mem (by decide), hrun, hhold, hrail, hclear, hfixed, hstill, hconfirm, hlen,
      fun hm => by simp [hc.1] at hm⟩
  · exact ⟨hacc, hrun, hhold, hrail, hclear, hfixed, hstill, hconfirm, hlen, hmode⟩

theorem judge_inRange (cls : SampleClass) {b : Bellows} (h : b.InRange) : (judge cls b).1.InRange := by
  obtain ⟨hacc, hrun, hhold, hrail, hclear, hfixed, hstill, hconfirm, hlen, hmode⟩ := h
  have decided (run holdLeft : Nat) (bd : Dir) (hr : run < b.settings.confirm) (hh : holdLeft ≤ 255) :
      ({ b with run := run, holdLeft := holdLeft, bd := bd, lastClass := cls } : Bellows).InRange :=
    ⟨hacc, hr, hh, hrail, hclear, hfixed, hstill, hconfirm, hlen, hmode⟩
  have hzero : 0 < b.settings.confirm := by omega
  unfold judge
  split_ifs
  · rw [judgeStill_eq]
    have hleft : b.stillHold - 1 ≤ 255 := by unfold Bellows.stillHold; split_ifs <;> omega
    exact decided 0 _ _ hzero hleft
  · exact decided 0 0 _ hzero (by omega)
  · unfold judgeOpposite
    split_ifs with hr
    · exact decided _ _ _ hr hhold
    · exact decided 0 0 _ hzero (by omega)

theorem Bellows.judged_inRange (held : Nat) (r : Int) {b : Bellows} (h : b.InRange) : (b.judged held r).1.InRange :=
  judge_inRange _ (track_inRange _ _ _ h)

/-- The stream's loss and a timer are not ranges. -/
theorem Bellows.InRange.withLoss {b : Bellows} (h : b.InRange) (lost : Bool) (timer : Timer) :
    ({ b with lost := lost, lossTimer := timer } : Bellows).InRange := h

theorem restartBellows_inRange {b : Bellows} (h : b.InRange) : (restartBellows b).InRange := by
  obtain ⟨hacc, hrun, hhold, hrail, hclear, hfixed, hstill, hconfirm, hlen, hmode⟩ := h
  refine ⟨?_, by simp only [restartBellows]; omega, by simp [restartBellows], by simp [restartBellows],
    by simp [restartBellows], hfixed, hstill, hconfirm, hlen, ?_⟩
  · unfold restartBellows
    simp only []
    split_ifs <;> omega
  · exact fun hm => if_pos hm

/-! ## The dynamics' stages -/

theorem Dynamics.move_mem {y : Dynamics} (h : y.InRange) (by_ : Int) :
    y.settings.floor ≤ y.move by_ ∧ y.move by_ ≤ y.settings.ceil := clampLevel_mem (h.1.1.trans h.1.2)

theorem surgeStage_inRange (m : Nat) {y : Dynamics} (h : y.InRange) : (surgeStage m y).InRange := by
  have hmove := Dynamics.move_mem h y.settings.surge
  obtain ⟨hlevel, hleft, hoff, hrest⟩ := h
  unfold surgeStage
  split_ifs
  · exact ⟨hmove, hoff, hoff, hrest⟩
  · exact ⟨hlevel, by simp only []; omega, hoff, hrest⟩
  · exact ⟨hlevel, hleft, hoff, hrest⟩

theorem windowStage_inRange {m : Nat} (hm : m ≤ 32767) {y : Dynamics} (h : y.InRange) : (windowStage m y).InRange := by
  have hmove := Dynamics.move_mem h
  obtain ⟨hlevel, hleft, hoff, hpos, hsum, havg, hrest⟩ := h
  unfold windowStage
  simp only []
  split_ifs with hw
  · exact ⟨hlevel, hleft, hoff, hw, by simp only []; omega, havg, hrest⟩
  · refine ⟨hmove _, hleft, hoff, Nat.two_pow_pos _, by simp, ?_, hrest⟩
    have hlen : y.winPos + 1 = 2 ^ y.settings.winShift := by omega
    simp only []
    rw [← hlen]
    exact Nat.div_le_of_le_mul (by rw [Nat.mul_comm]; omega)

theorem expressionStage_inRange {m : Nat} (hm : m ≤ 32767) {y : Dynamics} (h : y.InRange) :
    (expressionStage m y).InRange := by
  obtain ⟨hlevel, hleft, hoff, hpos, hsum, havg, hf16, hrest⟩ := h
  exact ⟨hlevel, hleft, hoff, hpos, hsum, havg, smoothStep_le (by omega) hf16, hrest⟩

theorem Dynamics.handed_inRange {y : Dynamics} (h : y.InRange) (j : Judgement) {m : Nat} (hm : m ≤ 32767) :
    (y.handed j m).InRange := by
  have hp : (y.processed m).InRange :=
    expressionStage_inRange hm (windowStage_inRange hm (surgeStage_inRange m h))
  cases j with
  | held => exact h
  | processed => exact hp
  | reversal => exact hp

theorem restartDynamics_inRange (map : Vector TierCode 8) {y : Dynamics} (h : y.InRange) :
    (restartDynamics map y).InRange := by
  obtain ⟨hlevel, hleft, hoff, hpos, hsum, havg, hf16, hshift, hsmooth, hstep⟩ := h
  exact ⟨clampLevel_mem (hlevel.1.trans hlevel.2), Nat.zero_le _, hoff, Nat.two_pow_pos _, Nat.zero_le _, Nat.zero_le _,
    Nat.zero_le _, hshift, hsmooth, hstep⟩

/-! ## The requests that write the settings -/

theorem wordField_some {lo hi : Nat} {h l : Byte} {n : Nat} (e : wordField lo hi h l = some n) :
    n = word16 h l ∧ lo ≤ n ∧ n ≤ hi := by
  unfold wordField at e
  split at e
  · next c => cases e; exact ⟨rfl, c⟩
  · cases e

theorem word16s_mem (h l : Byte) : -32768 ≤ word16s h l ∧ word16s h l ≤ 32767 := by
  unfold word16s
  have := (BitVec.ofNat 16 (word16 h l)).le_toInt
  have := (BitVec.ofNat 16 (word16 h l)).toInt_lt
  omega

/-- The ranges of the settings that Set Bellows reads (R102). -/
theorem parseSetBellows_range {p : List Byte} {t : BellowsSettings} (h : parseSetBellows p = .fields t) :
    (-32768 ≤ t.fixedOffset ∧ t.fixedOffset ≤ 32767) ∧ t.still ≤ 32767 ∧ 0 < t.confirm ∧ t.confirm ≤ 64
      ∧ t.hold ≤ 255 := by
  unfold parseSetBellows at h
  split at h
  · next mode offHi offLo k tsHi tsLo nr hr =>
    have ho := Parsed.ofOption_fields h
    simp only [Option.bind_eq_bind, Option.bind_eq_some_iff, Option.pure_def, Option.some.injEq] at ho
    obtain ⟨fixed, -, speed, -, still, hstill, confirm, hconfirm, rfl⟩ := ho
    have hr' := hr.isLt
    exact ⟨word16s_mem offHi offLo, (wordField_some hstill).2.2, (fieldIn_some hconfirm).1, (fieldIn_some hconfirm).2,
      by simp only []; omega⟩
  · cases h

theorem setBellowsOwner_inRange {p : List Byte} {t : BellowsSettings} (ht : parseSetBellows p = .fields t) {b : Bellows}
    (h : b.InRange) : ({ b with
      settings := t, acc := if t.mode = .fixed then t.fixedOffset * 256 else b.acc, run := 0, holdLeft := 0 } :
      Bellows).InRange := by
  obtain ⟨hoffset, hstill, hpos, hconfirm, hhold⟩ := parseSetBellows_range ht
  obtain ⟨hacc, -, -, hrail, hclear, -⟩ := h
  refine ⟨?_, hpos, Nat.zero_le _, hrail, hclear, hoffset, hstill, hconfirm, hhold, fun hm => if_pos hm⟩
  simp only []
  split_ifs <;> omega

/-- The ranges of the settings that Set Dynamics reads, as far as the unit's values rest on them (R118). -/
theorem parseSetDynamics_range {p : List Byte} {a : LevelSettings} (h : parseSetDynamics p = .fields a) :
    (1 ≤ a.winShift ∧ a.winShift ≤ 12) ∧ a.holdOff ≤ 255 ∧ a.floor ≤ a.ceil := by
  unfold parseSetDynamics at h
  split at h
  · next w tuH tuL tdH tdL riH riL faH faL drH drL tsH tsL suH suL hold flH flL ceH ceL =>
    have ho := Parsed.ofOption_fields h
    simp only [Option.bind_eq_bind, Option.bind_eq_some_iff] at ho
    obtain ⟨w', hw, tu, -, td, -, rise, -, fall, -, drift, -, tsurge, -, surge, -, hif⟩ := ho
    split at hif
    · next hc =>
      cases hif
      have hold' := hold.isLt
      exact ⟨fieldIn_some hw, by simp only []; omega, hc.2⟩
    · cases hif
  · cases h

theorem setDynamicsOwner_inRange {p : List Byte} {a : LevelSettings} (ha : parseSetDynamics p = .fields a)
    {y : Dynamics} (h : y.InRange) : ({ y with
      settings := { y.settings with
        winShift := a.winShift, tu := a.tu, td := a.td, rise := a.rise, fall := a.fall, drift := a.drift
        tsurge := a.tsurge, surge := a.surge, holdOff := a.holdOff, floor := a.floor, ceil := a.ceil }
      winSum := 0, winPos := 0, holdOffLeft := 0, level := clampLevel y.level.val a.floor a.ceil } :
      Dynamics).InRange := by
  obtain ⟨hshift, hoff, hbounds⟩ := parseSetDynamics_range ha
  obtain ⟨-, -, -, -, -, havg, hf16, -, hsmooth, hstep⟩ := h
  exact ⟨clampLevel_mem hbounds, Nat.zero_le _, hoff, Nat.two_pow_pos _, Nat.zero_le _, havg, hf16, hshift, hsmooth,
    hstep⟩

/-- The ranges of the settings that Set Expression reads (R120). -/
theorem parseSetExpression_range {p : List Byte} {a : Nat × Nat × Nat} (h : parseSetExpression p = .fields a) :
    a.1 ≤ 7 ∧ 1 ≤ a.2.2 ∧ a.2.2 ≤ 32 := by
  unfold parseSetExpression at h
  split at h
  · have ho := Parsed.ofOption_fields h
    simp only [Option.bind_eq_bind, Option.bind_eq_some_iff, Option.pure_def, Option.some.injEq] at ho
    obtain ⟨smooth, hs, step, hstep, rfl⟩ := ho
    exact ⟨(fieldIn_some hs).2, fieldIn_some hstep⟩
  · cases h

/-! ## The invariant -/

/-- The front end's and the Dynamics Unit's values lie in their ranges. -/
def State.SamplesInRange (s : State) : Prop := s.bfe.InRange ∧ s.dyn.InRange

theorem PlayingWork.samplesInRange {s t : State} (h : PlayingWork s t) (hs : s.SamplesInRange) : t.SamplesInRange := by
  obtain ⟨hbfe, hdyn⟩ := hs
  refine ⟨by rw [h.bfe]; exact hbfe, ?_⟩
  rw [h.dyn]
  exact hdyn

theorem PlayingEvent.samplesInRange {s t : State} (h : PlayingEvent s t) (hs : s.SamplesInRange) : t.SamplesInRange :=
  LinkBlind.playingEvent (P := State.SamplesInRange) (fun _ _ _ _ _ h => h) (fun _ _ h => h.samplesInRange) h hs

theorem PlayingWork.setBsc {s t : State} {a : Scanner} (h : PlayingWork (s.setBsc a) t) (b : Scanner) :
    PlayingWork (s.setBsc b) (t.setBsc b) :=
  ⟨rfl, h.nex, h.library, h.overrides, h.bfe, h.dyn, h.raised, h.mlk, h.pending, h.freeDraws⟩

theorem handOns_playing (press : Bool) (xs : List Crosspoint) (s : State) :
    ∃ b, PlayingWork (s.setBsc b) (xs.foldl (handOn press) s) := by
  induction xs generalizing s with
  | nil => exact ⟨s.bsc, .refl s⟩
  | cons x xs ih =>
    obtain ⟨b, hb⟩ := ih (handOn press s x)
    exact ⟨b, ((handOn_playing press s x).setBsc b).trans hb⟩

/-- A pass writes the scanner, does playing work, and the idle output makes its choice. -/
theorem takePass_playing (readings : Readings) (s : State) : ∃ b, PlayingEvent (s.setBsc b) (takePass readings s) := by
  rw [takePass_eq]
  obtain ⟨b, hb⟩ := handOns_playing false (s.bsc.flips readings false) (s.setBsc (s.bsc.debounced readings))
  obtain ⟨b', hb'⟩ := handOns_playing true (s.bsc.flips readings true)
    ((s.bsc.flips readings false).foldl (handOn false) (s.setBsc (s.bsc.debounced readings)))
  exact ⟨b', ((PlayingWork.setBsc (s := s) hb b').trans hb').eventArbitrated⟩

theorem State.reset_samplesInRange : State.reset.SamplesInRange := by
  refine ⟨?_, ?_⟩
  · decide
  · decide

theorem settings_samplesInRange : ∀ k ∈ settingKinds, ∀ p r, Request.of k p = some r → ∀ a s, State.SamplesInRange s →
    r.parsed = .fields a → (r.owner a s).Leaves State.SamplesInRange := by
  simp only [settingKinds, List.forall_mem_cons, List.not_mem_nil, false_implies, implies_true, and_true]
  refine ⟨?status, ?restart, ?mask, ?meter, ?scan, ?roles, ?treble, ?bass, ?form, ?rows, ?beginScene, ?layer, ?defaults,
    ?finish, ?erase, ?override, ?bellows, ?dynamics, ?expression, ?level⟩ <;> rintro p r hr a s hs ha <;> cases hr
  case restart =>
    change (restartOwner a s).Leaves _
    rw [restartOwner_eq]
    have hnoticed : ∀ t, State.SamplesInRange t → t.restartNoticed.SamplesInRange := fun _ h => h
    have hcleared : s.restartCleared.SamplesInRange :=
      ⟨restartBellows_inRange hs.1, restartDynamics_inRange _ hs.2⟩
    exact hnoticed _ ((restartLanes_playing _).samplesInRange hcleared)
  case roles => exact Verdict.leaves_ite (fun _ => trivial) fun _ => hs
  case layer | defaults | finish => exact Verdict.leaves_ite (fun _ => hs) fun _ => trivial
  case bellows => exact ⟨setBellowsOwner_inRange ha hs.1, hs.2⟩
  case dynamics => exact (tierCheck_playing _).samplesInRange ⟨hs.1, setDynamicsOwner_inRange ha hs.2⟩
  case expression =>
    obtain ⟨hsmooth, hstep⟩ := parseSetExpression_range ha
    obtain ⟨hlevel, hleft, hoff, hpos, hsum, havg, hf16, hshift, -⟩ := hs.2
    exact ⟨hs.1, hlevel, hleft, hoff, hpos, hsum, havg, hf16, hshift, hsmooth, hstep⟩
  case level =>
    have hlevel := clampLevel_mem (v := (a : Int)) (hs.2.1.1.trans hs.2.1.2)
    exact (tierCheck_playing _).samplesInRange ⟨hs.1, hlevel, hs.2.2⟩
  all_goals exact hs

theorem sampleArrival_samplesInRange (w : BitVec 16) (s : State) (hs : s.SamplesInRange) :
    (sampleArrival w s).SamplesInRange := by
  have hb := sensorStage_inRange w.toInt hs.1
  rcases sampleArrival_playing w s with ⟨_, h⟩ | ⟨_, h⟩
  · exact h.samplesInRange ⟨hb, hs.2⟩
  · exact h.samplesInRange
      ⟨Bellows.judged_inRange _ _ hb, Dynamics.handed_inRange hs.2 _ (magnitude_le _)⟩

/-- Every command and the timebase keep the front end's and the Dynamics Unit's values in their ranges. -/
theorem samplesInRange_kept : KeptByCommands State.SamplesInRange :=
  keptByCommands_of_playing (h := fun _ _ _ _ _ h => h)
    (hplay := fun _ _ h hs => h.samplesInRange hs)
    (hpower := fun _ _ => State.reset_samplesInRange)
    (hpass := fun readings s hs => by
      obtain ⟨b, h⟩ := takePass_playing readings s
      exact h.samplesInRange hs)
    (hsample := sampleArrival_samplesInRange)
    (hloss := fun s hs => by
      obtain ⟨b, rfl | rfl, h⟩ := streamLossTimeout_playing s
      · exact h.samplesInRange hs
      · exact h.samplesInRange ⟨hs.1.withLoss _ _, hs.2⟩)
    (hsettings := settings_samplesInRange)
    (htick := fun _ hs => ⟨hs.1.withLoss _ _, hs.2⟩)

/-- Settles O58: every stage of a sample and every request that writes settings keeps the ranges. -/
theorem stepKeepsBellowsAndDynamicsInRange : Obligations.StepKeepsBellowsAndDynamicsInRange :=
  fun _ _ hbfe hdyn hstep => samplesInRange_kept.step_keeps ⟨hbfe, hdyn⟩ hstep

end Sys2Proof.Machine

/-! PROOF. The link and the notice slots (R167, R168, R171, R173, R182): what a request's owner leaves of the link, what
the arbiter establishes at the end of an event, and that every step keeps the link served. -/

namespace Sys2Proof.Machine

/-! ## What owners leave of the link -/

/-- Of the link only the two counts, which do not rise, and the cause of the last reset differ. -/
structure KeepsLink (s t : State) : Prop where
  mlk : t.mlk = { s.mlk with
    badFrames := t.mlk.badFrames, discards := t.mlk.discards, cause := t.mlk.cause }
  badFrames : t.mlk.badFrames ≤ s.mlk.badFrames
  discards : t.mlk.discards ≤ s.mlk.discards

theorem KeepsLink.of_eq {s t : State} (h : t.mlk = s.mlk) : KeepsLink s t := by
  constructor <;> rw [h]

/-- An owner leaves the receiver, the reply slot and the output alone. -/
theorem Request.owner_keepsLink {k : Nat} {p : List Byte} {r : Request} (hr : Request.of k p = some r)
    (a : r.Fields) (s : State) : (r.owner a s).Leaves (KeepsLink s) := by
  by_cases hk : k ∈ settingKinds
  · revert p r
    revert k
    simp only [settingKinds, List.forall_mem_cons, List.not_mem_nil, false_implies, implies_true, and_true]
    refine ⟨?status, ?restart, ?mask, ?meter, ?scan, ?roles, ?treble, ?bass, ?form, ?rows, ?beginScene, ?layer,
      ?defaults, ?finish, ?erase, ?override, ?bellows, ?dynamics, ?expression, ?level⟩ <;> rintro p r hr a <;> cases hr
    case status => exact ⟨rfl, Nat.zero_le _, Nat.zero_le _⟩
    case restart =>
      change (restartOwner a s).Leaves _
      rw [restartOwner_eq]
      have hlanes := (restartLanes_playing s.restartCleared).mlk
      generalize allLanes.foldl restartLane s.restartCleared = t at hlanes
      rw [State.restartCleared_mlk] at hlanes
      have hmlk : t.restartNoticed.mlk = { s.mlk with badFrames := 0, discards := 0, cause := .restart } := by
        rw [← hlanes]; rfl
      exact ⟨by rw [hmlk], by rw [hmlk]; exact Nat.zero_le _, by rw [hmlk]; exact Nat.zero_le _⟩
    case dynamics => exact .of_eq (tierCheck_playing _).mlk
    case level => exact .of_eq (tierCheck_playing _).mlk
    case roles => exact Verdict.leaves_ite (fun _ => trivial) fun _ => .of_eq rfl
    case layer | defaults | finish => exact Verdict.leaves_ite (fun _ => .of_eq rfl) fun _ => trivial
    all_goals exact .of_eq rfl
  · have ho := r.owner_playing hr hk a s
    cases hv : r.owner a s with
    | refuse st => trivial
    | accept t data =>
      rw [hv] at ho
      exact .of_eq ho.mlk

/-! ## Notice slots -/

theorem NoticeUnit.Raised.slotsCoherent {u w : NoticeUnit} (h : u.Raised w) (hu : u.SlotsCoherent) :
    w.SlotsCoherent := by
  obtain ⟨ns, rfl⟩ := h
  induction ns generalizing u with
  | nil => exact hu
  | cons n ns ih =>
    refine ih fun k p hp => ?_
    simp only [NoticeUnit.withNotice, get_put] at hp
    split at hp
    · next hk =>
      cases hp
      subst hk
      unfold raiseInto
      split
      · exact ⟨rfl, Nat.zero_le _⟩
      · exact ⟨rfl, Nat.min_le_left _ _⟩
    · exact hu k p hp

theorem NoticeUnit.slotsCoherent_replicate {u : NoticeUnit} (h : u.slots = Vector.replicate 13 none) :
    u.SlotsCoherent := by
  intro k p hp
  rw [h, get_replicate] at hp
  cases hp

/-- An emptied slot is coherent with the others. -/
theorem NoticeUnit.SlotsCoherent.put_none {u : NoticeUnit} (h : u.SlotsCoherent) (k : Fin 13) :
    NoticeUnit.SlotsCoherent { u with slots := put u.slots k none } := by
  intro j p hp
  simp only [get_put] at hp
  split at hp
  · cases hp
  · exact h j p hp

/-- An owner leaves the slots coherent. -/
theorem Request.owner_slotsCoherent {k : Nat} {p : List Byte} {r : Request} (hr : Request.of k p = some r)
    (a : r.Fields) (s : State) (hs : s.ntu.SlotsCoherent) : (r.owner a s).Leaves fun t => t.ntu.SlotsCoherent := by
  by_cases hk : k ∈ settingKinds
  · revert p r
    revert k
    simp only [settingKinds, List.forall_mem_cons, List.not_mem_nil, false_implies, implies_true, and_true]
    refine ⟨?status, ?restart, ?mask, ?meter, ?scan, ?roles, ?treble, ?bass, ?form, ?rows, ?beginScene, ?layer,
      ?defaults, ?finish, ?erase, ?override, ?bellows, ?dynamics, ?expression, ?level⟩ <;> rintro p r hr a <;> cases hr
    case restart =>
      change (restartOwner a s).Leaves _
      rw [restartOwner_eq]
      exact NoticeUnit.Raised.slotsCoherent (State.raise_raised _ _) (NoticeUnit.slotsCoherent_replicate rfl)
    case dynamics => exact (tierCheck_raised _).slotsCoherent hs
    case level => exact (tierCheck_raised _).slotsCoherent hs
    case roles => exact Verdict.leaves_ite (fun _ => trivial) fun _ => hs
    case layer | defaults | finish => exact Verdict.leaves_ite (fun _ => hs) fun _ => trivial
    all_goals exact hs
  · have ho := r.owner_playing hr hk a s
    cases hv : r.owner a s with
    | refuse st => trivial
    | accept t data =>
      rw [hv] at ho
      exact ho.raised.slotsCoherent hs

/-! ## The arbiter's choice -/

/-- What the arbiter chooses is pending. -/
theorem NoticeUnit.choice_pending {u : NoticeUnit} {k : Fin 13} (h : u.choice = some k) : ∃ p, u.slots[k] = some p := by
  have hmem := List.mem_of_find?_eq_some h
  exact Option.isSome_iff_exists.mp (List.mem_filter.mp hmem).2

/-- The counts are bytes, a reply being sent is the one in the slot, and slots are coherent: what holds before the
arbiter has chosen, too. -/
def State.LinkSound (s : State) : Prop :=
  (s.mlk.badFrames ≤ 255 ∧ s.mlk.discards ≤ 255)
    ∧ (∀ f ∈ s.mlk.output.replyBeingSent, s.mlk.reply = some f) ∧ s.ntu.SlotsCoherent

/-- What the steps keep of the link and the notice slots. -/
def State.LinkServed (s : State) : Prop := s.OutputServed ∧ s.ntu.SlotsCoherent

theorem State.LinkServed.sound {s : State} (h : s.LinkServed) : s.LinkSound := ⟨h.1.1, h.1.2.2, h.2⟩

/-- At the end of an event the arbiter leaves nothing to send to an idle output (R171). -/
theorem State.LinkSound.arbitrate {s : State} (h : s.LinkSound) : s.arbitrate.LinkServed := by
  obtain ⟨hcounts, hsent, hslots⟩ := h
  by_cases ho : s.mlk.output = .idle
  · cases hreply : s.mlk.reply with
    | some f =>
      rw [State.arbitrate_reply ho hreply]
      refine ⟨⟨hcounts, nofun, fun g hg => ?_⟩, hslots⟩
      cases hg
      exact hreply
    | none =>
      cases hchoice : s.ntu.choice with
      | none =>
        rw [State.arbitrate_none hreply hchoice]
        exact ⟨⟨hcounts, fun _ => ⟨hreply, hchoice⟩, hsent⟩, hslots⟩
      | some k =>
        obtain ⟨p, hp⟩ := NoticeUnit.choice_pending hchoice
        rw [State.arbitrate_notice ho hreply hchoice hp]
        exact ⟨⟨hcounts, nofun, nofun⟩, hslots.put_none k⟩
  · rw [State.arbitrate_busy ho]
    exact ⟨⟨hcounts, fun h => absurd h ho, hsent⟩, hslots⟩

theorem PlayingWork.linkSound {s t : State} (h : PlayingWork s t) (hs : s.LinkSound) : t.LinkSound := by
  obtain ⟨hcounts, hsent, hslots⟩ := hs
  refine ⟨?_, ?_, h.raised.slotsCoherent hslots⟩ <;> rw [h.mlk]
  · exact hcounts
  · exact hsent

theorem PlayingEvent.linkServed {s t : State} (h : PlayingEvent s t) (hs : s.LinkServed) : t.LinkServed := by
  obtain ⟨u, hu, ⟨rfl, hn⟩ | rfl⟩ := h
  · unfold State.LinkServed State.OutputServed
    rw [hn, hu.mlk]
    exact hs
  · exact (hu.linkSound hs.sound).arbitrate

/-! ## Requests -/

/-- A reply placed in the empty slot keeps the link sound. -/
theorem State.LinkSound.placeReply {s : State} (h : s.LinkSound) (hr : s.mlk.reply = none) (kind tag : Byte)
    (st : Status) (data : List Byte) : (s.placeReply kind tag st data).LinkSound := by
  obtain ⟨hcounts, hsent, hslots⟩ := h
  refine ⟨hcounts, fun f hf => ?_, hslots⟩
  have := hsent f hf
  rw [hr] at this
  cases this

theorem KeepsLink.linkSound {s t : State} (h : KeepsLink s t) (hs : s.LinkSound) (ht : t.ntu.SlotsCoherent) :
    t.LinkSound ∧ t.mlk.reply = s.mlk.reply := by
  obtain ⟨hmlk, hbad, hdisc⟩ := h
  obtain ⟨⟨hb, hd⟩, hsent, -⟩ := hs
  refine ⟨⟨⟨hbad.trans hb, hdisc.trans hd⟩, ?_, ht⟩, ?_⟩ <;> rw [hmlk]
  exact hsent

/-- A frame discarded keeps the link served (R168). -/
theorem State.LinkServed.discardFrame {s : State} (h : s.LinkServed) : s.discardFrame.LinkServed := by
  obtain ⟨⟨⟨hb, _⟩, hidle, hsent⟩, hslots⟩ := h
  exact ⟨⟨⟨hb, Nat.min_le_left _ _⟩, hidle, hsent⟩, hslots⟩

/-- A request taken keeps the link served: discarded, or its reply goes into the slot and the arbiter chooses (R168). -/
theorem Request.take_linkServed {k : Nat} {p : List Byte} {r : Request} (hr : Request.of k p = some r)
    (kind tag : Byte) (s : State) (hs : s.LinkServed) : (r.take kind tag s).LinkServed := by
  have hrx : s.rxDone.LinkServed := hs
  unfold Request.take
  cases hreply : s.mlk.reply with
  | some f =>
    rw [takeRequest_occupied _ _ _ _ _ (by rw [hreply]; rfl)]
    exact hrx.discardFrame
  | none =>
    rw [takeRequest_empty _ _ _ _ _ hreply]
    have hrefuse (st : Status) : (s.rxDone.answer kind tag (.refuse st)).LinkServed :=
      (hrx.sound.placeReply hreply kind tag st []).arbitrate
    unfold judgeRequest
    split
    · exact hrefuse _
    · split <;> exact hrefuse _
    · next a _ =>
      split
      · exact hrefuse _
      · have hlink := r.owner_keepsLink hr a s.rxDone
        have hslots := r.owner_slotsCoherent hr a s.rxDone hs.2
        cases hv : r.owner a s.rxDone with
        | refuse st => exact hrefuse st
        | accept t data =>
          rw [hv] at hlink hslots
          obtain ⟨hsound, hsame⟩ := hlink.linkSound hrx.sound hslots
          exact (hsound.placeReply (hsame.trans hreply) kind tag .ok data).arbitrate

theorem takeUnknown_linkServed (kind tag : Byte) (s : State) (hs : s.LinkServed) :
    (takeUnknown kind tag s).LinkServed := by
  have hrx : s.rxDone.LinkServed := hs
  unfold takeUnknown
  cases hreply : s.mlk.reply with
  | some f =>
    simp only [State.rxDone_reply, hreply, Option.isSome_some, if_true]
    exact hrx.discardFrame
  | none =>
    simp only [State.rxDone_reply, hreply, Option.isSome_none, Bool.false_eq_true, if_false]
    exact (hrx.sound.placeReply hreply kind tag _ []).arbitrate

/-! ## The other events -/

/-- A pass does playing work on the debounced scanner, and ends in the arbiter's choice. -/
theorem takePass_linkServed (readings : Readings) (s : State) (hs : s.LinkServed) :
    (takePass readings s).LinkServed := by
  have hone (press : Bool) (t : State) (x : Crosspoint) (ht : t.LinkSound) : (handOn press t x).LinkSound :=
    (handOn_playing press t x).linkSound ht
  have hmany (press : Bool) (xs : List Crosspoint) (t : State) (ht : t.LinkSound) :
      (xs.foldl (handOn press) t).LinkSound := by
    induction xs generalizing t with
    | nil => exact ht
    | cons x xs ih => exact ih _ (hone press t x ht)
  rw [takePass_eq]
  have hdebounced : (s.setBsc (s.bsc.debounced readings)).LinkSound := hs.sound
  exact (hmany true _ _ (hmany false _ _ hdebounced)).arbitrate

theorem meterExpiry_linkServed (s : State) (hs : s.LinkServed) : (meterExpiry s).LinkServed := by
  unfold meterExpiry
  split
  · refine State.LinkSound.arbitrate ⟨hs.1.1, hs.1.2.2, ?_⟩
    exact (State.raise_raised (s.setNtu { s.ntu with meterTimer := some 0 }) _).slotsCoherent hs.2
  · exact hs

theorem hostFrameCompletion_linkServed (s : State) (hs : s.LinkServed) : (hostFrameCompletion s).LinkServed := by
  unfold hostFrameCompletion
  split
  · exact hs
  · exact State.LinkSound.arbitrate ⟨hs.1.1, nofun, hs.2⟩
  · exact State.LinkSound.arbitrate ⟨hs.1.1, nofun, hs.2⟩

/-- The part right after reset sends IDENTITY and has nothing pending (R181, R191). -/
theorem State.reset_linkServed : State.reset.LinkServed :=
  ⟨⟨⟨Nat.zero_le _, Nat.zero_le _⟩, nofun, nofun⟩, NoticeUnit.slotsCoherent_replicate rfl⟩

/-- Every command and the timebase keep the link served. -/
theorem linkServed_kept : KeptByCommands State.LinkServed where
  powerOnReset _ _ := State.reset_linkServed
  takePass := takePass_linkServed
  sampleArrival w s hs := by
    rcases sampleArrival_playing w s with ⟨-, h⟩ | ⟨-, h⟩ <;> exact h.linkServed hs
  streamLossTimeout s hs := by
    obtain ⟨b, -, h⟩ := streamLossTimeout_playing s
    exact h.linkServed hs
  cueLineRise s := (cueLineRise_playing s).linkServed
  cueLineFall s := (cueLineFall_playing s).linkServed
  cueQualificationExpiry s := (cueQualificationExpiry_playing s).linkServed
  readyRise n s := (readyRise_playing n s).linkServed
  readyFall n s := (readyFall_playing n s).linkServed
  recordCompletion n s := (recordCompletion_playing n s).linkServed
  stallExpiry n s := (stallExpiry_playing n s).linkServed
  meterExpiry := meterExpiry_linkServed
  hostFrameCompletion := hostFrameCompletion_linkServed
  request _ _ _ hr := Request.take_linkServed hr
  unknown := takeUnknown_linkServed
  receive _ _ _ _ hs := hs
  drop _ hs := ⟨⟨⟨Nat.min_le_left _ _, hs.1.1.2⟩, hs.1.2⟩, hs.2⟩
  discard _ hs := hs.discardFrame
  tick _ hs := hs
  queue _ _ _ hs := hs

/-- Settles O57: within an event the counts, the slot and the notices stay coherent, and the arbiter's choice at its end
leaves an idle output nothing to send. -/
theorem stepKeepsOutputServed : Obligations.StepKeepsOutputServed :=
  fun _ _ hserved hslots hstep => linkServed_kept.step_keeps ⟨hserved, hslots⟩ hstep

end Sys2Proof.Machine

/-! PROOF. The scenes, the transposes and the override stack (R37, R38, R45, R58, R125): what each operation leaves of
them, and that every step keeps them coherent. -/

namespace Sys2Proof.Machine

/-! ## The invariant, part by part -/

/-- A transpose, or the delta of a definition, lies in −24..+24. -/
def TransposeInRange (v : Int) : Prop := -24 ≤ v ∧ v ≤ 24

/-- A scene's state suits its contents, and its transposes lie in their ranges (R37, R38). -/
structure Scene.Sound (c : Scene) : Prop where
  valid : c.state = .valid → c.hasLayer = true
  empty : c.state = .empty → c = .blank
  layers : ∀ i : LayerPos, LayerInRange c.layers[i]
  transpose : TransposeInRange c.defaults.transpose

/-- The transposes of the Live Copy lie in their ranges (R38, R45). -/
structure LiveCopy.Sound (c : LiveCopy) : Prop where
  layers : ∀ i : LayerPos, LayerInRange c.layers[i]
  transpose : TransposeInRange c.settings.transpose

/-- The stack is bounded and its tags are distinct, its saved transposes are in range (R125). -/
structure StackSound (stack : List StackEntry) : Prop where
  length : stack.length ≤ 4
  tags : (stack.map fun e => e.tag).Nodup
  host : ∀ e ∈ stack, 4 ≤ e.tag.val → e.released = false
  saved : ∀ e ∈ stack, TransposeInRange e.saved.transpose

/-- Library, Live Copy, definitions and stack are sound. -/
structure State.ScoreSound (s : State) : Prop where
  library : ∀ n : SceneNo, s.sst.library[n].Sound
  live : s.sst.live.Sound
  overrides : ∀ n : Fin 4, TransposeInRange s.sst.overrides[n].delta
  stack : StackSound s.stack

theorem State.scoreSound_iff (s : State) :
    s.ScoreSound ↔ s.ScenesCoherent ∧ s.TransposesInRange ∧ s.StackBounded := by
  constructor
  · rintro ⟨hlib, ⟨hlayers, htrans⟩, hover, ⟨hlen, htags, hhost, hsaved⟩⟩
    exact ⟨fun n => ⟨(hlib n).valid, (hlib n).empty⟩,
      ⟨⟨hlayers, fun n => (hlib n).layers⟩, htrans, fun n => (hlib n).transpose, hover, hsaved⟩, hlen, htags, hhost⟩
  · rintro ⟨hscenes, ⟨⟨hlive, hlayers⟩, htrans, hdefaults, hover, hsaved⟩, hlen, htags, hhost⟩
    exact ⟨fun n => ⟨(hscenes n).1, (hscenes n).2, hlayers n, hdefaults n⟩, ⟨hlive, htrans⟩, hover,
      ⟨hlen, htags, hhost, hsaved⟩⟩

/-! ## What leaves them alone -/

/-- Library, Live Copy, definitions and stack are the same. -/
structure SameScore (s t : State) : Prop where
  library : t.sst.library = s.sst.library
  live : t.sst.live = s.sst.live
  overrides : t.sst.overrides = s.sst.overrides
  stack : t.stack = s.stack

theorem SameScore.refl (s : State) : SameScore s s := ⟨rfl, rfl, rfl, rfl⟩

theorem SameScore.trans {s t u : State} (h : SameScore s t) (h' : SameScore t u) : SameScore s u :=
  ⟨h'.library.trans h.library, h'.live.trans h.live, h'.overrides.trans h.overrides, h'.stack.trans h.stack⟩

theorem SameScore.foldl {α : Type} {f : State → α → State} (hf : ∀ t a, SameScore t (f t a)) (l : List α)
    (s : State) : SameScore s (l.foldl f s) := by
  induction l generalizing s with
  | nil => exact .refl s
  | cons a l ih => exact (hf s a).trans (ih (f s a))

theorem SameScore.ite {c : Prop} [Decidable c] {s t u : State} (ht : SameScore s t) (hu : SameScore s u) :
    SameScore s (if c then t else u) := by
  split
  · exact ht
  · exact hu

theorem OnlyVoiceAndTierWork.sameScore {s t : State} (h : OnlyVoiceAndTierWork s t) : SameScore s t := by
  obtain ⟨h, -⟩ := h
  constructor <;> rw [h]

theorem OnlyVoiceWork.sameScore {s t : State} (h : OnlyVoiceWork s t) : SameScore s t := h.andTier.sameScore

theorem SameScore.sound {s t : State} (h : SameScore s t) (hs : s.ScoreSound) : t.ScoreSound := by
  obtain ⟨hlib, hlive, hover, hstack⟩ := hs
  exact ⟨h.library ▸ hlib, h.live ▸ hlive, h.overrides ▸ hover, h.stack ▸ hstack⟩

theorem State.scoreSound_linkBlind : LinkBlind State.ScoreSound :=
  fun _ _ _ _ _ h => ⟨h.library, h.live, h.overrides, h.stack⟩

theorem State.arbitrate_sameScore (s : State) : SameScore s s.arbitrate := by
  constructor <;> simp only [State.arbitrate_sst, State.arbitrate_stack]

theorem State.silenceLane_sameScore (s : State) (n : LaneNo) : SameScore s (s.silenceLane n) := by
  have h := s.silenceLane_frame n
  constructor <;> rw [h]

theorem State.leavePending_sameScore (s : State) (n : LaneNo) : SameScore s (s.leavePending n) := by
  have h := s.leavePending_frame n
  constructor <;> rw [h]

theorem deliverOwed_sameScore (n : LaneNo) (vs : List Slot) (s : State) : SameScore s (deliverOwed n vs s) := by
  have h := deliverOwed_frame n vs s
  constructor <;> rw [h]

section
variable (s : State)

theorem State.setLane_sameScore (n : LaneNo) (l : Lane) : SameScore s (s.setLane n l) := ⟨rfl, rfl, rfl, rfl⟩

theorem State.clearLane_sameScore (n : LaneNo) : SameScore s (s.clearLane n) := ⟨rfl, rfl, rfl, rfl⟩

theorem State.setBsc_sameScore (b : Scanner) : SameScore s (s.setBsc b) := ⟨rfl, rfl, rfl, rfl⟩

theorem State.setBfe_sameScore (b : Bellows) : SameScore s (s.setBfe b) := ⟨rfl, rfl, rfl, rfl⟩

theorem State.setDyn_sameScore (y : Dynamics) : SameScore s (s.setDyn y) := ⟨rfl, rfl, rfl, rfl⟩

theorem State.setSlc_sameScore (b : Silencing) : SameScore s (s.setSlc b) := ⟨rfl, rfl, rfl, rfl⟩

theorem State.raise_sameScore (n : Notice) : SameScore s (s.raise n) := ⟨rfl, rfl, rfl, rfl⟩

end

theorem silenceSent_sameScore (n : LaneNo) (s : State) : SameScore s (silenceSent n s) := by
  unfold silenceSent
  simp only []
  have leave : SameScore s (if LaneSet.has s.slc.stale n then
      s.setSlc { s.slc with stale := LaneSet.remove s.slc.stale n } else s.leavePending n) :=
    .ite ⟨rfl, rfl, rfl, rfl⟩ (s.leavePending_sameScore n)
  exact leave.trans (.ite ((State.setLane_sameScore _ _ _).trans (State.leavePending_sameScore _ _)) (.refl _))

theorem recordCompletion_sameScore (n : LaneNo) (s : State) : SameScore s (recordCompletion n s) := by
  unfold recordCompletion
  simp only []
  split
  · exact ((((s.setLane_sameScore n _).trans (.ite (silenceSent_sameScore n _) (.refl _))).trans
      (.ite (deliverOwed_sameScore n _ _) (.refl _))).trans (State.setLane_sameScore _ n _)).trans
      (State.arbitrate_sameScore _)
  · exact .refl s

theorem stallExpiry_sameScore (n : LaneNo) (s : State) : SameScore s (stallExpiry n s) := by
  unfold stallExpiry
  simp only []
  split
  · exact ((((s.setLane_sameScore n _).trans (State.clearLane_sameScore _ n)).trans
      (State.leavePending_sameScore _ n)).trans (State.raise_sameScore _ _)).trans (State.arbitrate_sameScore _)
  · exact .refl s

theorem reviveLane_sameScore (s : State) (n : LaneNo) : SameScore s (reviveLane s n) :=
  ((s.setLane_sameScore n _).trans (State.silenceLane_sameScore _ n)).trans (State.setLane_sameScore _ n _)

theorem applyLaneEnable_sameScore (n : LaneNo) (enable : Bool) (s : State) :
    SameScore s (applyLaneEnable n enable s) := by
  have silenced (l : Lane) : SameScore s ((s.setLane n l).silenceLane n) :=
    (s.setLane_sameScore n l).trans (State.silenceLane_sameScore _ n)
  unfold applyLaneEnable
  simp only []
  split
  · exact .refl s
  · exact silenced _
  · exact silenced _
  · exact .refl s
  · exact .refl s
  · exact silenced _
  · exact (s.setLane_sameScore n _).trans (State.leavePending_sameScore _ n)
  · exact .refl s

theorem writeEnable_sameScore (e sh : Bool) (s : State) : SameScore s (writeEnable e sh s) :=
  (s.setSlc_sameScore { s.slc with enable := e, shadow := sh }).trans (writeEnable_voiceWork e sh s).sameScore

theorem panicPart_sameScore (s : State) : SameScore s (panicPart s) := by
  unfold panicPart
  exact (((SameScore.foldl State.silenceLane_sameScore _ s).trans (State.setSlc_sameScore _ _)).trans
    (writeEnable_sameScore _ _ _)).trans (.ite (State.raise_sameScore _ _) (.refl _))

theorem processSample_sameScore (m : Nat) (s : State) : SameScore s (processSample m s) := by
  have swell (t : State) (n : LaneNo) : SameScore t (postSwell t n) := by
    unfold postSwell
    simp only []
    split
    · split <;> exact ⟨rfl, rfl, rfl, rfl⟩
    · exact .refl t
  unfold processSample
  exact (((s.setDyn_sameScore _).trans (tierCheck_frame _).sameScore).trans (State.setDyn_sameScore _ _)).trans
    (.foldl swell allLanes _)

/-! ## Transfers, cues and settings -/

theorem LiveCopy.Sound.transferred {c : LiveCopy} (hc : c.Sound) {scene : Scene} (hscene : scene.Sound) (n : SceneNo)
    (items : BitVec 3) : (c.transferred n scene items).Sound := by
  unfold LiveCopy.transferred
  constructor
  · intro i
    simp only []
    split_ifs
    · exact hscene.layers i
    · exact hc.layers i
  · simp only []
    split_ifs
    · exact hscene.transpose
    · exact hc.transpose

theorem State.ScoreSound.setLive {s : State} (h : s.ScoreSound) {c : LiveCopy} (hc : c.Sound) :
    (s.setLive c).ScoreSound :=
  ⟨h.library, hc, h.overrides, h.stack⟩

theorem State.ScoreSound.setSettings {s : State} (h : s.ScoreSound) {t : Settings} (ht : TransposeInRange t.transpose) :
    (s.setSettings t).ScoreSound :=
  ⟨h.library, ⟨h.live.layers, ht⟩, h.overrides, h.stack⟩

theorem State.ScoreSound.setStack {s : State} (h : s.ScoreSound) {l : List StackEntry} (hl : StackSound l) :
    (s.setStack l).ScoreSound :=
  ⟨h.library, h.live, h.overrides, hl⟩

theorem State.ScoreSound.transfer {s : State} (h : s.ScoreSound) (n : SceneNo) (items : BitVec 3) (separate : Bool) :
    (transfer n items separate s).ScoreSound :=
  (transfer_frame n items separate s).sameScore.sound (h.setLive (h.live.transferred (h.library n) n items))

theorem State.ScoreSound.disarm {s : State} (h : s.ScoreSound) : s.disarm.ScoreSound :=
  ⟨h.library, h.live, h.overrides, h.stack⟩

theorem State.ScoreSound.raise {s : State} (h : s.ScoreSound) (n : Notice) : (s.raise n).ScoreSound :=
  ⟨h.library, h.live, h.overrides, h.stack⟩

theorem State.ScoreSound.fireArmed {s : State} (h : s.ScoreSound) (c : Cue) (t : Trigger) :
    (fireArmed c t s).ScoreSound := by
  unfold Machine.fireArmed
  simp only []
  split
  · exact (h.disarm.transfer _ _ _).raise _
  · exact h.disarm.raise _

theorem State.ScoreSound.triggerCue {s : State} (h : s.ScoreSound) (t : Trigger) : (triggerCue t s).ScoreSound := by
  unfold Machine.triggerCue
  split
  · split
    · exact h.fireArmed _ t
    · exact h
  · exact h

theorem State.ScoreSound.applySettings {s : State} (h : s.ScoreSound) {t : Settings}
    (ht : TransposeInRange t.transpose) : (applySettings t s).ScoreSound :=
  (applySettings_voiceWork t s).sameScore.sound (h.setSettings ht)

theorem State.ScoreSound.selectRegisterIn {s : State} (h : s.ScoreSound) (c : Sect) (n : RegNo) :
    (selectRegisterIn c n s).ScoreSound := by
  have hreg : TransposeInRange (s.sst.live.settings.withReg c n).transpose := by
    cases c <;> exact h.live.transpose
  unfold Machine.selectRegisterIn
  split
  · exact h
  · exact (sectionReexpand_voiceWork _ _).sameScore.sound (h.setSettings hreg)

theorem State.ScoreSound.setTransposeTo {s : State} (h : s.ScoreSound) {v : Int} (hv : TransposeInRange v) :
    (s.setTransposeTo v).ScoreSound :=
  h.setSettings hv

theorem State.ScoreSound.handReversal {s : State} (h : s.ScoreSound) : (handReversal s).ScoreSound :=
  ((reversalReexpand_voiceWork _).sameScore.sound (h.triggerCue .reversal)).raise _

/-! ## The override stack -/

/-- A new top entry that is not released keeps the stack sound. -/
theorem StackSound.push {stack : List StackEntry} (h : StackSound stack) {e : StackEntry} (hlen : stack.length < 4)
    (htag : ∀ f ∈ stack, f.tag ≠ e.tag) (hrel : e.released = false) (hsaved : TransposeInRange e.saved.transpose) :
    StackSound (e :: stack) where
  length := hlen
  tags := by
    rw [List.map_cons, List.nodup_cons]
    refine ⟨fun hmem => ?_, h.tags⟩
    obtain ⟨f, hf, heq⟩ := List.mem_map.mp hmem
    exact htag f hf heq
  host := by
    intro f hf
    rcases List.mem_cons.mp hf with rfl | hf
    · exact fun _ => hrel
    · exact h.host f hf
  saved := by
    intro f hf
    rcases List.mem_cons.mp hf with rfl | hf
    · exact hsaved
    · exact h.saved f hf

/-- What is left when entries are popped is sound. -/
theorem StackSound.sublist {stack rest : List StackEntry} (h : StackSound stack) (hr : rest.Sublist stack) :
    StackSound rest where
  length := hr.length_le.trans h.length
  tags := h.tags.sublist (hr.map _)
  host e he := h.host e (hr.subset he)
  saved e he := h.saved e (hr.subset he)

/-- Marking a switch entry, or unmarking any, keeps the stack sound (R126, R128). -/
theorem StackSound.mark {stack : List StackEntry} (h : StackSound stack) (tag : Fin 8) {b : Bool}
    (hb : b = false ∨ tag.val < 4) :
    StackSound (stack.map fun e => if e.tag = tag then { e with released := b } else e) := by
  have htag (e : StackEntry) : (if e.tag = tag then { e with released := b } else e : StackEntry).tag = e.tag := by
    split <;> rfl
  have hsaved (e : StackEntry) :
      (if e.tag = tag then { e with released := b } else e : StackEntry).saved = e.saved := by
    split <;> rfl
  refine ⟨by rw [List.length_map]; exact h.length, ?_, ?_, ?_⟩
  · rw [List.map_map]
    simpa only [Function.comp_def, htag] using h.tags
  · intro f hf hhost
    obtain ⟨e, he, rfl⟩ := List.mem_map.mp hf
    rw [htag] at hhost
    split
    · next heq =>
      rcases hb with rfl | hlt
      · rfl
      · rw [heq] at hhost; omega
    · exact h.host e he hhost
  · intro f hf
    obtain ⟨e, he, rfl⟩ := List.mem_map.mp hf
    rw [hsaved]
    exact h.saved e he

theorem State.hasTag_false {s : State} {tag : Fin 8} (h : ¬ s.hasTag tag = true) : ∀ e ∈ s.stack, e.tag ≠ tag := by
  simpa [State.hasTag] using h

theorem clampInt_transpose (v : Int) : TransposeInRange (clampInt v (-24) 24) := clampInt_mem (by decide)

theorem State.ScoreSound.pushEntry {s : State} (h : s.ScoreSound) {tag : Fin 8} (d : OverrideDef)
    (htag : ¬ s.hasTag tag = true) (hlen : ¬ 4 ≤ s.stack.length) : (pushEntry tag d s).ScoreSound := by
  have hpushed (replaced : Bool) : (s.setStack (⟨tag, false, replaced, s.sst.live.origin, s.sst.live.settings⟩
      :: s.stack)).ScoreSound := h.setStack (h.stack.push (Nat.lt_of_not_le hlen) (State.hasTag_false htag) rfl h.live.transpose)
  have happlied (t : State) (ht : t.ScoreSound) :
      ((Machine.applySettings (d.over t.sst.live.settings) t).setTransposeTo
        (clampInt ((Machine.applySettings (d.over t.sst.live.settings) t).sst.live.settings.transpose + d.delta) (-24) 24)
        ).ScoreSound := by
    exact State.ScoreSound.setTransposeTo (ht.applySettings (t := d.over t.sst.live.settings) ht.live.transpose)
      (clampInt_transpose _)
  unfold Machine.pushEntry
  cases d.target with
  | some n => exact happlied _ ((hpushed _).transfer n _ _)
  | none => exact happlied _ (hpushed _)

theorem State.ScoreSound.switchPush {s : State} (h : s.ScoreSound) (n : Fin 4) : (switchPush n s).ScoreSound := by
  unfold Machine.switchPush
  simp only []
  split
  · exact h.setStack (h.stack.mark _ (.inl rfl))
  · next htag =>
    split
    · exact h.raise _
    · next hlen =>
      split
      · exact h.pushEntry _ htag hlen
      · exact h.raise _

theorem State.ScoreSound.restoreSettings {s : State} (h : s.ScoreSound) {deepest : StackEntry}
    (hd : TransposeInRange deepest.saved.transpose) : (restoreSettings deepest s).ScoreSound :=
  (h.applySettings (t := { deepest.saved with transpose := s.sst.live.settings.transpose })
    h.live.transpose).setTransposeTo hd

theorem StackSound.nil : StackSound [] := ⟨Nat.zero_le _, List.nodup_nil, nofun, nofun⟩

theorem State.ScoreSound.haltPart {s : State} (h : s.ScoreSound) : (haltPart s).ScoreSound := by
  unfold Machine.haltPart
  exact (((((s.setSlc_sameScore _).trans (.foldl State.silenceLane_sameScore _ _)).trans
    (writeEnable_sameScore _ _ _)).sound h).setStack .nil).disarm.raise _

theorem State.ScoreSound.restoreContext {s : State} (h : s.ScoreSound) (first : StackEntry) {deepest : StackEntry}
    (hd : TransposeInRange deepest.saved.transpose) (replaced : Bool) :
    (restoreContext first deepest replaced s).1.ScoreSound := by
  unfold Machine.restoreContext
  split
  · split
    · exact (h.transfer _ _ _).restoreSettings hd
    · simp only []
      split
      · exact ((h.raise _).transfer _ _ _).restoreSettings hd
      · exact (h.raise _).haltPart
  · exact h.restoreSettings hd

/-- The popped run is of the stack. -/
theorem popTop_run_subset (first : StackEntry) (below : List StackEntry) :
    ∀ e ∈ first :: below.takeWhile fun e => e.released, e ∈ first :: below := by
  intro e he
  rcases List.mem_cons.mp he with rfl | he
  · exact List.mem_cons_self
  · exact List.mem_cons_of_mem _ ((List.takeWhile_sublist _).subset he)

theorem State.ScoreSound.popTop {s : State} (h : s.ScoreSound) {first : StackEntry} {below : List StackEntry}
    (hs : s.stack = first :: below) : (popTop first below s).1.ScoreSound := by
  have hstack := h.stack
  rw [hs] at hstack
  have hrest : StackSound (below.dropWhile fun e => e.released) :=
    hstack.sublist ((List.dropWhile_sublist _).trans (List.sublist_cons_self _ _))
  exact (h.setStack hrest).restoreContext first
    (hstack.saved _ (popTop_run_subset first below _ (List.getLast_mem _))) _

theorem State.ScoreSound.switchRelease {s : State} (h : s.ScoreSound) (n : Fin 4) :
    (switchRelease n s).ScoreSound := by
  unfold Machine.switchRelease
  simp only []
  split
  · exact h
  · next hs =>
    split
    · exact h.popTop hs
    · split
      · exact h.setStack (h.stack.mark _ (.inr n.isLt))
      · exact h

/-! ## The scan pass and the samples -/

theorem State.ScoreSound.routeChange {s : State} (h : s.ScoreSound) (x : Crosspoint) (press : Bool) :
    (routeChange x press s).ScoreSound := by
  have hkey : (if press then pressKey s x else releaseKey s x).ScoreSound := by
    split
    · exact (pressKey_voiceWork s x).sameScore.sound h
    · exact (releaseKey_voiceWork s x).sameScore.sound h
  have hbsc (b : Scanner) : (s.setBsc b).ScoreSound := (s.setBsc_sameScore b).sound h
  unfold Machine.routeChange
  split
  · exact h
  · next n _ =>
    unfold routeOverride
    simp only []
    generalize (if press then s.bsc.groupOcc[n] + 1 else s.bsc.groupOcc[n] - 1) = after
    have hw := hbsc { s.bsc with groupOcc := put s.bsc.groupOcc n after }
    split_ifs
    · exact hw
    · exact hw.switchPush n
    · exact hw
    · exact hw.switchRelease n
    · exact hw
  · unfold routeHush
    simp only []
    generalize (if press then s.bsc.hushOcc + 1 else s.bsc.hushOcc - 1) = after
    have hw := hbsc { s.bsc with hushOcc := after }
    have hwritten (e sh : Bool) := (writeEnable_sameScore e sh _).sound hw
    split_ifs
    · exact hw
    · exact hwritten _ _
    · exact hw
    · exact hwritten _ _
    · exact hw
  · split
    · exact h
    · exact hkey
  · split
    · exact h
    · exact hkey
  · split
    · exact h.selectRegisterIn _ _
    · exact h
  · split
    · exact h.selectRegisterIn _ _
    · exact h
  · split
    · exact h.triggerCue _
    · exact h

theorem State.ScoreSound.handOns {s : State} (h : s.ScoreSound) (press : Bool) (xs : List Crosspoint) :
    (xs.foldl (handOn press) s).ScoreSound := by
  induction xs generalizing s with
  | nil => exact h
  | cons x xs ih =>
    have hheld : (countHeld x press s).ScoreSound := by
      rw [countHeld_eq]
      exact ⟨h.library, h.live, h.overrides, h.stack⟩
    exact ih ((hheld.routeChange x press).raise _)

theorem takePass_scoreSound (readings : Readings) (s : State) (h : s.ScoreSound) :
    (takePass readings s).ScoreSound := by
  have hdebounced : (s.setBsc (s.bsc.debounced readings)).ScoreSound :=
    ⟨h.library, h.live, h.overrides, h.stack⟩
  rw [takePass_eq]
  exact (State.arbitrate_sameScore _).sound ((hdebounced.handOns false _).handOns true _)

theorem raiseSensor_scoreSound {s : State} (h : s.ScoreSound) (before : SensorState) :
    (raiseSensor before s).ScoreSound := by
  unfold raiseSensor
  split
  · exact h
  · exact h.raise _

theorem sampleArrival_scoreSound (w : BitVec 16) (s : State) (h : s.ScoreSound) :
    (sampleArrival w s).ScoreSound := by
  have hsensed : (s.sensed w).ScoreSound :=
    raiseSensor_scoreSound ((s.setBfe_sameScore _).sound h) _
  rcases sampleArrival_cases w s with ⟨_, e⟩ | ⟨_, e⟩ <;> rw [e] <;> refine (State.arbitrate_sameScore _).sound ?_
  · exact hsensed
  · have hjudged (b : Bellows) : ((s.sensed w).setBfe b).ScoreSound := ((s.sensed w).setBfe_sameScore b).sound hsensed
    unfold handOff
    split
    · exact hjudged _
    · exact (processSample_sameScore _ _).sound (hjudged _)
    · exact (processSample_sameScore _ _).sound (hjudged _).handReversal

theorem streamLossTimeout_scoreSound (s : State) (h : s.ScoreSound) : (streamLossTimeout s).ScoreSound := by
  unfold streamLossTimeout
  split
  · exact (State.arbitrate_sameScore _).sound
      (raiseSensor_scoreSound ((s.setBfe_sameScore _).sound h) _)
  · exact h

theorem cueLine_scoreSound {s : State} (h : s.ScoreSound) (d : Detector) (t : Timer) (pin : Bool) :
    (s.setSst { s.sst with detector := d, qualTimer := t, cuePin := pin }).ScoreSound :=
  ⟨h.library, h.live, h.overrides, h.stack⟩

theorem cueQualificationExpiry_scoreSound (s : State) (h : s.ScoreSound) :
    (cueQualificationExpiry s).ScoreSound := by
  unfold cueQualificationExpiry
  split
  · exact (State.arbitrate_sameScore _).sound
      ((cueLine_scoreSound h .waitFall none s.sst.cuePin).triggerCue .cueLine)
  · exact h

/-! ## Requests -/

theorem signedField_some {lo hi : Int} {b : Byte} {v : Int} (h : signedField lo hi b = some v) : lo ≤ v ∧ v ≤ hi := by
  unfold signedField at h
  split at h
  · next c => cases h; exact c
  · cases h

theorem parseOne_some {α : Type} {f : Byte → Option α} {p : List Byte} {a : α} (h : parseOne f p = .fields a) :
    ∃ b, f b = some a := by
  unfold parseOne at h
  split at h
  · exact ⟨_, Parsed.ofOption_fields h⟩
  · cases h

theorem parseLoadLayer_range {p : List Byte} {a : SceneNo × LayerPos × Layer} (h : parseLoadLayer p = .fields a) :
    -48 ≤ a.2.2.transpose ∧ a.2.2.transpose ≤ 48 := by
  unfold parseLoadLayer at h
  split at h
  · have ho := Parsed.ofOption_fields h
    iterate 7 obtain ⟨_, -, ho⟩ := Option.bind_eq_some_iff.mp ho
    obtain ⟨v, hv, ho⟩ := Option.bind_eq_some_iff.mp ho
    iterate 4 obtain ⟨_, -, ho⟩ := Option.bind_eq_some_iff.mp ho
    obtain ⟨-, ho⟩ := Option.ite_none_right_eq_some.mp ho
    cases ho
    exact signedField_some hv
  · cases h

theorem parseSceneDefaults_range {p : List Byte} {a : SceneNo × Settings × Vector TierCode 8}
    (h : parseSceneDefaults p = .fields a) : TransposeInRange a.2.1.transpose := by
  unfold parseSceneDefaults at h
  split at h
  · have ho := Parsed.ofOption_fields h
    simp only [Option.bind_eq_bind, Option.bind_eq_some_iff, Option.pure_def, Option.some.injEq] at ho
    obtain ⟨_, _, _, _, _, _, v, hv, _, _, _, _, _, _, rfl⟩ := ho
    exact signedField_some hv
  · cases h

theorem overrideFields_range {target treble bass delta tMode bMode : Byte} {d : OverrideDef}
    (h : overrideFields target treble bass delta tMode bMode = some d) : TransposeInRange d.delta := by
  unfold overrideFields at h
  simp only [Option.bind_eq_bind, Option.bind_eq_some_iff, Option.pure_def, Option.some.injEq] at h
  obtain ⟨_, _, _, _, _, _, v, hv, _, _, _, _, rfl⟩ := h
  exact signedField_some hv

theorem parseLoadOverride_range {p : List Byte} {a : Fin 4 × OverrideDef} (h : parseLoadOverride p = .fields a) :
    TransposeInRange a.2.delta := by
  unfold parseLoadOverride at h
  split at h
  · have ho := Parsed.ofOption_fields h
    simp only [Option.bind_eq_bind, Option.bind_eq_some_iff, Option.pure_def, Option.some.injEq] at ho
    obtain ⟨_, _, _, hd, rfl⟩ := ho
    exact overrideFields_range hd
  · cases h

/-- A library with one sound scene written is sound. -/
theorem State.ScoreSound.setScene {s : State} (h : s.ScoreSound) (n : SceneNo) {c : Scene} (hc : c.Sound) :
    (s.setScene n c).ScoreSound := by
  refine ⟨fun k => ?_, h.live, h.overrides, h.stack⟩
  simp only [State.setScene, State.setSst_sst, get_put]
  split
  · exact hc
  · exact h.library k

/-- A cleared scene that is not VALID is sound (R37). -/
theorem Scene.blank_sound {state : SceneState} (h : state ≠ .valid) : Scene.Sound { Scene.blank with state := state } where
  valid hv := absurd hv h
  empty he := by rw [show state = SceneState.empty from he]; rfl
  layers i := by
    rw [show Scene.blank.layers[i] = none from get_replicate _ i]
    nofun
  transpose := ⟨by simp [Scene.blank, Settings.cleared], by simp [Scene.blank, Settings.cleared]⟩

/-- A PARTIAL scene with new contents in their ranges is sound. -/
theorem Scene.loading_sound {c : Scene} (h : c.state = .loading) (hl : ∀ i : LayerPos, LayerInRange c.layers[i])
    (ht : TransposeInRange c.defaults.transpose) : c.Sound :=
  ⟨fun hv => absurd (h.symm.trans hv) (by decide), fun he => absurd (h.symm.trans he) (by decide), hl, ht⟩

theorem loadLayerOwner_scoreSound {a : SceneNo × LayerPos × Layer} (ha : -48 ≤ a.2.2.transpose ∧ a.2.2.transpose ≤ 48)
    {s : State} (hs : s.ScoreSound) : (loadLayerOwner a s).Leaves State.ScoreSound := by
  refine Verdict.leaves_ite (fun hc => hs.setScene _ (Scene.loading_sound hc (fun i => ?_) (hs.library a.1).transpose))
    fun _ => trivial
  simp only [get_put]
  split
  · intro y hy
    cases hy
    exact ha
  · exact (hs.library a.1).layers i

theorem setSceneDefaultsOwner_scoreSound {a : SceneNo × Settings × Vector TierCode 8}
    (ha : TransposeInRange a.2.1.transpose) {s : State} (hs : s.ScoreSound) :
    (setSceneDefaultsOwner a s).Leaves State.ScoreSound :=
  Verdict.leaves_ite (fun hc => hs.setScene _ (Scene.loading_sound hc (hs.library a.1).layers ha)) fun _ => trivial

theorem finishSceneOwner_scoreSound (n : SceneNo) {s : State} (hs : s.ScoreSound) :
    (finishSceneOwner n s).Leaves State.ScoreSound :=
  Verdict.leaves_ite (fun hc => hs.setScene _
    ⟨fun _ => hc.2, nofun, (hs.library n).layers, (hs.library n).transpose⟩) fun _ => trivial

theorem loadOverrideOwner_scoreSound {a : Fin 4 × OverrideDef} (ha : TransposeInRange a.2.delta) {s : State}
    (hs : s.ScoreSound) : (loadOverrideOwner a s).Leaves State.ScoreSound := by
  refine ⟨hs.library, hs.live, fun n => ?_, hs.stack⟩
  simp only [State.setSst_sst, get_put]
  split
  · exact ha
  · exact hs.overrides n

theorem restartOwner_scoreSound (u : Unit) {s : State} (hs : s.ScoreSound) :
    (restartOwner u s).Leaves State.ScoreSound := by
  rw [restartOwner_eq]
  have hcleared : s.restartCleared.ScoreSound := ⟨hs.library, hs.live, hs.overrides, .nil⟩
  have hlanes : SameScore s.restartCleared (allLanes.foldl restartLane s.restartCleared) :=
    .foldl (fun t n => .ite (.refl t) (reviveLane_sameScore t n)) _ _
  have hsound := hlanes.sound hcleared
  generalize allLanes.foldl restartLane s.restartCleared = t at hsound
  exact ⟨hsound.library, hsound.live, hsound.overrides, hsound.stack⟩

theorem fireCueOwner_scoreSound (u : Unit) {s : State} (hs : s.ScoreSound) :
    (fireCueOwner u s).Leaves State.ScoreSound := by
  unfold fireCueOwner
  split
  · exact Verdict.leaves_ite (fun _ => hs.fireArmed _ _) fun _ => trivial
  · trivial

theorem pushOverrideOwner_scoreSound (a : Fin 8 × OverrideDef) {s : State} (hs : s.ScoreSound) :
    (pushOverrideOwner a s).Leaves State.ScoreSound :=
  Verdict.leaves_ite (fun _ => trivial) fun htag => Verdict.leaves_ite (fun _ => trivial) fun hlen =>
    Verdict.leaves_ite (fun _ => hs.pushEntry _ htag hlen) fun _ => trivial

theorem popOverrideOwner_scoreSound (tag : Fin 8) {s : State} (hs : s.ScoreSound) :
    (popOverrideOwner tag s).Leaves State.ScoreSound := by
  unfold popOverrideOwner
  split
  · trivial
  · next hstack => exact Verdict.leaves_ite (fun _ => hs.popTop hstack) fun _ => trivial

/-- Every owner keeps scenes, transposes and stack sound on fields that its payload reads as. -/
theorem Request.owner_scoreSound {k : Nat} {p : List Byte} {r : Request} (hr : Request.of k p = some r)
    {a : r.Fields} (ha : r.parsed = .fields a) {s : State} (hs : s.ScoreSound) :
    (r.owner a s).Leaves State.ScoreSound := by
  fun_cases Request.of k p <;> simp only [Request.of, Option.some.injEq, reduceCtorEq] at hr <;> subst hr
  case case2 => exact ⟨hs.library, hs.live, hs.overrides, hs.stack⟩
  case case3 => exact restartOwner_scoreSound a hs
  case case8 => exact Verdict.leaves_ite (fun _ => trivial) fun _ => ⟨hs.library, hs.live, hs.overrides, hs.stack⟩
  case case14 => exact hs.applySettings hs.live.transpose
  case case15 =>
    obtain ⟨_, hb⟩ := parseOne_some ha
    exact hs.setTransposeTo (signedField_some hb)
  case case16 => exact hs.setScene _ (Scene.blank_sound (by decide))
  case case17 => exact loadLayerOwner_scoreSound (parseLoadLayer_range ha) hs
  case case18 => exact setSceneDefaultsOwner_scoreSound (parseSceneDefaults_range ha) hs
  case case19 => exact finishSceneOwner_scoreSound a hs
  case case20 => exact hs.setScene _ (Scene.blank_sound (state := .empty) (by decide))
  case case22 => exact Verdict.leaves_ite (fun _ => hs.disarm) fun _ => trivial
  case case23 => exact fireCueOwner_scoreSound a hs
  case case24 => exact Verdict.leaves_ite (fun _ => hs.transfer _ _ _) fun _ => trivial
  case case25 => exact hs.selectRegisterIn _ _
  case case26 => exact loadOverrideOwner_scoreSound (parseLoadOverride_range ha) hs
  case case29 => exact (tierCheck_frame _).sameScore.sound ⟨hs.library, hs.live, hs.overrides, hs.stack⟩
  case case31 => exact (tierCheck_frame _).sameScore.sound (hs.setLive ⟨hs.live.layers, hs.live.transpose⟩)
  case case32 => exact (tierCheck_frame _).sameScore.sound ⟨hs.library, hs.live, hs.overrides, hs.stack⟩
  case case33 => exact pushOverrideOwner_scoreSound a hs
  case case34 => exact popOverrideOwner_scoreSound a hs
  case case35 | case36 | case37 | case38 => exact (writeEnable_sameScore _ _ _).sound hs
  case case39 => exact (panicPart_sameScore _).sound hs
  case case40 => exact Verdict.leaves_ite (fun _ => trivial) fun _ =>
    ((s.setLane_sameScore _ _).trans (applyLaneEnable_sameScore _ _ _)).sound hs
  case case41 => exact Verdict.leaves_ite (fun _ => trivial) fun _ => (reviveLane_sameScore _ _).sound hs
  all_goals exact ⟨hs.library, hs.live, hs.overrides, hs.stack⟩

/-! ## Every step -/

/-- The part right after reset (R37, R45, R58, R141). -/
theorem State.reset_scoreSound : State.reset.ScoreSound where
  library n := by
    rw [show State.reset.sst.library[n] = Scene.blank from get_replicate _ n]
    exact Scene.blank_sound (state := .empty) (by decide)
  live := ⟨fun i => by rw [show State.reset.sst.live.layers[i] = none from get_replicate _ i]; nofun,
    by constructor <;> decide⟩
  overrides n := by
    rw [show State.reset.sst.overrides[n] = OverrideDef.keepAll from get_replicate _ n]
    constructor <;> decide
  stack := .nil

theorem scoreSound_kept : KeptByCommands State.ScoreSound where
  powerOnReset _ _ := ⟨State.reset_scoreSound.library, State.reset_scoreSound.live, State.reset_scoreSound.overrides, .nil⟩
  takePass := takePass_scoreSound
  sampleArrival := sampleArrival_scoreSound
  streamLossTimeout := streamLossTimeout_scoreSound
  cueLineRise s hs := by
    unfold cueLineRise
    simp only []
    split <;> exact ⟨hs.library, hs.live, hs.overrides, hs.stack⟩
  cueLineFall s hs := by
    unfold cueLineFall
    simp only []
    split <;> exact ⟨hs.library, hs.live, hs.overrides, hs.stack⟩
  cueQualificationExpiry := cueQualificationExpiry_scoreSound
  readyRise n s hs := (SameScore.ite (.refl s) (s.setLane_sameScore _ _)).sound hs
  readyFall n s hs := (SameScore.ite (s.setLane_sameScore _ _) (.refl s)).sound hs
  recordCompletion n s := (recordCompletion_sameScore n s).sound
  stallExpiry n s := (stallExpiry_sameScore n s).sound
  meterExpiry := State.scoreSound_linkBlind.meterExpiry
  hostFrameCompletion := State.scoreSound_linkBlind.hostFrameCompletion
  request _ _ _ hr kind tag _ hs :=
    State.scoreSound_linkBlind.take kind tag hs fun _ ha _ =>
      Request.owner_scoreSound hr ha (State.scoreSound_linkBlind.setMlk _ hs)
  unknown kind tag _ hs := State.scoreSound_linkBlind.unknown kind tag hs
  receive _ _ _ _ hs := State.scoreSound_linkBlind.setMlk _ hs
  drop _ hs := State.scoreSound_linkBlind.setMlk _ hs
  discard _ hs := State.scoreSound_linkBlind.setMlk _ hs
  tick _ hs := ⟨hs.library, hs.live, hs.overrides, hs.stack⟩
  queue s pending draws hs := State.scoreSound_linkBlind s s.ntu s.mlk pending draws hs

/-- Settles O59: every command keeps scenes, transposes and the override stack coherent. -/
theorem stepKeepsScenesAndStackCoherent : Obligations.StepKeepsScenesAndStackCoherent := by
  intro s t hscenes htrans hstack hstep
  rw [← State.scoreSound_iff]
  exact scoreSound_kept.step_keeps (s.scoreSound_iff.mpr ⟨hscenes, htrans, hstack⟩) hstep

end Sys2Proof.Machine

/-! PROOF. The end of a voice, lane by lane (R65): what each lane of the lane set becomes, whether it owes the Stop, and
what is left of the voice. -/

namespace Sys2Proof.Machine

/-! ## One lane -/

/-- A lane once voice v's end has been settled on it, and whether it then owes v's Stop: the Start withdrawn, or the Stop
accepted, or owed (R65). -/
def Lane.settled (l : Lane) (v : Slot) : Lane × Bool :=
  match l.withdraw v with
  | some m => (m, false)
  | none =>
    match l.acceptStop v with
    | some m => (m, false)
    | none => ({ l with owed := l.owed ++ [v] }, true)

/-- The three ways a lane is settled. -/
theorem Lane.settled_cases (l : Lane) (v : Slot) :
    (l.unsent.any (LaneRecord.isStartOf v) = true
        ∧ l.settled v = ({ l with
            queue := l.sent ++ l.unsent.eraseP (LaneRecord.isStartOf v)
            stall := if l.sent ++ l.unsent.eraseP (LaneRecord.isStartOf v) = [] then none else l.stall }, false))
      ∨ (l.unsent.any (LaneRecord.isStartOf v) = false
        ∧ ((l.state = .live ∨ l.state = .closing) ∧ l.queue.length < 32)
        ∧ l.settled v = (l.append (.stop v), false))
      ∨ (l.unsent.any (LaneRecord.isStartOf v) = false
        ∧ ¬ ((l.state = .live ∨ l.state = .closing) ∧ l.queue.length < 32)
        ∧ l.settled v = ({ l with owed := l.owed ++ [v] }, true)) := by
  unfold Lane.settled
  rcases l.withdraw_cases v with ⟨hany, hw⟩ | ⟨hany, hw⟩ <;> rw [hw]
  · exact .inl ⟨hany, rfl⟩
  · cases ha : l.acceptStop v with
    | some m =>
      obtain ⟨hstate, hlen, rfl⟩ := Lane.acceptStop_some ha
      exact .inr (.inl ⟨hany, ⟨hstate, hlen⟩, rfl⟩)
    | none => exact .inr (.inr ⟨hany, Lane.acceptStop_none ha, rfl⟩)

/-- Settling leaves a lane its state, its timeout and its line. -/
theorem Lane.settled_keeps (l : Lane) (v : Slot) :
    (l.settled v).1.state = l.state ∧ (l.settled v).1.timeout = l.timeout ∧ (l.settled v).1.ready = l.ready := by
  rcases l.settled_cases v with ⟨_, e⟩ | ⟨_, _, e⟩ | ⟨_, _, e⟩ <;> rw [e] <;> simp

theorem settleLane_eq (v : Slot) (s : State) (n : LaneNo) :
    settleLane v s n = (s.setLane n (s.lanes[n].settled v).1).setVoice v
      { s.vtb.voices[v] with
        lanes := LaneSet.remove s.vtb.voices[v].lanes n
        owed := if (s.lanes[n].settled v).2 then LaneSet.add s.vtb.voices[v].owed n else s.vtb.voices[v].owed } := by
  unfold settleLane Lane.settled
  simp only []
  cases s.lanes[n].withdraw v with
  | some m => rfl
  | none =>
    cases s.lanes[n].acceptStop v with
    | some m => rfl
    | none => rfl

/-! ## Several lanes -/

/-- Each lane of a list is settled once, whatever the others do. -/
theorem settleLanes_lane (v : Slot) {ns : List LaneNo} (h : ns.Nodup) (s : State) (k : LaneNo) :
    (ns.foldl (settleLane v) s).lanes[k] = if k ∈ ns then (s.lanes[k].settled v).1 else s.lanes[k] := by
  induction ns generalizing s with
  | nil => rfl
  | cons n ns ih =>
    obtain ⟨hn, hns⟩ := List.nodup_cons.mp h
    rw [List.foldl_cons, ih hns]
    by_cases hk : k = n
    · subst hk
      rw [if_neg hn, if_pos List.mem_cons_self, settleLane_eq, State.setVoice_lanes, State.setLane_get_self]
    · rw [settleLane_lane_ne v s hk]
      simp only [List.mem_cons, hk, false_or]

/-- Of the voice only the two lane sets change: each lane of the list leaves the one, and joins the other if it owes. -/
theorem settleLanes_voice (v : Slot) {ns : List LaneNo} (h : ns.Nodup) (s : State) :
    ∃ lanes owed : LaneSet,
      (ns.foldl (settleLane v) s).vtb.voices[v] = { s.vtb.voices[v] with lanes := lanes, owed := owed }
        ∧ (∀ k, LaneSet.has lanes k = (LaneSet.has s.vtb.voices[v].lanes k && !decide (k ∈ ns)))
        ∧ ∀ k, LaneSet.has owed k
          = (LaneSet.has s.vtb.voices[v].owed k || (decide (k ∈ ns) && (s.lanes[k].settled v).2)) := by
  induction ns generalizing s with
  | nil => exact ⟨s.vtb.voices[v].lanes, s.vtb.voices[v].owed, rfl, by simp, by simp⟩
  | cons n ns ih =>
    obtain ⟨hn, hns⟩ := List.nodup_cons.mp h
    obtain ⟨lanes, owed, hvoice, hlanes, howed⟩ := ih hns (settleLane v s n)
    have hone : (settleLane v s n).vtb.voices[v] = { s.vtb.voices[v] with
        lanes := LaneSet.remove s.vtb.voices[v].lanes n
        owed := if (s.lanes[n].settled v).2 then LaneSet.add s.vtb.voices[v].owed n
          else s.vtb.voices[v].owed } := by
      rw [settleLane_eq, State.setVoice_get_self]
    refine ⟨lanes, owed, ?_, fun k => ?_, fun k => ?_⟩
    · rw [List.foldl_cons, hvoice, hone]
    · rw [hlanes, hone, LaneSet.has_remove, Bool.and_assoc, ← Bool.not_or]
      simp only [List.mem_cons, Bool.decide_or]
    · rw [howed, hone]
      by_cases hk : k = n
      · subst hk
        cases (s.lanes[k].settled v).2 <;> simp [hn, LaneSet.has_add]
      · rw [settleLane_lane_ne v s hk]
        cases (s.lanes[n].settled v).2 <;> simp [hk, LaneSet.has_add]

/-! ## The end -/

/-- What is left of an ended voice: no holder, no lane, the Stops that lanes owe, and the state that these decide. -/
def Voice.ended (y : Voice) (owed : LaneSet) : Voice :=
  { y with holders := [], lanes := 0, owed := owed, state := if owed = 0 then .free else .owed }

theorem endVoice_lane {s : State} {v : Slot} (h : s.vtb.voices[v].state = .sounding) (k : LaneNo) :
    (endVoice s v).lanes[k]
      = if LaneSet.has s.vtb.voices[v].lanes k = true then (s.lanes[k].settled v).1 else s.lanes[k] := by
  rw [endVoice_sounding h]
  simp only []
  rw [State.setVoice_lanes, settleLanes_lane v (LaneSet.members_nodup _)]
  simp only [LaneSet.mem_members, State.setVoice_lanes]

theorem endVoice_voice {s : State} {v : Slot} (h : s.vtb.voices[v].state = .sounding) :
    ∃ owed : LaneSet, (endVoice s v).vtb.voices[v] = s.vtb.voices[v].ended owed
      ∧ ∀ k, LaneSet.has owed k = (LaneSet.has s.vtb.voices[v].owed k
        || (LaneSet.has s.vtb.voices[v].lanes k && (s.lanes[k].settled v).2)) := by
  rw [endVoice_sounding h]
  simp only []
  obtain ⟨lanes, owed, hvoice, hlanes, howed⟩ := settleLanes_voice v
    (LaneSet.members_nodup s.vtb.voices[v].lanes) (s.setVoice v { s.vtb.voices[v] with holders := [] })
  rw [State.setVoice_get_self] at hvoice hlanes howed
  have hzero : lanes = 0 := by
    rw [LaneSet.eq_zero_iff]
    intro k
    rw [hlanes]
    simp [LaneSet.mem_members]
  refine ⟨owed, ?_, fun k => ?_⟩
  · rw [State.setVoice_get_self, hvoice, settledVoice, Voice.ended, hzero]
  · rw [howed]
    simp [LaneSet.mem_members]

/-- An end changes no other voice, and of the lanes only those of the lane set (R65). -/
theorem endVoice_frame (s : State) (v : Slot) :
    endVoice s v = { s with
      vtb := { s.vtb with voices := (endVoice s v).vtb.voices }, lanes := (endVoice s v).lanes } := by
  obtain ⟨hntu, hvoicedAs, hseq⟩ := endVoice_keeps s v
  have hframe := (endVoice_voiceWork s v).1
  rw [hntu] at hframe
  have hvtb : (endVoice s v).vtb = { s.vtb with voices := (endVoice s v).vtb.voices } := by
    change _ = (⟨_, s.vtb.voicedAs, s.vtb.seqCounter⟩ : VoiceTable)
    rw [← hvoicedAs, ← hseq]
  rw [← hvtb]
  exact hframe

/-! ## The statement -/

/-- How the statement spells a lane that is settled. -/
theorem Lane.settled_spelled (l : Lane) (v : Slot) :
    if l.unsent.any (LaneRecord.isStartOf v) then
      (∀ queue : List LaneRecord, queue = l.sent ++ l.unsent.eraseP (LaneRecord.isStartOf v) →
          (l.settled v).1 = { l with queue := queue, stall := if queue = [] then none else l.stall })
        ∧ (l.settled v).2 = false
    else if (l.state = .live ∨ l.state = .closing) ∧ l.queue.length < 32 then
      (l.settled v).1 = l.joined (.stop v) ∧ (l.settled v).2 = false
    else (l.settled v).1 = { l with owed := l.owed ++ [v] } ∧ (l.settled v).2 = true := by
  rcases l.settled_cases v with ⟨hany, e⟩ | ⟨hany, hroom, e⟩ | ⟨hany, hroom, e⟩ <;> rw [e]
  · rw [if_pos hany]
    exact ⟨fun queue hq => by rw [hq], rfl⟩
  · rw [if_neg (by rw [hany]; exact Bool.false_ne_true), if_pos hroom]
    exact ⟨Lane.append_eq_joined _ (by simpa [Lane.transmits] using hroom.1), rfl⟩
  · rw [if_neg (by rw [hany]; exact Bool.false_ne_true), if_neg hroom]
    exact ⟨rfl, rfl⟩

/-- Settles O32: the lanes of an ending voice are settled one by one, each independent of the others. -/
theorem endSettlesEveryLane : Obligations.EndSettlesEveryLane := by
  intro s t v hs ht
  subst ht
  obtain ⟨owed, hvoice, howed⟩ := endVoice_voice hs
  refine ⟨?_, fun w hw => endVoice_voice_ne s hw, fun n hn => ?_, fun n hn => ?_, endVoice_frame s v⟩
  · rw [hvoice]
    exact ⟨rfl, rfl, rfl⟩
  · have hn : LaneSet.has s.vtb.voices[v].lanes n = false := hn
    refine ⟨by rw [endVoice_lane hs, hn, if_neg Bool.false_ne_true], ?_⟩
    rw [hvoice]
    exact (howed n).trans (by rw [hn, Bool.false_and, Bool.or_false]; rfl)
  · have hn : LaneSet.has s.vtb.voices[v].lanes n = true := hn
    have hlane : (endVoice s v).lanes[n] = (s.lanes[n].settled v).1 := by rw [endVoice_lane hs, if_pos hn]
    have hset : (endVoice s v).vtb.voices[v].owed.getLsbD n.val
        = (s.vtb.voices[v].owed.getLsbD n.val || (s.lanes[n].settled v).2) := by
      rw [hvoice]
      exact (howed n).trans (by rw [hn, Bool.true_and]; rfl)
    have hspelled := s.lanes[n].settled_spelled v
    rw [hlane, hset]
    split_ifs at hspelled ⊢ with hany hroom
    · exact ⟨hspelled.1, by rw [hspelled.2, Bool.or_false]⟩
    · exact ⟨hspelled.1, by rw [hspelled.2, Bool.or_false]⟩
    · exact ⟨hspelled.1, by rw [hspelled.2, Bool.or_true]⟩

end Sys2Proof.Machine

/-! PROOF. The voice records (R60, R62): each operation on a voice keeps its holders and sets those of its state, so every
step keeps the Voice Table coherent. -/

namespace Sys2Proof.Machine

/-! ## One record -/

theorem Voice.Coherent.cleared {y : Voice} (h : y.Coherent) (n : LaneNo) : (y.cleared n).Coherent := by
  by_cases hf : y.state = .free
  · rw [Voice.cleared_free n hf]
    exact h
  · rw [Voice.cleared_not_free n hf]
    obtain ⟨-, hsounding, howed⟩ := h
    have hnone : LaneSet.remove 0 n = 0 := by revert n; decide
    cases hy : y.state with
    | free => exact absurd hy hf
    | sounding =>
      obtain ⟨hmin, hmax, hnodup, hzero⟩ := hsounding hy
      refine ⟨by simp, fun _ => ⟨hmin, hmax, hnodup, ?_⟩, by simp⟩
      rw [hzero, hnone]
    | owed =>
      obtain ⟨hholders, hlanes, -⟩ := howed hy
      by_cases hz : LaneSet.remove y.owed n = 0
      · simp only [hz, hholders, hlanes, hnone, and_self, if_true]
        exact ⟨fun _ => ⟨rfl, rfl, rfl⟩, nofun, nofun⟩
      · simp only [hz, hholders, hlanes, hnone, and_false, if_false]
        exact ⟨nofun, nofun, fun _ => ⟨rfl, rfl, hz⟩⟩

theorem Voice.Coherent.delivered {y : Voice} (h : y.Coherent) (n : LaneNo) : (y.delivered n).Coherent := by
  unfold Voice.delivered
  obtain ⟨hfree, hsounding, howed⟩ := h
  have hnone : LaneSet.remove 0 n = 0 := by revert n; decide
  cases hy : y.state with
  | free =>
    obtain ⟨hholders, hlanes, hzero⟩ := hfree hy
    simp only [hholders, hlanes, hzero, hnone, reduceCtorEq, false_and, if_false]
    exact ⟨fun _ => ⟨rfl, rfl, rfl⟩, nofun, nofun⟩
  | sounding =>
    obtain ⟨hmin, hmax, hnodup, hzero⟩ := hsounding hy
    refine ⟨by simp, fun _ => ⟨hmin, hmax, hnodup, ?_⟩, by simp⟩
    simp only [hzero, hnone]
  | owed =>
    obtain ⟨hholders, hlanes, -⟩ := howed hy
    by_cases hz : LaneSet.remove y.owed n = 0
    · simp only [hz, hholders, hlanes, and_self, if_true]
      exact ⟨fun _ => ⟨rfl, rfl, rfl⟩, nofun, nofun⟩
    · simp only [hz, hholders, hlanes, and_false, if_false]
      exact ⟨nofun, nofun, fun _ => ⟨rfl, rfl, hz⟩⟩

theorem Voice.Coherent.orphaned {y : Voice} (h : y.Coherent) : y.orphaned.Coherent := by
  unfold Voice.orphaned
  split <;> exact h

/-- A SOUNDING voice with fewer holders, but one at least. -/
theorem Voice.Coherent.erase {y : Voice} (h : y.Coherent) {x : Crosspoint} (hne : y.holders.erase x ≠ []) :
    ({ y with holders := y.holders.erase x } : Voice).Coherent := by
  obtain ⟨hfree, hsounding, howed⟩ := h
  refine ⟨fun hs => ?_, fun hs => ?_, fun hs => ?_⟩
  · exact absurd (by rw [(hfree hs).1]; rfl) hne
  · obtain ⟨-, hmax, hnodup, hzero⟩ := hsounding hs
    exact ⟨List.length_pos_iff.mpr hne, (List.length_erase_le).trans hmax, hnodup.erase x, hzero⟩
  · exact absurd (by rw [(howed hs).1]; rfl) hne

/-- A SOUNDING voice with one holder more. -/
theorem Voice.Coherent.join {y : Voice} (h : y.Coherent) (hs : y.state = .sounding) {x : Crosspoint}
    (hx : x ∉ y.holders) (hlen : y.holders.length < 6) :
    ({ y with holders := y.holders ++ [x] } : Voice).Coherent := by
  obtain ⟨-, -, hnodup, hzero⟩ := h.2.1 hs
  refine ⟨fun hf => absurd (hs.symm.trans hf) (by decide), fun _ => ⟨by simp, by simpa using hlen, ?_, hzero⟩,
    fun ho => absurd (hs.symm.trans ho) (by decide)⟩
  exact List.nodup_append.mpr ⟨hnodup, List.nodup_singleton x, by simpa using fun a ha (e : a = x) => hx (e ▸ ha)⟩

/-! ## The table -/

/-- Every voice record is coherent. -/
def State.VoicesSound (s : State) : Prop := s.vtb.Coherent

/-- Only the Voice Table counts. -/
theorem State.VoicesSound.of_vtb {s t : State} (h : s.VoicesSound) (ht : t.vtb = s.vtb) : t.VoicesSound := by
  unfold State.VoicesSound
  rw [ht]
  exact h

section
variable {s : State} (h : s.VoicesSound)
include h

theorem State.VoicesSound.arbitrate : s.arbitrate.VoicesSound := h.of_vtb s.arbitrate_vtb

theorem State.VoicesSound.raise (n : Notice) : (s.raise n).VoicesSound := h.of_vtb rfl

theorem State.VoicesSound.setBsc (b : Scanner) : (s.setBsc b).VoicesSound := h.of_vtb rfl

theorem State.VoicesSound.setSst (c : SceneStore) : (s.setSst c).VoicesSound := h.of_vtb rfl

theorem State.VoicesSound.setSettings (t : Settings) : (s.setSettings t).VoicesSound := h.of_vtb rfl

theorem State.VoicesSound.setStack (l : List StackEntry) : (s.setStack l).VoicesSound := h.of_vtb rfl

theorem State.VoicesSound.setSlc (b : Silencing) : (s.setSlc b).VoicesSound := h.of_vtb rfl

theorem State.VoicesSound.setLane (n : LaneNo) (l : Lane) : (s.setLane n l).VoicesSound := h.of_vtb rfl

end

/-- One record written into a coherent table. -/
theorem State.VoicesSound.setVoice {s : State} (h : s.VoicesSound) (v : Slot) {y : Voice} (hy : y.Coherent) :
    (s.setVoice v y).VoicesSound := by
  intro w
  rw [State.setVoice_get]
  split
  · exact hy
  · exact h w

theorem State.VoicesSound.foldl {α : Type} {f : State → α → State}
    (hf : ∀ t a, t.VoicesSound → (f t a).VoicesSound) (l : List α) {s : State} (h : s.VoicesSound) :
    (l.foldl f s).VoicesSound := by
  induction l generalizing s with
  | nil => exact h
  | cons a l ih => exact ih (hf s a h)

/-- An end keeps every record coherent. Of the ended one only the state before counts: its holders may be gone already. -/
theorem endVoice_coherent {s : State} {v : Slot} (h : ∀ w, w ≠ v → s.vtb.voices[w].Coherent)
    (hv : s.vtb.voices[v].state ≠ .sounding → s.vtb.voices[v].Coherent) : (endVoice s v).VoicesSound := by
  intro w
  by_cases hs : s.vtb.voices[v].state = .sounding
  · by_cases hw : w = v
    · subst hw
      obtain ⟨owed, e, -⟩ := endVoice_voice hs
      rw [e]
      unfold Voice.ended
      by_cases ho : owed = 0
      · subst ho
        exact ⟨fun _ => ⟨rfl, rfl, rfl⟩, nofun, nofun⟩
      · rw [if_neg ho]
        exact ⟨nofun, nofun, fun _ => ⟨rfl, rfl, ho⟩⟩
    · rw [endVoice_voice_ne s hw]
      exact h w hw
  · rw [endVoice_not_sounding hs]
    by_cases hw : w = v
    · rw [hw]; exact hv hs
    · exact h w hw

theorem State.VoicesSound.endVoice {s : State} (h : s.VoicesSound) (v : Slot) : (endVoice s v).VoicesSound :=
  endVoice_coherent (fun w _ => h w) fun _ => h v

theorem State.VoicesSound.leaveVoice {s : State} (h : s.VoicesSound) (x : Crosspoint) (v : Slot) :
    (leaveVoice x s v).VoicesSound := by
  rcases leaveVoice_cases x s v with ⟨hne, e⟩ | ⟨hnil, e⟩ <;> rw [e]
  · exact h.setVoice v ((h v).erase hne)
  · refine endVoice_coherent (fun w hw => ?_) fun hs => ?_
    · rw [State.setVoice_get_ne _ _ hw]
      exact h w
    · rw [State.setVoice_get_self] at hs ⊢
      obtain ⟨hfree, -, howed⟩ := h v
      exact ⟨fun hf => ⟨rfl, (hfree hf).2⟩, fun hf => absurd hf hs, fun ho => ⟨rfl, (howed ho).2⟩⟩

theorem State.VoicesSound.leaveAll {s : State} (h : s.VoicesSound) (x : Crosspoint) (p : Voice → Bool) :
    (leaveAll x p s).VoicesSound :=
  State.VoicesSound.foldl (fun _ v ht => ht.leaveVoice x v) _ h

/-! ## Starting a voice -/

/-- An offered Start writes the lane set of its voice only. -/
theorem offerStart_voice (v : Slot) (s : State) (n : LaneNo) (w : Slot) :
    ∃ lanes : LaneSet, (offerStart v s n).vtb.voices[w]
      = if w = v then { s.vtb.voices[v] with lanes := lanes } else s.vtb.voices[w] := by
  rcases offerStart_cases v s n with ⟨_, _, e⟩ | ⟨_, _, e⟩ | ⟨_, e⟩ <;> rw [e]
  · exact ⟨_, State.setVoice_get _ _ _ _⟩
  · refine ⟨s.vtb.voices[v].lanes, ?_⟩
    split
    · next hw => rw [hw]; rfl
    · rfl
  · refine ⟨s.vtb.voices[v].lanes, ?_⟩
    split
    · next hw => rw [hw]
    · rfl

theorem offerStarts_voice (v : Slot) (ns : List LaneNo) (s : State) (w : Slot) :
    ∃ lanes : LaneSet, (ns.foldl (offerStart v) s).vtb.voices[w]
      = if w = v then { s.vtb.voices[v] with lanes := lanes } else s.vtb.voices[w] := by
  induction ns generalizing s with
  | nil =>
    refine ⟨s.vtb.voices[v].lanes, ?_⟩
    split
    · next hw => rw [hw]; rfl
    · rfl
  | cons n ns ih =>
    obtain ⟨lanes, h⟩ := ih (offerStart v s n)
    obtain ⟨lanesv, hv⟩ := offerStart_voice v s n v
    obtain ⟨_, hw⟩ := offerStart_voice v s n w
    refine ⟨lanes, h.trans ?_⟩
    split
    · rw [hv, if_pos rfl]
    · next hne => rw [hw, if_neg hne]

/-- The records after slot v has been filled: the new voice with some lanes, and the others as they were (R70). -/
theorem startVoice_voice (x : Crosspoint) (e : LayerPos × Pitch) (l : Layer) (s : State) (v w : Slot) :
    ∃ lanes : LaneSet, (startVoice x e l s v).vtb.voices[w]
      = if w = v then { newVoice x e l s.vtb.seqCounter with lanes := lanes } else s.vtb.voices[w] := by
  obtain ⟨lanes, h⟩ := offerStarts_voice v (LaneSet.members l.laneMask)
    (s.setVoice v (newVoice x e l s.vtb.seqCounter)).countStart w
  refine ⟨lanes, h.trans ?_⟩
  split
  · next hw =>
    change ({ (s.setVoice v (newVoice x e l s.vtb.seqCounter)).vtb.voices[v] with lanes := lanes } : Voice) = _
    rw [State.setVoice_get_self]
  · next hw =>
    change (s.setVoice v (newVoice x e l s.vtb.seqCounter)).vtb.voices[w] = _
    rw [State.setVoice_get_ne _ _ hw]

/-- A new voice is coherent: one holder, nothing owed. -/
theorem newVoice_coherent (x : Crosspoint) (e : LayerPos × Pitch) (l : Layer) (seq : BitVec 32) (lanes : LaneSet) :
    ({ newVoice x e l seq with lanes := lanes } : Voice).Coherent :=
  ⟨nofun, fun _ => ⟨Nat.le_refl _, Nat.one_le_ofNat, List.nodup_singleton x, rfl⟩, nofun⟩

theorem State.VoicesSound.fillSlot {s : State} (h : s.VoicesSound) (x : Crosspoint) (e : LayerPos × Pitch)
    (l : Layer) (v : Slot) : (fillSlot x e l s v).VoicesSound := by
  have hstart : (startVoice x e l s v).VoicesSound := by
    intro w
    obtain ⟨lanes, hw⟩ := startVoice_voice x e l s v w
    rw [hw]
    split
    · exact newVoice_coherent x e l _ lanes
    · exact h w
  unfold Machine.fillSlot
  simp only []
  split
  · next hz =>
    exact hstart.setVoice v ⟨fun _ => ⟨rfl, hz, rfl⟩, nofun, nofun⟩
  · exact hstart

theorem State.VoicesSound.allocate {s : State} (h : s.VoicesSound) (x : Crosspoint) (e : LayerPos × Pitch) :
    (allocate x s e).VoicesSound := by
  unfold Machine.allocate
  split
  · exact h
  · next l _ =>
    split
    · exact h.fillSlot x e l _
    · split
      · exact h
      · next v _ =>
        simp only []
        have hraised : ((Machine.endVoice s v).raise (.voiceLoss .stolen (some v) x)).VoicesSound := h.endVoice v
        split_ifs
        · exact hraised.fillSlot x e l v
        · exact h.endVoice v
        · exact h

theorem State.VoicesSound.joinEntry {s : State} (h : s.VoicesSound) (x : Crosspoint) (e : LayerPos × Pitch) :
    (joinEntry x s e).VoicesSound := by
  rcases joinEntry_cases x s e with ⟨_, _, _, hj⟩ | ⟨v, hf, hx, hlen, hj⟩ | ⟨_, _, _, _, hj⟩ | ⟨_, hj⟩ <;> rw [hj]
  · exact h
  · exact h.setVoice v ((h v).join (State.findLive_some hf).1 hx hlen)
  · exact h
  · exact h.allocate x e

/-! ## What is made of ends, leaves and joins -/

theorem State.VoicesSound.joins {s : State} (h : s.VoicesSound) (x : Crosspoint) (es : List (LayerPos × Pitch)) :
    (es.foldl (Machine.joinEntry x) s).VoicesSound :=
  State.VoicesSound.foldl (fun _ e ht => ht.joinEntry x e) es h

theorem State.VoicesSound.ends {s : State} (h : s.VoicesSound) (vs : List Slot) :
    (vs.foldl Machine.endVoice s).VoicesSound :=
  State.VoicesSound.foldl (fun _ v ht => ht.endVoice v) vs h

theorem State.VoicesSound.pressKey {s : State} (h : s.VoicesSound) (x : Crosspoint) :
    (pressKey s x).VoicesSound := by
  unfold Machine.pressKey
  split
  · exact h.joins x _
  · exact h

theorem State.VoicesSound.releaseKey {s : State} (h : s.VoicesSound) (x : Crosspoint) :
    (releaseKey s x).VoicesSound := h.leaveAll x _

theorem State.VoicesSound.leavePhase {s : State} (h : s.VoicesSound) (orphans : Bool)
    (p : Crosspoint × List (LayerPos × Pitch)) : (leavePhase orphans s p).VoicesSound := by
  unfold Machine.leavePhase
  simp only []
  split
  · exact (h.leaveAll _ _).leaveAll _ _
  · exact h.leaveAll _ _

theorem State.VoicesSound.reexpand {s : State} (h : s.VoicesSound) (orphans : Bool) (d : Dir)
    (xs : List Crosspoint) : (reexpand orphans d xs s).VoicesSound :=
  State.VoicesSound.foldl (fun _ (p : Crosspoint × List (LayerPos × Pitch)) ht => ht.joins p.1 p.2) _
    (State.VoicesSound.foldl (fun _ p ht => ht.leavePhase orphans p) _ h)

theorem State.VoicesSound.layersTransferred {s : State} (h : s.VoicesSound) :
    (layersTransferred s).VoicesSound := by
  have horphaned : (s.mapVoices fun _ y => y.orphaned).VoicesSound := by
    intro v
    rw [State.mapVoices_get]
    exact (h v).orphaned
  exact State.VoicesSound.foldl (fun _ x ht => ht.joins x _) _ (horphaned.ends _)

theorem State.VoicesSound.writeEnable {s : State} (h : s.VoicesSound) (e sh : Bool) :
    (writeEnable e sh s).VoicesSound := by
  have hwritten : (s.setSlc { s.slc with enable := e, shadow := sh }).VoicesSound := h
  unfold Machine.writeEnable
  simp only []
  split_ifs
  · exact hwritten.ends _
  · exact State.VoicesSound.foldl (fun _ x ht => ht.pressKey x) _ hwritten
  · exact hwritten

/-! ## The tier check and the swells touch no voice -/

theorem offerTiers_vtb (code : TierCode) (ns : List LaneNo) (p : State × Bool) :
    (ns.foldl (offerTier code) p).1.vtb = p.1.vtb := by
  induction ns generalizing p with
  | nil => rfl
  | cons n ns ih =>
    refine (ih _).trans ?_
    unfold offerTier
    split
    · split <;> rfl
    · rfl

@[simp] theorem tierCheck_vtb (s : State) : (tierCheck s).vtb = s.vtb := by
  unfold tierCheck
  simp only []
  split
  · rfl
  · rw [State.setDyn_vtb, offerTiers_vtb, State.raise_vtb]

@[simp] theorem postSwell_vtb (s : State) (n : LaneNo) : (postSwell s n).vtb = s.vtb := by
  unfold postSwell
  simp only []
  split
  · split <;> rfl
  · rfl

theorem postSwells_vtb (ns : List LaneNo) (s : State) : (ns.foldl postSwell s).vtb = s.vtb := by
  induction ns generalizing s with
  | nil => rfl
  | cons n ns ih => exact (ih _).trans (postSwell_vtb s n)

@[simp] theorem processSample_vtb (m : Nat) (s : State) : (processSample m s).vtb = s.vtb := by
  unfold processSample
  simp only []
  rw [postSwells_vtb, State.setDyn_vtb, tierCheck_vtb, State.setDyn_vtb]

/-! ## Lanes and silence -/

theorem State.VoicesSound.clearLane {s : State} (h : s.VoicesSound) (n : LaneNo) :
    (s.clearLane n).VoicesSound := by
  intro v
  rw [State.clearLane_get]
  exact (h v).cleared n

theorem State.VoicesSound.silenceLane {s : State} (h : s.VoicesSound) (n : LaneNo) :
    (s.silenceLane n).VoicesSound := by
  intro v
  rw [State.silenceLane_voice]
  exact (h v).cleared n

theorem State.leavePending_vtb (s : State) (n : LaneNo) : (s.leavePending n).vtb = s.vtb := by
  rw [State.leavePending_frame]

theorem State.VoicesSound.deliverOwed {s : State} (h : s.VoicesSound) (n : LaneNo) (vs : List Slot) :
    (deliverOwed n vs s).VoicesSound := by
  induction vs generalizing s with
  | nil => exact h
  | cons v vs ih =>
    unfold Machine.deliverOwed
    simp only []
    split
    · refine ih (State.VoicesSound.setVoice (s := s.setLane n _) h v ?_)
      exact (h v).delivered n
    · exact h

theorem silenceSent_vtb (n : LaneNo) (s : State) : (silenceSent n s).vtb = s.vtb := by
  unfold silenceSent
  simp only []
  have hleave : (if LaneSet.has s.slc.stale n then s.setSlc { s.slc with stale := LaneSet.remove s.slc.stale n }
      else s.leavePending n).vtb = s.vtb := by
    split
    · rfl
    · exact s.leavePending_vtb n
  have hclose (u : State) (l : Lane) : ((u.setLane n l).leavePending n).vtb = u.vtb := State.leavePending_vtb _ n
  exact (apply_ite State.vtb _ _ _).trans (by rw [hclose, ite_self, hleave])

theorem State.VoicesSound.reviveLane {s : State} (h : s.VoicesSound) (n : LaneNo) :
    (reviveLane s n).VoicesSound :=
  ((h.setLane n _).silenceLane n).setLane n _

theorem State.VoicesSound.applyLaneEnable {s : State} (h : s.VoicesSound) (n : LaneNo) (enable : Bool) :
    (applyLaneEnable n enable s).VoicesSound := by
  have silenced (l : Lane) : ((s.setLane n l).silenceLane n).VoicesSound :=
    (h.setLane n l).silenceLane n
  unfold Machine.applyLaneEnable
  simp only []
  split
  · exact h
  · exact silenced _
  · exact silenced _
  · exact h
  · exact h
  · exact silenced _
  · exact (h.setLane n _).of_vtb (State.leavePending_vtb _ n)
  · exact h

theorem State.VoicesSound.silenceLanes {s : State} (h : s.VoicesSound) (ns : List LaneNo) :
    (ns.foldl State.silenceLane s).VoicesSound :=
  State.VoicesSound.foldl (fun _ n ht => ht.silenceLane n) ns h

theorem State.VoicesSound.panicPart {s : State} (h : s.VoicesSound) : (panicPart s).VoicesSound := by
  unfold Machine.panicPart
  simp only []
  generalize LaneSet.members _ = ns
  have hsilenced := State.VoicesSound.silenceLanes h ns
  generalize ns.foldl State.silenceLane s = t at hsilenced
  have hwritten (b : Silencing) : (Machine.writeEnable false false (t.setSlc b)).VoicesSound :=
    State.VoicesSound.writeEnable (s := t.setSlc b) hsilenced _ _
  split
  · exact hwritten _
  · exact hwritten _

theorem State.VoicesSound.haltPart {s : State} (h : s.VoicesSound) : (haltPart s).VoicesSound := by
  unfold Machine.haltPart
  exact State.VoicesSound.writeEnable
    (State.VoicesSound.silenceLanes (s := s.setSlc { s.slc with part := .halted }) h _) false false

/-! ## Transfers, cues and overrides -/

theorem State.VoicesSound.transfer {s : State} (h : s.VoicesSound) (n : SceneNo) (items : BitVec 3)
    (separate : Bool) : (transfer n items separate s).VoicesSound := by
  unfold Machine.transfer
  simp only []
  have hchecked : (if hasTierMap items then tierCheck (s.setLive (s.sst.live.writeItems n s.sst.library[n] items))
      else s.setLive (s.sst.live.writeItems n s.sst.library[n] items)).VoicesSound := by
    split
    · exact State.VoicesSound.of_vtb h (tierCheck_vtb _)
    · exact h
  split_ifs at hchecked ⊢
  · exact hchecked.layersTransferred
  · exact hchecked.layersTransferred
  · exact hchecked.reexpand _ _ _
  · exact hchecked.reexpand _ _ _
  · exact hchecked
  · exact hchecked

theorem State.VoicesSound.fireArmed {s : State} (h : s.VoicesSound) (c : Cue) (t : Trigger) :
    (fireArmed c t s).VoicesSound := by
  unfold Machine.fireArmed
  simp only []
  split
  · exact ((h.setSst _).transfer _ _ _).raise _
  · exact (h.setSst _).raise _

theorem State.VoicesSound.triggerCue {s : State} (h : s.VoicesSound) (t : Trigger) :
    (triggerCue t s).VoicesSound := by
  unfold Machine.triggerCue
  split
  · split
    · exact h.fireArmed _ t
    · exact h
  · exact h

theorem State.VoicesSound.applySettings {s : State} (h : s.VoicesSound) (t : Settings) :
    (applySettings t s).VoicesSound :=
  (h.setSettings t).reexpand _ _ _

theorem State.VoicesSound.selectRegisterIn {s : State} (h : s.VoicesSound) (c : Sect) (n : RegNo) :
    (selectRegisterIn c n s).VoicesSound := by
  unfold Machine.selectRegisterIn
  split
  · exact h
  · exact (h.setSettings _).reexpand _ _ _

theorem State.VoicesSound.pushEntry {s : State} (h : s.VoicesSound) (tag : Fin 8) (d : OverrideDef) :
    (pushEntry tag d s).VoicesSound := by
  unfold Machine.pushEntry
  cases d.target with
  | some n =>
    exact (((h.setStack _).transfer n layersAndMap true).applySettings _).setSettings _
  | none => exact ((h.setStack _).applySettings _).setSettings _

theorem State.VoicesSound.switchPush {s : State} (h : s.VoicesSound) (n : Fin 4) :
    (switchPush n s).VoicesSound := by
  unfold Machine.switchPush
  simp only []
  split_ifs
  · exact h.setStack _
  · exact h.raise _
  · exact h.pushEntry _ _
  · exact h.raise _

theorem State.VoicesSound.restoreContext {s : State} (h : s.VoicesSound) (first deepest : StackEntry)
    (replaced : Bool) : (restoreContext first deepest replaced s).1.VoicesSound := by
  unfold Machine.restoreContext
  split
  · split
    · exact ((h.transfer _ _ _).applySettings _).setSettings _
    · simp only []
      split
      · exact (((h.raise _).transfer _ _ _).applySettings _).setSettings _
      · exact (h.raise _).haltPart
  · exact (h.applySettings _).setSettings _

theorem State.VoicesSound.popTop {s : State} (h : s.VoicesSound) (first : StackEntry) (below : List StackEntry) :
    (popTop first below s).1.VoicesSound :=
  (h.setStack _).restoreContext _ _ _

theorem State.VoicesSound.switchRelease {s : State} (h : s.VoicesSound) (n : Fin 4) :
    (switchRelease n s).VoicesSound := by
  unfold Machine.switchRelease
  simp only []
  split
  · exact h
  · split_ifs
    · exact h.popTop _ _
    · exact h.setStack _
    · exact h

/-! ## The scan pass and the samples -/

theorem State.VoicesSound.routeChange {s : State} (h : s.VoicesSound) (x : Crosspoint) (press : Bool) :
    (routeChange x press s).VoicesSound := by
  unfold Machine.routeChange
  split
  · exact h
  · next n _ =>
    unfold routeOverride
    simp only []
    generalize (if press then s.bsc.groupOcc[n] + 1 else s.bsc.groupOcc[n] - 1) = after
    split
    · exact h.setBsc _
    · split
      · split
        · exact (h.setBsc _).switchPush _
        · exact h.setBsc _
      · split
        · exact (h.setBsc _).switchRelease _
        · exact h.setBsc _
  · unfold routeHush
    simp only []
    generalize (if press then s.bsc.hushOcc + 1 else s.bsc.hushOcc - 1) = after
    split
    · exact h.setBsc _
    · split
      · split
        · exact (h.setBsc _).writeEnable _ _
        · exact h.setBsc _
      · split
        · exact (h.setBsc _).writeEnable _ _
        · exact h.setBsc _
  · split_ifs
    · exact h
    · exact h.pressKey x
    · exact h.releaseKey x
  · split_ifs
    · exact h
    · exact h.pressKey x
    · exact h.releaseKey x
  · split
    · exact h.selectRegisterIn _ _
    · exact h
  · split
    · exact h.selectRegisterIn _ _
    · exact h
  · split
    · exact h.triggerCue _
    · exact h

theorem State.VoicesSound.handOn {s : State} (h : s.VoicesSound) (press : Bool) (x : Crosspoint) :
    (handOn press s x).VoicesSound := by
  have hheld : (countHeld x press s).VoicesSound := by
    rw [countHeld_eq]
    exact h.setBsc _
  exact (hheld.routeChange x press).raise _

theorem takePass_vtbCoherent (readings : Readings) (s : State) (h : s.VoicesSound) :
    (takePass readings s).VoicesSound := by
  rw [takePass_eq]
  exact (State.VoicesSound.foldl (fun _ x ht => ht.handOn true x) _
    (State.VoicesSound.foldl (fun _ x ht => ht.handOn false x) _ (h.setBsc _))).arbitrate

theorem State.VoicesSound.handOff {s : State} (h : s.VoicesSound) (j : Judgement) (m : Nat) :
    (handOff j m s).VoicesSound := by
  cases j with
  | held => exact h
  | processed => exact h.of_vtb (processSample_vtb m s)
  | reversal =>
    exact (((h.triggerCue .reversal).reexpand _ _ _).raise _).of_vtb (processSample_vtb m (handReversal s))

@[simp] theorem raiseSensor_vtb (before : SensorState) (s : State) : (raiseSensor before s).vtb = s.vtb := by
  unfold raiseSensor
  split <;> rfl

@[simp] theorem State.sensed_vtb (s : State) (w : BitVec 16) : (s.sensed w).vtb = s.vtb := raiseSensor_vtb _ _

theorem sampleArrival_vtbCoherent (w : BitVec 16) (s : State) (h : s.VoicesSound) :
    (sampleArrival w s).VoicesSound := by
  have hsensed : (s.sensed w).VoicesSound := h.of_vtb (s.sensed_vtb w)
  rcases sampleArrival_cases w s with ⟨_, e⟩ | ⟨_, e⟩ <;> rw [e]
  · exact hsensed.arbitrate
  · have hjudged (b : Bellows) : ((s.sensed w).setBfe b).VoicesSound := hsensed.of_vtb rfl
    exact ((hjudged _).handOff _ _).arbitrate

theorem recordCompletion_vtbCoherent (n : LaneNo) (s : State) (h : s.VoicesSound) :
    (recordCompletion n s).VoicesSound := by
  unfold recordCompletion
  simp only []
  split
  · next r rest _ _ =>
    have hsent (u : State) (hu : u.VoicesSound) : (if r = .silence then silenceSent n u else u).VoicesSound := by
      split
      · exact hu.of_vtb (silenceSent_vtb n u)
      · exact hu
    have hdelivered (u : State) (hu : u.VoicesSound) :
        (if u.lanes[n].state = .live then Machine.deliverOwed n u.lanes[n].owed u else u).VoicesSound := by
      split
      · exact hu.deliverOwed n _
      · exact hu
    exact ((hdelivered _ (hsent _ (h.setLane n _))).setLane n _).arbitrate
  · exact h

theorem stallExpiry_vtbCoherent (n : LaneNo) (s : State) (h : s.VoicesSound) :
    (stallExpiry n s).VoicesSound := by
  unfold stallExpiry
  simp only []
  split
  · exact ((((h.setLane n _).clearLane n).of_vtb (State.leavePending_vtb _ n)).raise _).arbitrate
  · exact h

/-! ## Requests -/

/-- RESTART frees every slot (R86). -/
theorem restartVoices_coherent (t : VoiceTable) : (restartVoices t).Coherent := by
  intro v
  simp only [restartVoices, get_tabulate]
  exact ⟨fun _ => ⟨rfl, rfl, rfl⟩, nofun, nofun⟩

theorem restartOwner_vtbCoherent (u : Unit) (s : State) : (restartOwner u s).Leaves State.VoicesSound := by
  rw [restartOwner_eq]
  have hcleared : s.restartCleared.VoicesSound := restartVoices_coherent s.vtb
  have hlanes : (allLanes.foldl restartLane s.restartCleared).VoicesSound :=
    State.VoicesSound.foldl (fun t n ht => by
      unfold restartLane
      split
      · exact ht
      · exact ht.reviveLane n) _ hcleared
  exact hlanes.of_vtb (State.restartNoticed_vtb _)

/-- Every owner keeps the Voice Table coherent. -/
theorem Request.owner_vtbCoherent {k : Nat} {p : List Byte} {r : Request} (hr : Request.of k p = some r)
    (a : r.Fields) {s : State} (hs : s.VoicesSound) : (r.owner a s).Leaves State.VoicesSound := by
  fun_cases Request.of k p <;> simp only [Request.of, Option.some.injEq, reduceCtorEq] at hr <;> subst hr
  case case3 => exact restartOwner_vtbCoherent a s
  case case8 => exact Verdict.leaves_ite (fun _ => trivial) fun _ => hs.setBsc _
  case case14 => exact hs.applySettings _
  case case17 | case18 | case19 | case22 => exact Verdict.leaves_ite (fun _ => hs.setSst _) fun _ => trivial
  case case23 =>
    change (fireCueOwner a s).Leaves _
    unfold fireCueOwner
    split
    · exact Verdict.leaves_ite (fun _ => hs.fireArmed _ _) fun _ => trivial
    · trivial
  case case24 => exact Verdict.leaves_ite (fun _ => hs.transfer _ _ _) fun _ => trivial
  case case25 => exact hs.selectRegisterIn _ _
  case case29 | case31 | case32 =>
    exact hs.of_vtb (tierCheck_vtb _)
  case case33 =>
    exact Verdict.leaves_ite (fun _ => trivial) fun _ => Verdict.leaves_ite (fun _ => trivial) fun _ =>
      Verdict.leaves_ite (fun _ => hs.pushEntry _ _) fun _ => trivial
  case case34 =>
    change (popOverrideOwner a s).Leaves _
    unfold popOverrideOwner
    split
    · trivial
    · exact Verdict.leaves_ite (fun _ => hs.popTop _ _) fun _ => trivial
  case case35 | case36 | case37 | case38 => exact hs.writeEnable _ _
  case case39 => exact hs.panicPart
  case case40 =>
    exact Verdict.leaves_ite (fun _ => trivial) fun _ =>
      (hs.setLane _ _).applyLaneEnable _ _
  case case41 => exact Verdict.leaves_ite (fun _ => trivial) fun _ => hs.reviveLane _
  all_goals exact hs.of_vtb rfl

/-! ## Every step -/

theorem State.reset_vtbCoherent : State.reset.VoicesSound := by
  intro v
  rw [show State.reset.vtb.voices[v] = Voice.blank from get_replicate _ v]
  exact ⟨fun _ => ⟨rfl, rfl, rfl⟩, nofun, nofun⟩

theorem vtbCoherent_linkBlind : LinkBlind State.VoicesSound := fun _ _ _ _ _ h => h.of_vtb rfl

theorem vtbCoherent_kept : KeptByCommands State.VoicesSound where
  powerOnReset _ _ := State.reset_vtbCoherent
  takePass := takePass_vtbCoherent
  sampleArrival := sampleArrival_vtbCoherent
  streamLossTimeout s hs := by
    unfold streamLossTimeout
    split
    · have hlost (b : Bellows) : (s.setBfe b).VoicesSound := hs.of_vtb rfl
      exact ((hlost _).of_vtb (raiseSensor_vtb s.bfe.sensor _)).arbitrate
    · exact hs
  cueLineRise s hs := by
    unfold cueLineRise
    simp only []
    split <;> exact hs.of_vtb rfl
  cueLineFall s hs := by
    unfold cueLineFall
    simp only []
    split <;> exact hs.of_vtb rfl
  cueQualificationExpiry s hs := by
    unfold cueQualificationExpiry
    split
    · exact ((hs.setSst _).triggerCue _).arbitrate
    · exact hs
  readyRise n s hs := by
    unfold readyRise
    split <;> exact hs.of_vtb rfl
  readyFall n s hs := by
    unfold readyFall
    split <;> exact hs.of_vtb rfl
  recordCompletion := recordCompletion_vtbCoherent
  stallExpiry := stallExpiry_vtbCoherent
  meterExpiry := vtbCoherent_linkBlind.meterExpiry
  hostFrameCompletion := vtbCoherent_linkBlind.hostFrameCompletion
  request _ _ _ hr kind tag _ hs := vtbCoherent_linkBlind.take kind tag hs fun a _ _ => Request.owner_vtbCoherent hr a hs
  unknown kind tag _ hs := vtbCoherent_linkBlind.unknown kind tag hs
  receive _ _ _ _ hs := hs.of_vtb rfl
  drop _ hs := hs.of_vtb rfl
  discard _ hs := hs.of_vtb rfl
  tick _ hs := hs.of_vtb rfl
  queue _ _ _ hs := hs.of_vtb rfl

/-- Settles O55: every operation on a voice record keeps it coherent. -/
theorem stepKeepsVoicesCoherent : Obligations.StepKeepsVoicesCoherent :=
  fun _ _ hs hstep => vtbCoherent_kept.step_keeps hs hstep

end Sys2Proof.Machine

/-! PROOF. The step and the timebase, the discard of a frame, the output arbiter, and notices (spec 00, 9.2, 9.4, 10.1):
O1, O2, O3, O8, O9. -/

namespace Sys2Proof.Machine

theorem mem_allLanes (n : LaneNo) : n ∈ allLanes := by revert n; decide

/-- Settles O1. -/
theorem stepRunsFrontCommand : Obligations.StepRunsFrontCommand := by
  intro c rest s h
  unfold step
  rw [h]

/-! ## The timebase -/

theorem mem_expiry_if {c i : Instr} {due : Bool} : c ∈ (if due then [i] else []) ↔ c = i ∧ due = true := by
  cases due <;> simp

theorem State.mem_dueExpiries (s : State) (c : Instr) :
    c ∈ s.dueExpiries ↔
      (c = .streamLossTimeout ∧ s.bfe.lossDue = true) ∨ (c = .cueQualificationExpiry ∧ s.sst.qualDue = true)
        ∨ (c = .gapTimeout [] ∧ s.mlk.gapDue = true) ∨ (c = .meterExpiry ∧ s.ntu.meterDue = true)
        ∨ ∃ n : LaneNo, c = .stallExpiry n ∧ s.lanes[n].stallDue = true := by
  unfold State.dueExpiries
  simp only [List.mem_append, mem_expiry_if, List.mem_map, List.mem_filter, mem_allLanes, true_and, or_assoc]
  simp only [eq_comm (a := c), and_comm]

theorem step_tick {s : State} (hp : s.pending = []) (hd : s.dueExpiries = []) : step s = .next (tick s) := by
  unfold step State.idleExpiry
  rw [hp, hd]

theorem step_expiry {s : State} (hp : s.pending = []) (hd : s.dueExpiries ≠ []) :
    ∃ c ∈ s.dueExpiries, step s = exec c s ∨ step s = exec c { s with freeDraws := s.freeDraws + 1 } := by
  unfold step State.idleExpiry
  rw [hp]
  match hs : s.dueExpiries with
  | [] => exact absurd hs hd
  | [c] => exact ⟨c, List.mem_singleton_self c, .inl rfl⟩
  | c :: d :: cs =>
    have hlt : Config.expiryPick s.freeDraws % (c :: d :: cs).length < (c :: d :: cs).length :=
      Nat.mod_lt _ (Nat.succ_pos _)
    refine ⟨(c :: d :: cs).getD (Config.expiryPick s.freeDraws % (c :: d :: cs).length) c, ?_, .inr rfl⟩
    rw [List.getD_eq_getElem _ _ hlt]
    exact List.getElem_mem hlt

/-- Settles O2. -/
theorem idleStepIsTheTimebase : Obligations.IdleStepIsTheTimebase := by
  intro s hp
  refine ⟨fun c => ?_, fun hd => ⟨tick s, step_tick hp hd, rfl, rfl, rfl, rfl, rfl, fun n => ?_, rfl⟩, step_expiry hp⟩
  · rw [State.mem_dueExpiries]
    simp only [Bellows.lossDue, SceneStore.qualDue, Link.gapDue, NoticeUnit.meterDue, Lane.stallDue, Timer.due_iff,
      Nat.mul_comm 4, Nat.mul_comm 40]
  · exact get_tabulate _ n

/-! ## Frames -/

theorem takeFrame_occupied (kind tag : Byte) (p : List Byte) {s : State} (h : s.mlk.reply.isSome = true) :
    takeFrame kind tag p s = s.rxDone.discardFrame := by
  rw [takeFrame_eq]
  cases Request.of kind.toNat p with
  | none => exact if_pos h
  | some r => exact takeRequest_occupied _ _ _ _ _ h

/-- Settles O3: with the reply slot occupied every good frame only counts. -/
theorem frameDiscardedWhileReplyWaits : Obligations.FrameDiscardedWhileReplyWaits := by
  intro kind tag p s h
  rw [exec_requestOfFrame, takeFrame_occupied kind tag p h]
  exact ⟨rfl, congrArg _ (if_pos h)⟩

/-! ## The output arbiter and the notices -/

theorem NoticeUnit.masked_eq (u : NoticeUnit) (k : Fin 13) :
    u.masked k = true ↔ 2 ≤ k.val ∧ u.mask.getLsbD k.val = true := by
  simp [NoticeUnit.masked]

theorem NoticeUnit.choice_none {u : NoticeUnit} (h : ∀ k : Fin 13, u.slots[k].isSome = true → u.masked k = true) :
    u.choice = none := by
  simp only [NoticeUnit.choice, NoticeUnit.pendingKinds, List.find?_eq_none, List.mem_filter]
  intro k hk
  simp [h k hk.2]

/-- The first pending unmasked kind is the arbiter's choice. -/
theorem NoticeUnit.choice_first {u : NoticeUnit} {k : Fin 13} (hk : u.slots[k].isSome = true)
    (hu : u.masked k = false) (hfirst : ∀ j < k, u.slots[j].isSome = true → u.masked j = true) :
    u.choice = some k := by
  simp only [NoticeUnit.choice, NoticeUnit.pendingKinds, noticeKinds, List.find?_filter]
  rw [List.find?_eq_some_iff_getElem]
  refine ⟨by simp only [hk, hu]; rfl, k.val, by simp, by simp, fun j hj => ?_⟩
  have hj' : (List.finRange 13)[j]'(by simp; omega) = ⟨j, by omega⟩ := by simp
  rw [hj']
  cases hs : u.slots[(⟨j, by omega⟩ : Fin 13)].isSome
  · rfl
  · rw [hfirst ⟨j, by omega⟩ hj hs]
    rfl

/-- The completed frame has left: the output is idle, and a reply that was being sent is out of the slot. -/
theorem hostFrameCompletion_busy {s : State} (h : s.mlk.output ≠ .idle) :
    hostFrameCompletion s = (s.setMlk { s.mlk with
      output := .idle, reply := if s.mlk.output.replyBeingSent.isSome then none else s.mlk.reply }).arbitrate := by
  unfold hostFrameCompletion
  split
  · next ho => exact absurd ho h
  · next f ho => rw [ho]; rfl
  · next f ho => rw [ho]; rfl

/-- Settles O8. -/
theorem frameCompletionChoosesTheNext : Obligations.FrameCompletionChoosesTheNext := by
  intro s u hbusy hu
  have hexec : exec .hostFrameCompletion s = .next u.arbitrate := by
    rw [hu]
    exact congrArg _ (hostFrameCompletion_busy hbusy)
  have hidle : u.mlk.output = .idle := by rw [hu]
  have hntu : u.ntu = s.ntu := by rw [hu]
  rw [hexec]
  refine ⟨fun f hf => congrArg _ (State.arbitrate_reply hidle hf), fun hnone => ⟨fun hmasked => ?_, ?_⟩⟩
  · refine congrArg _ (State.arbitrate_none hnone (NoticeUnit.choice_none fun k hk => ?_))
    rw [hntu] at hk ⊢
    exact (NoticeUnit.masked_eq _ k).mpr (hmasked k hk)
  · intro k p hp hkind hunmasked hfirst
    have hchoice : s.ntu.choice = some k := by
      refine NoticeUnit.choice_first (by rw [hp]; rfl) ?_ fun j hj hs => (NoticeUnit.masked_eq _ j).mpr (hfirst j hj hs)
      rw [Bool.eq_false_iff]
      exact fun hm => hunmasked ((NoticeUnit.masked_eq _ k).mp hm)
    rw [State.arbitrate_notice hidle hnone (hntu ▸ hchoice) (hntu ▸ hp), hntu, ← hkind]
    rfl

theorem raiseInto_eq (slot : Option Pending) (n : Notice) :
    raiseInto slot n = { notice := n, repeats := match slot with
      | none => 0
      | some p => if p.repeats < 255 then p.repeats + 1 else 255 } := by
  cases slot with
  | none => rfl
  | some p =>
    simp only [raiseInto, Pending.mk.injEq, true_and]
    split_ifs <;> omega

/-- Settles O9. -/
theorem raiseFillsOrCoalesces : Obligations.RaiseFillsOrCoalesces := by
  rintro s n k rfl
  exact ⟨(State.raise_get_self s n).trans (congrArg some (raiseInto_eq _ n)),
    fun j hj => State.raise_get_ne s n hj, State.raise_frame s n⟩

end Sys2Proof.Machine

/-! PROOF. Folding (O18), the cue line detector (O29), the ready lines and the bytes of a lane record (O48). -/

namespace Sys2Proof.Machine

/-- Settles O18. -/
theorem foldKeepsPitchClass : Obligations.FoldKeepsPitchClass := by
  intro v
  unfold foldPitch
  split
  · simp only; omega
  · split <;> simp only <;> omega

/-! ## The cue line -/

theorem cueLineRise_eq (s : State) :
    cueLineRise s = s.setSst { s.sst with
      cuePin := true
      detector := if s.sst.detector = .waitRise then .qualifying else s.sst.detector
      qualTimer := if s.sst.detector = .waitRise then some 0 else s.sst.qualTimer } := by
  unfold cueLineRise
  cases hd : s.sst.detector <;> simp [hd, State.setSst]

theorem cueLineFall_eq (s : State) :
    cueLineFall s = s.setSst { s.sst with
      cuePin := false, detector := .waitRise
      qualTimer := if s.sst.detector = .waitRise then s.sst.qualTimer else none } := by
  unfold cueLineFall
  cases hd : s.sst.detector <;> simp [hd, State.setSst]

theorem SceneStore.qualDue_iff (c : SceneStore) : c.qualDue = true ↔ ∃ e ∈ c.qualTimer, 4 ≤ e := Timer.due_iff _ _

theorem cueQualificationExpiry_due {s : State} (hd : s.sst.detector = .qualifying) (ht : s.sst.qualDue = true) :
    cueQualificationExpiry s
      = (triggerCue .cueLine (s.setSst { s.sst with detector := .waitFall, qualTimer := none })).arbitrate :=
  if_pos ⟨hd, ht⟩

theorem triggerCue_no_trigger {s : State} {t : Trigger} (h : ∀ c ∈ s.sst.armed, c.triggers.getLsbD t.bit = false) :
    triggerCue t s = s := by
  unfold triggerCue
  split
  · next c hc => exact if_neg (by simp [Cue.hasTrigger, h c hc])
  · rfl

theorem triggerCue_fires {s : State} {t : Trigger} {c : Cue} (hc : s.sst.armed = some c)
    (ht : c.triggers.getLsbD t.bit = true) : triggerCue t s = fireArmed c t s := by
  unfold triggerCue
  rw [hc]
  exact if_pos ht

/-- A cue whose target is not VALID is disarmed and raises CUE, and that is all. -/
theorem fireArmed_failed {s : State} {c : Cue} (t : Trigger) (h : s.sst.library[c.target].state ≠ .valid) :
    fireArmed c t s = s.disarm.raise (.cue false c.target t) := by
  have hv : s.sceneValid c.target = false := by simpa [State.sceneValid] using h
  unfold fireArmed
  simp only [hv]
  rfl

/-- Settles O29. -/
theorem cueLineDetectorMoves : Obligations.CueLineDetectorMoves := by
  intro s
  refine ⟨congrArg _ (cueLineRise_eq s), congrArg _ (cueLineFall_eq s), ?_, fun h => congrArg _ (if_neg ?_)⟩
  · rintro hd ht u rfl
    have hexec := cueQualificationExpiry_due hd ((SceneStore.qualDue_iff _).mpr ht)
    refine ⟨congrArg _ hexec, fun hno => congrArg _ (hexec.trans (congrArg _ (triggerCue_no_trigger hno))), ?_⟩
    intro c hc hbit hinvalid
    have hfired := (triggerCue_fires (t := .cueLine) (s := s.setSst { s.sst with detector := .waitFall, qualTimer := none })
      hc hbit).trans (fireArmed_failed _ hinvalid)
    rw [hfired] at hexec
    exact congrArg _ hexec
  · rintro ⟨hd, ht⟩
    obtain ⟨e, he, hle⟩ := (SceneStore.qualDue_iff _).mp ht
    rcases h with h | h
    · exact h hd
    · exact absurd (h e he) (by omega)

/-! ## Ready lines -/

theorem Lane.transmits_iff (l : Lane) : l.transmits = true ↔ l.state = .live ∨ l.state = .closing := by
  simp [Lane.transmits]

theorem Lane.hasWork_iff (l : Lane) :
    l.hasWork = true ↔ (l.state = .live ∨ l.state = .closing) ∧ l.queue ≠ [] ∧ l.sending = false := by
  simp [Lane.hasWork, Lane.transmits_iff, and_assoc]

theorem Lane.beginOrWait_work {l : Lane} (h : l.hasWork = true) :
    l.beginOrWait = if l.ready then { l with sending := true, stall := none }
      else { l with stall := if l.timeout = 0 then none else some 0 } := if_pos h

theorem Lane.beginOrWait_idle {l : Lane} (h : l.hasWork = false) : l.beginOrWait = l :=
  if_neg (by simp [h])

theorem readyRise_low {n : LaneNo} {s : State} (h : s.lanes[n].ready = false) :
    readyRise n s = s.setLane n
      (if (s.lanes[n].state = .live ∨ s.lanes[n].state = .closing) ∧ s.lanes[n].queue ≠ [] ∧ s.lanes[n].sending = false
      then { s.lanes[n] with ready := true, sending := true, stall := none } else { s.lanes[n] with ready := true }) := by
  have hwork : ({ s.lanes[n] with ready := true } : Lane).hasWork = s.lanes[n].hasWork := rfl
  unfold readyRise
  rw [if_neg (h ▸ Bool.false_ne_true)]
  split
  · next hw => rw [Lane.beginOrWait_work (hwork.trans ((Lane.hasWork_iff _).mpr hw))]; rfl
  · next hw =>
    rw [Lane.beginOrWait_idle (hwork.trans (Bool.eq_false_iff.mpr fun e => hw ((Lane.hasWork_iff _).mp e)))]

theorem readyFall_high {n : LaneNo} {s : State} (h : s.lanes[n].ready = true) :
    readyFall n s = s.setLane n
      (if (s.lanes[n].state = .live ∨ s.lanes[n].state = .closing) ∧ s.lanes[n].queue ≠ [] ∧ s.lanes[n].sending = false
      then { s.lanes[n] with ready := false, stall := if s.lanes[n].timeout = 0 then none else some 0 }
      else { s.lanes[n] with ready := false }) := by
  have hwork : ({ s.lanes[n] with ready := false } : Lane).hasWork = s.lanes[n].hasWork := rfl
  unfold readyFall
  rw [if_pos h]
  split
  · next hw => rw [Lane.beginOrWait_work (hwork.trans ((Lane.hasWork_iff _).mpr hw))]; rfl
  · next hw =>
    rw [Lane.beginOrWait_idle (hwork.trans (Bool.eq_false_iff.mpr fun e => hw ((Lane.hasWork_iff _).mp e)))]

/-! ## The bytes of a lane record -/

theorem byte_toNat {n : Nat} (h : n < 256) : (byte n).toNat = n := by
  rw [byte, BitVec.toNat_ofNat]
  exact Nat.mod_eq_of_lt h

theorem byte_inj {m n : Nat} (hm : m < 256) (hn : n < 256) (h : byte m = byte n) : m = n := by
  rw [← byte_toNat hm, ← byte_toNat hn, h]

theorem byte_fin_inj {n : Nat} (hn : n ≤ 256) {i j : Fin n} (h : byte i.val = byte j.val) : i = j :=
  Fin.ext (byte_inj (by omega) (by omega) h)

theorem LaneRecord.wire_bits (r : LaneRecord) :
    (∃ b ∈ r.wire.head?, 128 ≤ b.toNat) ∧ ∀ b ∈ r.wire.tail, b.toNat < 128 := by
  have hlow : ∀ n < 128, (byte n).toNat < 128 := fun n hn => by rw [byte_toNat (by omega)]; exact hn
  cases r with
  | start v program pitch code =>
    refine ⟨⟨_, rfl, by rw [byte_toNat (by omega)]; omega⟩, ?_⟩
    simp only [LaneRecord.wire, List.tail_cons, List.forall_mem_cons, List.not_mem_nil, false_imp_iff, implies_true,
      and_true]
    exact ⟨hlow _ (by omega), hlow _ (by omega), hlow _ (by omega), hlow _ (by omega)⟩
  | stop v => exact ⟨⟨_, rfl, by decide⟩, by simpa [LaneRecord.wire] using hlow _ (by omega)⟩
  | swell x => exact ⟨⟨_, rfl, by decide⟩, by simpa [LaneRecord.wire] using hlow _ (by omega)⟩
  | tier code => exact ⟨⟨_, rfl, by decide⟩, by simpa [LaneRecord.wire] using hlow _ (by omega)⟩
  | silence => exact ⟨⟨_, rfl, by decide⟩, by simp [LaneRecord.wire]⟩

/-- Records of two kinds differ in their length or their first byte; those of one kind in the bytes behind it. -/
theorem LaneRecord.wire_injective {r q : LaneRecord} (h : r.wire = q.wire) : r = q := by
  cases r with
  | start v program pitch code =>
    cases q with
    | start w program' pitch' code' =>
      simp only [LaneRecord.wire, List.cons.injEq, and_true] at h
      obtain ⟨hc, hv, hhi, hlo, hp⟩ := h
      have hc := byte_inj (by omega) (by omega) hc
      have hhi := byte_inj (by omega) (by omega) hhi
      have hlo := byte_inj (by omega) (by omega) hlo
      rw [byte_fin_inj (by omega) hv, byte_fin_inj (by omega) hp, Fin.ext (show program.val = program'.val by omega),
        Fin.ext (show code.val = code'.val by omega)]
    | _ => simp [LaneRecord.wire] at h
  | stop v =>
    cases q with
    | stop w =>
      simp only [LaneRecord.wire, List.cons.injEq, and_true, true_and] at h
      rw [byte_fin_inj (by omega) h]
    | _ => simp [LaneRecord.wire] at h
  | swell x =>
    cases q with
    | swell y =>
      simp only [LaneRecord.wire, List.cons.injEq, and_true, true_and] at h
      rw [byte_fin_inj (by omega) h]
    | _ => simp [LaneRecord.wire] at h
  | tier code =>
    cases q with
    | tier code' =>
      simp only [LaneRecord.wire, List.cons.injEq, and_true, true_and] at h
      rw [byte_fin_inj (by omega) h]
    | _ => simp [LaneRecord.wire] at h
  | silence =>
    cases q with
    | silence => rfl
    | _ => simp [LaneRecord.wire] at h

/-- Settles O48. -/
theorem readyLineStartsAndStopsWaiting : Obligations.ReadyLineStartsAndStopsWaiting := by
  refine ⟨?_, fun v program pitch code x => ⟨?_, rfl, rfl, rfl, rfl⟩, LaneRecord.wire_bits,
    fun r q => LaneRecord.wire_injective⟩
  · rintro n s l rfl
    exact ⟨fun h => congrArg _ (readyRise_low h), fun h => congrArg _ (readyFall_high h)⟩
  · simp only [LaneRecord.wire, byte, BitVec.ofNat_add]
    rfl

end Sys2Proof.Machine

/-! PROOF. The completion of a record (O49) and the stall expiry (O50): what the silence-pending set, the owed
deliveries and the next record leave, each as an equation of the whole state. -/

namespace Sys2Proof.Machine

/-! ## A state by its parts -/

/-- Two states with the same blocks are the same. -/
theorem State.eq_of_blocks {s t : State} (bsc : s.bsc = t.bsc) (nex : s.nex = t.nex) (sst : s.sst = t.sst)
    (vtb : s.vtb = t.vtb) (bfe : s.bfe = t.bfe) (dyn : s.dyn = t.dyn) (stack : s.stack = t.stack)
    (slc : s.slc = t.slc) (lanes : s.lanes = t.lanes) (ntu : s.ntu = t.ntu) (mlk : s.mlk = t.mlk)
    (pending : s.pending = t.pending) (draws : s.freeDraws = t.freeDraws) : s = t := by
  cases s
  cases t
  simp only [State.mk.injEq]
  exact ⟨bsc, nex, sst, vtb, bfe, dyn, stack, slc, lanes, ntu, mlk, pending, draws⟩

/-- The arbiter writes nothing but the notices and the link. -/
theorem State.arbitrate_back (w : State) : { w.arbitrate with ntu := w.ntu, mlk := w.mlk } = w := by
  rw [State.arbitrate_frame]

/-- An event of a lane writes voice records, lanes, the silence-pending set and notices, and the output chooses. -/
structure LaneEvent (s w : State) : Prop where
  bsc : w.bsc = s.bsc
  nex : w.nex = s.nex
  sst : w.sst = s.sst
  vtb : w.vtb = { s.vtb with voices := w.vtb.voices }
  bfe : w.bfe = s.bfe
  dyn : w.dyn = s.dyn
  stack : w.stack = s.stack
  slc : w.slc = { s.slc with pending := w.slc.pending, stale := w.slc.stale }
  ntu : w.ntu = { s.ntu with slots := w.ntu.slots }
  mlk : w.mlk = s.mlk
  pending : w.pending = s.pending
  draws : w.freeDraws = s.freeDraws

theorem LaneEvent.arbitrated {s w : State} (h : LaneEvent s w) :
    w.arbitrate = { s with
      vtb := { s.vtb with voices := w.arbitrate.vtb.voices }, lanes := w.arbitrate.lanes
      slc := { s.slc with pending := w.arbitrate.slc.pending, stale := w.arbitrate.slc.stale }
      ntu := { s.ntu with slots := w.arbitrate.ntu.slots }, mlk := { s.mlk with output := w.arbitrate.mlk.output } } := by
  have hntu : w.arbitrate.ntu = { w.ntu with slots := w.arbitrate.ntu.slots } :=
    congrArg State.ntu (State.arbitrate_frame w)
  have hmlk : w.arbitrate.mlk = { w.mlk with output := w.arbitrate.mlk.output } :=
    congrArg State.mlk (State.arbitrate_frame w)
  refine State.eq_of_blocks ?_ ?_ ?_ ?_ ?_ ?_ ?_ ?_ rfl ?_ ?_ ?_ ?_
  · exact (State.arbitrate_bsc w).trans h.bsc
  · exact (State.arbitrate_nex w).trans h.nex
  · exact (State.arbitrate_sst w).trans h.sst
  · rw [State.arbitrate_vtb]; exact h.vtb
  · exact (State.arbitrate_bfe w).trans h.bfe
  · exact (State.arbitrate_dyn w).trans h.dyn
  · exact (State.arbitrate_stack w).trans h.stack
  · rw [State.arbitrate_slc]; exact h.slc
  · rw [hntu, h.ntu]
  · rw [hmlk, h.mlk]
  · exact (State.arbitrate_pending w).trans h.pending
  · exact (State.arbitrate_freeDraws w).trans h.draws

/-! ## The silence-pending set -/

/-- The silence-pending set and the stale marks written; SILENCE_DONE is raised when the set has just become empty. -/
def State.pendingTo (s : State) (pending stale : LaneSet) : State :=
  { s with
    slc := { s.slc with pending := pending, stale := stale }
    ntu := if s.slc.pending ≠ 0 ∧ pending = 0 then (s.raise .silenceDone).ntu else s.ntu }

theorem LaneSet.remove_remove (b : LaneSet) (n : LaneNo) :
    LaneSet.remove (LaneSet.remove b n) n = LaneSet.remove b n := by
  unfold LaneSet.remove
  rw [BitVec.and_assoc, BitVec.and_self]

theorem LaneSet.remove_of_not_has {b : LaneSet} {n : LaneNo} (h : LaneSet.has b n = false) :
    LaneSet.remove b n = b := by
  refine LaneSet.ext fun k => ?_
  rw [LaneSet.has_remove]
  by_cases hk : k = n
  · rw [hk, h]; rfl
  · simp [hk]

theorem State.leavePending_eq (s : State) (n : LaneNo) :
    s.leavePending n = s.pendingTo (LaneSet.remove s.slc.pending n) (LaneSet.remove s.slc.stale n) := by
  rcases State.leavePending_cases s n with ⟨hhas, hempty, heq⟩ | ⟨hstays, heq⟩
  · have hne : s.slc.pending ≠ 0 := fun h0 => by
      rw [h0] at hhas
      exact absurd (((LaneSet.eq_zero_iff 0).mp rfl n).symm.trans hhas) Bool.false_ne_true
    rw [heq, State.pendingTo, if_pos ⟨hne, hempty⟩]
    rfl
  · rw [heq, State.pendingTo, if_neg]
    · rfl
    · rintro ⟨hne, hempty⟩
      rcases hstays with h | h
      · exact hne ((LaneSet.remove_of_not_has h).symm.trans hempty)
      · exact h hempty

/-- Only the stale marks written. -/
theorem State.pendingTo_same (s : State) (stale : LaneSet) :
    s.setSlc { s.slc with stale := stale } = s.pendingTo s.slc.pending stale := by
  rw [State.pendingTo, if_neg fun h => h.1 h.2]
  rfl

/-- Of two writes of the set the last counts, when only one of them changes it. -/
theorem State.pendingTo_pendingTo {s : State} {p q : LaneSet} (a b : LaneSet) (h : p = s.slc.pending ∨ p = q) :
    (s.pendingTo p a).pendingTo q b = s.pendingTo q b := by
  have hraise : ∀ u : State, u.ntu = s.ntu → (u.raise .silenceDone).ntu = (s.raise .silenceDone).ntu := fun u hu => by
    rw [State.raise_ntu, State.raise_ntu, hu]
  unfold State.pendingTo
  simp only
  congr 1
  rcases h with rfl | rfl
  · rw [if_neg (show ¬ (s.slc.pending ≠ 0 ∧ s.slc.pending = 0) from fun h => h.1 h.2)]
    congr 1
  · exact if_neg fun h => h.1 h.2

theorem State.pendingTo_silenceDone {s : State} {p a : LaneSet} (h : s.slc.pending ≠ 0) (hp : p = 0) :
    ∃ q ∈ (s.pendingTo p a).ntu.slots[(4 : Fin 13)], q.notice = .silenceDone := by
  unfold State.pendingTo
  simp only
  rw [if_pos ⟨h, hp⟩]
  exact State.raise_noticed s .silenceDone rfl

theorem State.pendingTo_slots (s : State) (p a : LaneSet) :
    (s.pendingTo p a).ntu = { s.ntu with slots := (s.pendingTo p a).ntu.slots } := by
  unfold State.pendingTo
  simp only
  split <;> rfl

/-! ## A Silence sent -/

/-- The Silence sent was not the last one of a CLOSING lane: the lane leaves the set, unless the Silence was stale. -/
theorem silenceSent_stays {n : LaneNo} {s : State}
    (h : ¬ (s.lanes[n].state = .closing ∧ .silence ∉ s.lanes[n].queue)) :
    silenceSent n s = s.pendingTo
      (if LaneSet.has s.slc.stale n then s.slc.pending else LaneSet.remove s.slc.pending n)
      (LaneSet.remove s.slc.stale n) := by
  have hfirst : (if LaneSet.has s.slc.stale n then s.setSlc { s.slc with stale := LaneSet.remove s.slc.stale n }
      else s.leavePending n) = s.pendingTo
        (if LaneSet.has s.slc.stale n then s.slc.pending else LaneSet.remove s.slc.pending n)
        (LaneSet.remove s.slc.stale n) := by
    split
    · exact State.pendingTo_same s _
    · exact State.leavePending_eq s n
  unfold silenceSent
  simp only [hfirst]
  exact if_neg fun hc => h ⟨hc.1, fun hm => hc.2 (List.contains_iff_mem.mpr hm)⟩

/-- The last Silence of a CLOSING lane: the lane is OFF and out of the set. -/
theorem silenceSent_closes {n : LaneNo} {s : State}
    (h : s.lanes[n].state = .closing ∧ .silence ∉ s.lanes[n].queue) :
    silenceSent n s = (s.setLane n { s.lanes[n] with state := .off, stall := none }).pendingTo
      (LaneSet.remove s.slc.pending n) (LaneSet.remove s.slc.stale n) := by
  have hcond : s.lanes[n].state = .closing ∧ ¬ s.lanes[n].queue.contains .silence = true :=
    ⟨h.1, by simpa using h.2⟩
  unfold silenceSent
  split
  · rw [State.pendingTo_same]
    refine (if_pos hcond).trans ?_
    rw [State.leavePending_eq]
    exact (congrArg _ (LaneSet.remove_remove _ n)).trans
      (State.pendingTo_pendingTo (s := s.setLane n { s.lanes[n] with state := .off, stall := none }) _ _ (.inl rfl))
  · rw [State.leavePending_eq]
    refine (if_pos hcond).trans ?_
    rw [State.leavePending_eq]
    have hp : LaneSet.remove (LaneSet.remove s.slc.pending n) n = LaneSet.remove s.slc.pending n :=
      LaneSet.remove_remove _ n
    have hs : LaneSet.remove (LaneSet.remove s.slc.stale n) n = LaneSet.remove s.slc.stale n := LaneSet.remove_remove _ n
    refine (congrArg₂ _ hp hs).trans ?_
    exact State.pendingTo_pendingTo (s := s.setLane n { s.lanes[n] with state := .off, stall := none }) _ _ (.inr rfl)

/-! ## Owed deliveries -/

theorem Voice.delivered_delivered (y : Voice) (n : LaneNo) : (y.delivered n).delivered n = y.delivered n := by
  unfold Voice.delivered
  simp only [LaneSet.remove_remove]
  congr 1
  split
  · simp
  · rfl

theorem deliverOwed_room {n : LaneNo} {s : State} (v : Slot) (rest : List Slot) (h : s.lanes[n].queue.length < 32) :
    deliverOwed n (v :: rest) s
      = deliverOwed n rest ((s.setLane n { s.lanes[n] with queue := s.lanes[n].queue ++ [.stop v], owed := rest }).setVoice
          v (s.vtb.voices[v].delivered n)) := if_pos h

theorem deliverOwed_full {n : LaneNo} {s : State} (vs : List Slot) (h : ¬ s.lanes[n].queue.length < 32) :
    deliverOwed n vs s = s := by
  cases vs with
  | nil => rfl
  | cons v rest => exact if_neg h

/-- The Stops that a lane owing `vs` has room for are delivered, oldest first. -/
theorem deliverOwed_lane {n : LaneNo} {vs : List Slot} {s : State} (h : s.lanes[n].owed = vs) :
    (deliverOwed n vs s).lanes[n] = { s.lanes[n] with
      queue := s.lanes[n].queue ++ (vs.take (32 - s.lanes[n].queue.length)).map .stop
      owed := vs.drop (32 - s.lanes[n].queue.length) } := by
  induction vs generalizing s with
  | nil =>
    rw [deliverOwed, List.take_nil, List.drop_nil, List.map_nil, List.append_nil]
    simp only [← h]
  | cons v rest ih =>
    by_cases hroom : s.lanes[n].queue.length < 32
    · rw [deliverOwed_room v rest hroom]
      generalize hs' : (s.setLane n _).setVoice v _ = s'
      have hl : s'.lanes[n] = { s.lanes[n] with queue := s.lanes[n].queue ++ [.stop v], owed := rest } := by
        rw [← hs', State.setVoice_lanes, State.setLane_get_self]
      rw [ih (by rw [hl]), hl]
      simp only [List.length_append, List.length_singleton]
      rw [show 32 - s.lanes[n].queue.length = 32 - (s.lanes[n].queue.length + 1) + 1 by omega, List.take_succ_cons,
        List.drop_succ_cons, List.map_cons, List.append_assoc, List.singleton_append]
    · rw [deliverOwed_full _ hroom, show 32 - s.lanes[n].queue.length = 0 by omega]
      simp only [List.take_zero, List.drop_zero, List.map_nil, List.append_nil, ← h]

theorem deliverOwed_voice (n : LaneNo) (vs : List Slot) (s : State) (v : Slot) :
    (deliverOwed n vs s).vtb.voices[v]
      = if v ∈ vs.take (32 - s.lanes[n].queue.length) then s.vtb.voices[v].delivered n else s.vtb.voices[v] := by
  induction vs generalizing s with
  | nil => simp only [deliverOwed, List.take_nil, List.not_mem_nil, if_false]
  | cons w rest ih =>
    by_cases hroom : s.lanes[n].queue.length < 32
    · rw [deliverOwed_room w rest hroom, ih, State.setVoice_lanes, State.setLane_get_self, List.length_append,
        List.length_singleton, show 32 - s.lanes[n].queue.length = 32 - (s.lanes[n].queue.length + 1) + 1 by omega,
        List.take_succ_cons]
      by_cases hv : v = w
      · subst hv
        rw [State.setVoice_get_self, Voice.delivered_delivered, ite_self, if_pos List.mem_cons_self]
      · rw [State.setVoice_get_ne _ _ hv, State.setLane_vtb]
        simp only [List.mem_cons, hv, false_or]
    · rw [deliverOwed_full _ hroom, show 32 - s.lanes[n].queue.length = 0 by omega, List.take_zero,
        if_neg List.not_mem_nil]

/-! ## The completion of a record -/

/-- A LIVE lane delivers what it owes, and the lane begins the next record or waits. -/
def State.carriedOn (u : State) (n : LaneNo) : State :=
  let w := if u.lanes[n].state = .live then deliverOwed n u.lanes[n].owed u else u
  w.setLane n w.lanes[n].beginOrWait

/-- A completion, up to the arbiter's choice: the head is gone, a Silence has had its consequences, and the lane carries
on. -/
def completed (n : LaneNo) (r : LaneRecord) (rest : List LaneRecord) (s : State) : State :=
  let u := s.setLane n { s.lanes[n] with queue := rest, sending := false }
  (if r = .silence then silenceSent n u else u).carriedOn n

theorem State.carriedOn_off {u : State} {n : LaneNo} (h : u.lanes[n].state = .off) : u.carriedOn n = u := by
  have hidle : u.lanes[n].hasWork = false := by
    rw [Bool.eq_false_iff]
    intro hw
    rw [Lane.hasWork_iff, h] at hw
    simp at hw
  unfold State.carriedOn
  rw [if_neg (by rw [h]; decide)]
  exact (congrArg (u.setLane n) (Lane.beginOrWait_idle hidle)).trans (State.setLane_same u n)

theorem recordCompletion_sending {n : LaneNo} {s : State} {r : LaneRecord} {rest : List LaneRecord}
    (hs : s.lanes[n].sending = true) (hq : s.lanes[n].queue = r :: rest) :
    recordCompletion n s = (completed n r rest s).arbitrate := by
  unfold recordCompletion
  simp only [hs, hq]
  rfl

/-- The next record of a lane whose head has left, under its ready line. -/
theorem Lane.beginOrWait_next {l : Lane} (hs : l.sending = false) (ht : l.state = .live ∨ l.state = .closing) :
    l.beginOrWait = if l.queue = [] then l
      else if l.ready = true then { l with sending := true, stall := none }
      else { l with stall := if l.timeout = 0 then none else some 0 } := by
  split
  · next hq => exact Lane.beginOrWait_idle (Bool.eq_false_iff.mpr fun h => ((Lane.hasWork_iff l).mp h).2.1 hq)
  · next hq => exact Lane.beginOrWait_work ((Lane.hasWork_iff l).mpr ⟨ht, hq, hs⟩)

theorem State.pendingTo_self (s : State) : s.pendingTo s.slc.pending s.slc.stale = s :=
  (State.pendingTo_same s s.slc.stale).symm

/-- What a completed record that closes no lane does to the silence-pending set. -/
def State.recordSent (s : State) (n : LaneNo) (r : LaneRecord) : State :=
  s.pendingTo
    (if r = .silence ∧ LaneSet.has s.slc.stale n = false then LaneSet.remove s.slc.pending n else s.slc.pending)
    (if r = .silence then LaneSet.remove s.slc.stale n else s.slc.stale)

/-- After a record that leaves the lane LIVE or CLOSING: the set as the Silence left it, the deliveries, the next
record. -/
theorem completed_stays {n : LaneNo} {r : LaneRecord} {rest : List LaneRecord} {s : State}
    (h : r = .silence → ¬ (s.lanes[n].state = .closing ∧ .silence ∉ rest)) :
    completed n r rest s
      = ((s.recordSent n r).setLane n { s.lanes[n] with queue := rest, sending := false }).carriedOn n := by
  have hsent : (if r = .silence then silenceSent n (s.setLane n { s.lanes[n] with queue := rest, sending := false })
      else s.setLane n { s.lanes[n] with queue := rest, sending := false })
      = (s.recordSent n r).setLane n { s.lanes[n] with queue := rest, sending := false } := by
    unfold State.recordSent
    split
    · next hr =>
      rw [silenceSent_stays (by rw [State.setLane_get_self]; exact h hr)]
      cases hstale : LaneSet.has s.slc.stale n <;> simp [hr, hstale] <;> rfl
    · next hr => simp only [hr, false_and, if_false, State.pendingTo_self]
  exact congrArg (State.carriedOn · n) hsent

/-- A lane whose head has left begins the next record of its queue, or waits, or is empty. -/
def Lane.next (l : Lane) (queue : List LaneRecord) (owed : List Slot) : Lane :=
  if queue = [] then { l with queue := [], sending := false }
  else if l.ready = true then { l with queue := queue, owed := owed, stall := none }
  else { l with queue := queue, owed := owed, sending := false, stall := if l.timeout = 0 then none else some 0 }

theorem Lane.beginOrWait_eq_next {l : Lane} {queue : List LaneRecord} {owed : List Slot} (hs : l.sending = true)
    (ht : l.state = .live ∨ l.state = .closing) (ho : queue = [] → owed = l.owed) :
    ({ l with queue := queue, sending := false, owed := owed } : Lane).beginOrWait = l.next queue owed := by
  rw [Lane.beginOrWait_next (l := { l with queue := queue, sending := false, owed := owed }) rfl ht, Lane.next]
  split
  · next hq => simp only at hq; rw [hq, ho hq]
  · split
    · rw [← hs]
    · rfl

/-- The Stops that are delivered at a completion: of a LIVE lane, as many owed ones as its queue has room for. -/
def Lane.deliveries (l : Lane) (rest : List LaneRecord) : List Slot :=
  if l.state = .live then l.owed.take (32 - rest.length) else []

theorem List.drop_length_take_eq {α : Type} (k : Nat) (as : List α) : as.drop (as.take k).length = as.drop k := by
  rw [List.length_take]
  rcases Nat.le_total k as.length with h | h
  · rw [Nat.min_eq_left h]
  · rw [Nat.min_eq_right h, List.drop_length, List.drop_eq_nil_of_le h]

section
variable {n : LaneNo} {r : LaneRecord} {rest : List LaneRecord} {s : State}
  (h : r = .silence → ¬ (s.lanes[n].state = .closing ∧ .silence ∉ rest)) (hs : s.lanes[n].sending = true)
  (ht : s.lanes[n].state = .live ∨ s.lanes[n].state = .closing)
include h

theorem completed_lane_ne {k : LaneNo} (hk : k ≠ n) : (completed n r rest s).lanes[k] = s.lanes[k] := by
  rw [completed_stays h, State.carriedOn]
  simp only
  rw [State.setLane_get_ne _ _ hk]
  split
  · rw [deliverOwed_lane_ne n _ _ hk, State.setLane_get_ne _ _ hk]; rfl
  · rw [State.setLane_get_ne _ _ hk]; rfl

theorem completed_voice (v : Slot) :
    (completed n r rest s).vtb.voices[v]
      = if v ∈ s.lanes[n].deliveries rest then s.vtb.voices[v].delivered n else s.vtb.voices[v] := by
  rw [completed_stays h, State.carriedOn, Lane.deliveries]
  simp only [State.setLane_vtb, State.setLane_get_self]
  split
  · rw [deliverOwed_voice, State.setLane_get_self]; rfl
  · rw [if_neg List.not_mem_nil]; rfl

theorem completed_frame :
    completed n r rest s = { s.recordSent n r with
      lanes := (completed n r rest s).lanes
      vtb := { s.vtb with voices := (completed n r rest s).vtb.voices } } := by
  rw [completed_stays h, State.carriedOn]
  simp only
  split
  · rw [deliverOwed_frame]; rfl
  · rfl

include hs ht

theorem completed_lane :
    (completed n r rest s).lanes[n] = s.lanes[n].next (rest ++ (s.lanes[n].deliveries rest).map .stop)
      (s.lanes[n].owed.drop (s.lanes[n].deliveries rest).length) := by
  rw [completed_stays h, State.carriedOn, ← Lane.beginOrWait_eq_next hs ht]
  · simp only [State.setLane_get_self, Lane.deliveries]
    split
    · rw [deliverOwed_lane (by rw [State.setLane_get_self]), State.setLane_get_self, List.drop_length_take_eq]
    · rw [State.setLane_get_self, List.map_nil, List.append_nil, List.length_nil, List.drop_zero]
  · intro hq
    rw [List.append_eq_nil_iff, List.map_eq_nil_iff] at hq
    rw [hq.2, List.length_nil, List.drop_zero]

end

/-! ## What the arbiter is left with -/

section
variable {s w : State} (hmlk : w.mlk = s.mlk)
  (hntu : w.ntu = if s.slc.pending ≠ 0 ∧ w.slc.pending = 0 then (s.raise .silenceDone).ntu else s.ntu)
include hmlk hntu

theorem silenceEvent_noticed (hbusy : s.mlk.output ≠ .idle) (hp : s.slc.pending ≠ 0)
    (hw : w.arbitrate.slc.pending = 0) : ∃ p ∈ w.arbitrate.ntu.slots[(4 : Fin 13)], p.notice = .silenceDone := by
  rw [State.arbitrate_busy (hmlk ▸ hbusy)] at hw ⊢
  rw [hntu, if_pos ⟨hp, hw⟩]
  exact State.raise_noticed s .silenceDone rfl

theorem silenceEvent_quiet (hp : s.slc.pending = 0 ∨ w.arbitrate.slc.pending ≠ 0) (hbusy : s.mlk.output ≠ .idle) :
    w.arbitrate.ntu = s.ntu := by
  rw [State.arbitrate_busy (hmlk ▸ hbusy)] at hp ⊢
  rw [hntu, if_neg (by tauto)]

theorem silenceEvent_arbitrated (u : State)
    (hu : u = { w.arbitrate with
      ntu := if s.slc.pending ≠ 0 ∧ w.arbitrate.slc.pending = 0 then (s.raise .silenceDone).ntu else s.ntu
      mlk := s.mlk }) : w.arbitrate = u.arbitrate := by
  rw [State.arbitrate_slc, ← hntu, ← hmlk, State.arbitrate_back] at hu
  rw [hu]

end

theorem completed_laneEvent {n : LaneNo} {r : LaneRecord} {rest : List LaneRecord} {s : State}
    (h : r = .silence → ¬ (s.lanes[n].state = .closing ∧ .silence ∉ rest)) :
    LaneEvent s (completed n r rest s) := by
  rw [completed_frame h]
  exact { bsc := rfl, nex := rfl, sst := rfl, vtb := rfl, bfe := rfl, dyn := rfl, stack := rfl, slc := rfl,
          ntu := State.pendingTo_slots s _ s.slc.stale, mlk := rfl, pending := rfl, draws := rfl }

theorem completed_ntu {n : LaneNo} {r : LaneRecord} {rest : List LaneRecord} {s : State}
    (h : r = .silence → ¬ (s.lanes[n].state = .closing ∧ .silence ∉ rest)) :
    (completed n r rest s).ntu
      = if s.slc.pending ≠ 0 ∧ (completed n r rest s).slc.pending = 0 then (s.raise .silenceDone).ntu else s.ntu := by
  rw [completed_frame h]
  rfl

theorem completed_pending {n : LaneNo} {r : LaneRecord} {rest : List LaneRecord} {s : State}
    (h : r = .silence → ¬ (s.lanes[n].state = .closing ∧ .silence ∉ rest)) (k : LaneNo) :
    LaneSet.has (completed n r rest s).slc.pending k
        = (LaneSet.has s.slc.pending k && !(k == n && r == .silence && !LaneSet.has s.slc.stale n))
      ∧ LaneSet.has (completed n r rest s).slc.stale k = (LaneSet.has s.slc.stale k && !(k == n && r == .silence)) := by
  rw [completed_frame h]
  simp only [State.recordSent, State.pendingTo]
  by_cases hr : r = .silence
  · cases hst : LaneSet.has s.slc.stale n <;> simp [hr, LaneSet.has_remove, beq_eq_decide]
  · simp [hr]

/-- The last Silence of a CLOSING lane is sent: the lane is OFF. -/
theorem completed_closes {n : LaneNo} {rest : List LaneRecord} {s : State} (hc : s.lanes[n].state = .closing)
    (hr : .silence ∉ rest) :
    completed n .silence rest s
      = (s.pendingTo (LaneSet.remove s.slc.pending n) (LaneSet.remove s.slc.stale n)).setLane n
        { s.lanes[n] with state := .off, queue := rest, sending := false, stall := none } := by
  have hsent := silenceSent_closes (s := s.setLane n { s.lanes[n] with queue := rest, sending := false }) (n := n)
    (by rw [State.setLane_get_self]; exact ⟨hc, hr⟩)
  rw [State.setLane_get_self, State.setLane_setLane] at hsent
  have hcompleted := congrArg (State.carriedOn · n) hsent
  exact hcompleted.trans (State.carriedOn_off (by rw [State.pendingTo, State.setLane_get_self]))

theorem State.recordSent_other (s : State) (n : LaneNo) {r : LaneRecord} (h : r ≠ .silence) : s.recordSent n r = s := by
  unfold State.recordSent
  simp only [h, false_and, if_false]
  exact State.pendingTo_self s

/-- With nothing to deliver and no Silence sent, the completion touches the lane alone. -/
theorem completed_plain {n : LaneNo} {r : LaneRecord} {rest : List LaneRecord} {s : State} (hr : r ≠ .silence)
    (ho : s.lanes[n].owed = [] ∨ s.lanes[n].state = .closing) (hs : s.lanes[n].sending = true)
    (ht : s.lanes[n].state = .live ∨ s.lanes[n].state = .closing) :
    completed n r rest s = s.setLane n (s.lanes[n].next rest s.lanes[n].owed) := by
  rw [completed_stays fun e => absurd e hr, State.recordSent_other s n hr, State.carriedOn]
  have hnone : ∀ u : State, (if s.lanes[n].state = .live then deliverOwed n s.lanes[n].owed u else u) = u := fun u => by
    split
    · next hl =>
      rcases ho with ho | hc
      · rw [ho]; rfl
      · rw [hl] at hc; cases hc
    · rfl
  simp only [State.setLane_get_self, hnone, State.setLane_setLane]
  rw [← Lane.beginOrWait_eq_next hs ht fun _ => rfl]

/-- Settles O49. -/
theorem completionTakesTheNextRecord : Obligations.CompletionTakesTheNextRecord := by
  rintro n s l r rest rfl hs hq ht
  have hexec : exec (.recordCompletion n) s = .next (completed n r rest s).arbitrate :=
    congrArg _ (recordCompletion_sending hs hq)
  rw [hexec]
  refine ⟨fun hr ho => congrArg _ (congrArg _ (completed_plain hr ho hs ht)), ?_, ?_⟩
  · rintro rfl hc hrest
    obtain ⟨w, hw⟩ : ∃ w, w = completed n .silence rest s := ⟨_, rfl⟩
    rw [← hw]
    rw [completed_closes hc hrest] at hw
    have hevent : LaneEvent s w := by
      rw [hw]
      exact { bsc := rfl, nex := rfl, sst := rfl, vtb := rfl, bfe := rfl, dyn := rfl, stack := rfl, slc := rfl,
              ntu := State.pendingTo_slots s _ s.slc.stale, mlk := rfl, pending := rfl, draws := rfl }
    have hntu : w.ntu = if s.slc.pending ≠ 0 ∧ w.slc.pending = 0 then (s.raise .silenceDone).ntu else s.ntu := by
      rw [hw]; rfl
    have hpending : ∀ k, LaneSet.has w.slc.pending k = (LaneSet.has s.slc.pending k && !decide (k = n)) := by
      rw [hw]; exact LaneSet.has_remove _ n
    have hstale : ∀ k, LaneSet.has w.slc.stale k = (LaneSet.has s.slc.stale k && !decide (k = n)) := by
      rw [hw]; exact LaneSet.has_remove _ n
    have hframe := hevent.arbitrated
    rw [State.arbitrate_vtb, show w.vtb = s.vtb by rw [hw]; rfl] at hframe
    refine ⟨_, rfl, ?_, ?_, ?_, fun k hk => ⟨?_, ?_, ?_⟩, silenceEvent_noticed hevent.mlk hntu,
      silenceEvent_arbitrated hevent.mlk hntu, hframe⟩
    · rw [State.arbitrate_lanes, hw, State.setLane_get_self]
    · rw [State.arbitrate_slc]; exact (hpending n).trans (by simp)
    · rw [State.arbitrate_slc]; exact (hstale n).trans (by simp)
    · rw [State.arbitrate_lanes, hw, State.setLane_get_ne _ _ hk]; rfl
    · rw [State.arbitrate_slc]; exact (hpending k).trans (by simp [hk, LaneSet.has])
    · rw [State.arbitrate_slc]; exact (hstale k).trans (by simp [hk, LaneSet.has])
  · rintro taken owed queue hlast htaken rfl rfl
    have hstays : r = .silence → ¬ (s.lanes[n].state = .closing ∧ .silence ∉ rest) := by
      rintro - ⟨hc, hno⟩
      rcases hlast with hl | hm
      · rw [hl] at hc; cases hc
      · exact hno hm
    obtain rfl : taken = s.lanes[n].deliveries rest := htaken
    have hevent := completed_laneEvent hstays
    have hntu := completed_ntu hstays
    have hvoice := completed_voice hstays
    have hpending := completed_pending hstays
    have hlane := completed_lane hstays hs ht
    have hlanes := fun k hk => completed_lane_ne (k := k) hstays hk
    generalize completed n r rest s = w at *
    refine ⟨_, rfl, ?_, fun k hk => ?_, fun v hv => ?_, fun v hv => ⟨fun k => ?_, ?_⟩, fun k => ?_, fun k => ?_,
      silenceEvent_noticed hevent.mlk hntu, silenceEvent_quiet hevent.mlk hntu,
      silenceEvent_arbitrated hevent.mlk hntu, hevent.arbitrated⟩
    · rw [State.arbitrate_lanes]; exact hlane
    · rw [State.arbitrate_lanes]; exact hlanes k hk
    · rw [State.arbitrate_vtb, hvoice, if_neg hv]
    · rw [State.arbitrate_vtb, hvoice, if_pos hv]
      exact (LaneSet.has_remove _ n k).trans (by simp [LaneSet.has, beq_eq_decide, bne])
    · rw [State.arbitrate_vtb, hvoice, if_pos hv]
      rfl
    · rw [State.arbitrate_slc]; exact (hpending k).1
    · rw [State.arbitrate_slc]; exact (hpending k).2

/-! ## The stall expiry -/

theorem Lane.stallDue_iff (l : Lane) : l.stallDue = true ↔ ∃ e ∈ l.stall, 40 * l.timeout ≤ e := by
  rw [Nat.mul_comm]
  exact Timer.due_iff _ _

/-- A dead lane: emptied, with its timer stopped. -/
def Lane.dead (l : Lane) : Lane := { l with state := .dead, queue := [], owed := [], stall := none }

theorem stallExpiry_due {n : LaneNo} {s : State} (hw : s.lanes[n].waiting = true) (hd : s.lanes[n].stallDue = true) :
    stallExpiry n s
      = (((((s.setLane n s.lanes[n].dead).clearLane n).pendingTo (LaneSet.remove s.slc.pending n)
          (LaneSet.remove s.slc.stale n))).raise (.laneDead n)).arbitrate := by
  unfold stallExpiry
  simp only [hw, hd, Bool.and_self, if_true, State.leavePending_eq]
  rfl

/-- A voice without a lane, as the rule spells it. -/
theorem Voice.cleared_spelled (y : Voice) (n : LaneNo) (h : y.state ≠ .free) :
    (∀ k : LaneNo, (y.cleared n).lanes.getLsbD k.val = (y.lanes.getLsbD k.val && k != n)
        ∧ (y.cleared n).owed.getLsbD k.val = (y.owed.getLsbD k.val && k != n))
      ∧ y.cleared n = { y with
          lanes := (y.cleared n).lanes, owed := (y.cleared n).owed
          state := if y.state = .owed ∧ (y.cleared n).owed = 0 then .free else y.state } := by
  rw [Voice.cleared_not_free n h]
  have hbit : ∀ (b : LaneSet) (k : LaneNo), (LaneSet.remove b n).getLsbD k.val = (b.getLsbD k.val && k != n) :=
    fun b k => (LaneSet.has_remove b n k).trans (by simp [LaneSet.has, bne, beq_eq_decide])
  exact ⟨fun k => ⟨hbit _ k, hbit _ k⟩, rfl⟩

/-- Settles O50. -/
theorem stallKillsTheLane : Obligations.StallKillsTheLane := by
  rintro n s l rfl hst hq hs hr
  have hwaiting : s.lanes[n].waiting = true := by
    rw [Lane.waiting, (Lane.hasWork_iff _).mpr ⟨hst, hq, hs⟩, hr]
    rfl
  refine ⟨fun hearly => congrArg _ (if_neg ?_), fun hdue => ?_⟩
  · rw [hwaiting, Bool.true_and, Lane.stallDue_iff]
    rintro ⟨e, he, hle⟩
    exact absurd (hearly e he) (by omega)
  · obtain ⟨w, hw⟩ : ∃ w, w = ((((s.setLane n s.lanes[n].dead).clearLane n).pendingTo (LaneSet.remove s.slc.pending n)
        (LaneSet.remove s.slc.stale n))).raise (.laneDead n) := ⟨_, rfl⟩
    have hexec : exec (.stallExpiry n) s = .next w.arbitrate := by
      rw [hw]
      exact congrArg _ (stallExpiry_due hwaiting ((Lane.stallDue_iff _).mpr hdue))
    have hvoice : ∀ v : Slot, w.vtb.voices[v] = s.vtb.voices[v].cleared n := by
      rw [hw]; exact State.clearLane_get (s.setLane n s.lanes[n].dead) n
    have hpending : ∀ k, LaneSet.has w.slc.pending k = (LaneSet.has s.slc.pending k && !decide (k = n)) := by
      rw [hw]; exact LaneSet.has_remove _ n
    have hstale : ∀ k, LaneSet.has w.slc.stale k = (LaneSet.has s.slc.stale k && !decide (k = n)) := by
      rw [hw]; exact LaneSet.has_remove _ n
    have hmlk : w.mlk = s.mlk := by rw [hw]; rfl
    have hntu : w.ntu = ((if s.slc.pending ≠ 0 ∧ w.slc.pending = 0 then s.raise .silenceDone else s).raise
        (.laneDead n)).ntu := by
      rw [State.raise_ntu, apply_ite State.ntu, hw, State.raise_ntu]
      rfl
    have hevent : LaneEvent s w := by
      rw [hw]
      exact { bsc := rfl, nex := rfl, sst := rfl, vtb := rfl, bfe := rfl, dyn := rfl, stack := rfl, slc := rfl,
              ntu := congrArg (NoticeUnit.withNotice · (.laneDead n)) (State.pendingTo_slots s _ s.slc.stale)
              mlk := rfl, pending := rfl, draws := rfl }
    rw [hexec]
    refine ⟨_, rfl, ?_, fun k hk => ?_, fun v hv => ?_, fun v hv => ?_, fun k => ⟨?_, ?_⟩, fun hbusy => ?_,
      fun hbusy hp hw0 => ?_, fun u hu => ?_, hevent.arbitrated⟩
    · rw [State.arbitrate_lanes, hw]; exact State.setLane_get_self s n s.lanes[n].dead
    · rw [State.arbitrate_lanes, hw]; exact State.setLane_get_ne s s.lanes[n].dead hk
    · rw [State.arbitrate_vtb, hvoice, Voice.cleared_free n hv]
    · rw [State.arbitrate_vtb, hvoice]; exact Voice.cleared_spelled _ n hv
    · rw [State.arbitrate_slc]; exact (hpending k).trans (by simp [LaneSet.has, bne, beq_eq_decide])
    · rw [State.arbitrate_slc]; exact (hstale k).trans (by simp [LaneSet.has, bne, beq_eq_decide])
    · rw [State.arbitrate_busy (hmlk ▸ hbusy), hntu]
      exact State.raise_noticed _ (.laneDead n) rfl
    · rw [State.arbitrate_busy (hmlk ▸ hbusy)] at hw0 ⊢
      rw [hntu, if_pos ⟨hp, hw0⟩, State.raise_get_ne _ _ (show (4 : Fin 13) ≠ 2 by decide)]
      exact State.raise_noticed s .silenceDone rfl
    · rw [← State.arbitrate_slc w] at hntu
      rw [← hntu, ← hmlk, State.arbitrate_back] at hu
      rw [hu]

end Sys2Proof.Machine

/-! PROOF. The work of the blocks does not read the link: with another link it leaves the same state with that link.
So a request does to the part what its owner does to the part before the frame's check byte was taken. -/

namespace Sys2Proof.Machine

/-! ## Voices -/

section
variable (s : State) (m : Link)

theorem foldl_setMlk {α : Type} {f : State → α → State} (hf : ∀ s a, f (s.setMlk m) a = (f s a).setMlk m) (l : List α)
    (s : State) : l.foldl f (s.setMlk m) = (l.foldl f s).setMlk m := by
  induction l generalizing s with
  | nil => rfl
  | cons a l ih => rw [List.foldl_cons, List.foldl_cons, hf, ih]

theorem settleLane_setMlk (v : Slot) (n : LaneNo) : settleLane v (s.setMlk m) n = (settleLane v s n).setMlk m := by
  rw [settleLane_eq, settleLane_eq]
  rfl

theorem endVoice_setMlk (v : Slot) : endVoice (s.setMlk m) v = (endVoice s v).setMlk m := by
  by_cases h : s.vtb.voices[v].state = .sounding
  · have hfold := foldl_setMlk m (fun t n => settleLane_setMlk t m v n) (LaneSet.members s.vtb.voices[v].lanes)
      (s.setVoice v { s.vtb.voices[v] with holders := [] })
    rw [endVoice_sounding h, endVoice_sounding (s := s.setMlk m) h]
    exact congrArg (fun u : State => u.setVoice v (settledVoice u.vtb.voices[v])) hfold
  · rw [endVoice_not_sounding h, endVoice_not_sounding (s := s.setMlk m) h]

theorem leaveVoice_setMlk (x : Crosspoint) (v : Slot) :
    leaveVoice x (s.setMlk m) v = (leaveVoice x s v).setMlk m := by
  have hend := endVoice_setMlk (s.setVoice v { s.vtb.voices[v] with holders := s.vtb.voices[v].holders.erase x }) m v
  unfold leaveVoice
  rw [apply_ite (State.setMlk · m)]
  exact congrArg (ite _ · _) hend

theorem leaveAll_setMlk (x : Crosspoint) (p : Voice → Bool) :
    leaveAll x p (s.setMlk m) = (leaveAll x p s).setMlk m :=
  foldl_setMlk m (fun t v => leaveVoice_setMlk t m x v) (s.heldSlots x p) s

theorem offerStart_setMlk (v : Slot) (n : LaneNo) : offerStart v (s.setMlk m) n = (offerStart v s n).setMlk m := by
  have hcode : (s.setMlk m).tierCode = s.tierCode := rfl
  unfold offerStart
  simp only [State.setMlk_vtb, State.setMlk_lanes, hcode]
  cases s.lanes[n].acceptStart (.start v s.vtb.voices[v].program s.vtb.voices[v].pitch s.tierCode) with
  | some l => rfl
  | none => exact (apply_ite (State.setMlk · m) (s.lanes[n].state = .live) (s.raise (.laneOverrun n v)) s).symm

theorem startVoice_setMlk (x : Crosspoint) (e : LayerPos × Pitch) (l : Layer) (v : Slot) :
    startVoice x e l (s.setMlk m) v = (startVoice x e l s v).setMlk m :=
  foldl_setMlk m (fun t n => offerStart_setMlk t m v n) (LaneSet.members l.laneMask)
    (s.setVoice v (newVoice x e l s.vtb.seqCounter)).countStart

theorem fillSlot_setMlk (x : Crosspoint) (e : LayerPos × Pitch) (l : Layer) (v : Slot) :
    fillSlot x e l (s.setMlk m) v = (fillSlot x e l s v).setMlk m := by
  unfold fillSlot
  simp only [startVoice_setMlk]
  rw [apply_ite (State.setMlk · m)]
  rfl

theorem allocate_setMlk (x : Crosspoint) (e : LayerPos × Pitch) :
    allocate x (s.setMlk m) e = (allocate x s e).setMlk m := by
  have hsteal : (s.setMlk m).stealCandidate = s.stealCandidate := rfl
  have hraise : ∀ (u : State) n, (u.setMlk m).raise n = (u.raise n).setMlk m := fun _ _ => rfl
  unfold allocate
  simp only [State.setMlk_sst, State.setMlk_vtb, hsteal, endVoice_setMlk, hraise, fillSlot_setMlk]
  cases s.sst.live.layers[e.1] with
  | none => rfl
  | some l =>
    cases allSlots.find? fun v => s.vtb.voices[v].state == .free with
    | some v => rfl
    | none =>
      cases s.stealCandidate with
      | none => rfl
      | some v => simp only [apply_ite (State.setMlk · m)]

theorem joinEntry_setMlk (x : Crosspoint) (e : LayerPos × Pitch) :
    joinEntry x (s.setMlk m) e = (joinEntry x s e).setMlk m := by
  have hfind : (s.setMlk m).findLive e = s.findLive e := rfl
  unfold joinEntry
  simp only [hfind, State.setMlk_vtb, allocate_setMlk]
  cases s.findLive e with
  | none => rfl
  | some v =>
    simp only [apply_ite (State.setMlk · m)]
    rfl

theorem joins_setMlk (x : Crosspoint) (es : List (LayerPos × Pitch)) :
    es.foldl (joinEntry x) (s.setMlk m) = (es.foldl (joinEntry x) s).setMlk m :=
  foldl_setMlk m (fun t e => joinEntry_setMlk t m x e) es s

theorem pressKey_setMlk (x : Crosspoint) : pressKey (s.setMlk m) x = (pressKey s x).setMlk m := by
  unfold pressKey
  rw [apply_ite (State.setMlk · m)]
  exact congrArg (ite _ · _) (congrArg (State.setVoicedAs · [x] (some s.bfe.bd)) (joins_setMlk s m x (s.expand x s.bfe.bd)))

theorem leavePhase_setMlk (orphans : Bool) (p : Crosspoint × List (LayerPos × Pitch)) :
    leavePhase orphans (s.setMlk m) p = (leavePhase orphans s p).setMlk m := by
  have hmode : ∀ u : State, (u.setMlk m).modeOf p.1 = u.modeOf p.1 := fun _ => rfl
  unfold leavePhase
  simp only [leaveAll_setMlk, hmode, apply_ite (State.setMlk · m)]

theorem reexpand_setMlk (orphans : Bool) (d : Dir) (xs : List Crosspoint) :
    reexpand orphans d xs (s.setMlk m) = (reexpand orphans d xs s).setMlk m := by
  unfold reexpand
  have hleave := foldl_setMlk m (fun t p => leavePhase_setMlk t m orphans p) (xs.map fun x => (x, s.expand x d)) s
  have hjoin := foldl_setMlk m (f := fun t p => p.2.foldl (joinEntry p.1) t) (fun t p => joins_setMlk t m p.1 p.2)
    ((xs.map fun x => (x, s.expand x d)).map fun p => (p.1, s.unmatched p.1 p.2))
    ((xs.map fun x => (x, s.expand x d)).foldl (leavePhase orphans) s)
  exact congrArg (State.setVoicedAs · xs (some d)) ((congrArg (fun u : State =>
      ((xs.map fun x => (x, s.expand x d)).map fun p => (p.1, s.unmatched p.1 p.2)).foldl
        (fun t p => p.2.foldl (joinEntry p.1) t) u) hleave).trans hjoin)

theorem sectionReexpand_setMlk (p : Sect → Bool) :
    sectionReexpand p (s.setMlk m) = (sectionReexpand p s).setMlk m := reexpand_setMlk s m _ _ _

theorem reversalReexpand_setMlk : reversalReexpand (s.setMlk m) = (reversalReexpand s).setMlk m :=
  reexpand_setMlk s m _ _ _

/-- A voiced crosspoint joins the entries of its expansion whose position carries (R80). -/
def joinCarried (s : State) (x : Crosspoint) : State :=
  ((s.expand x s.bfe.bd).filter fun e => s.carries e.1).foldl (joinEntry x) s

theorem joinCarried_setMlk (x : Crosspoint) : joinCarried (s.setMlk m) x = (joinCarried s x).setMlk m :=
  joins_setMlk s m x ((s.expand x s.bfe.bd).filter fun e => s.carries e.1)

/-- The voices of carry positions, once orphaned, end by ascending slot (R80). -/
def State.carriedEnded (s : State) : State :=
  (allSlots.filter fun v => s.vtb.voices[v].soundsOrphan && s.carries s.vtb.voices[v].layer).foldl endVoice s

theorem State.carriedEnded_setMlk : (s.setMlk m).carriedEnded = s.carriedEnded.setMlk m :=
  foldl_setMlk m (fun t v => endVoice_setMlk t m v)
    (allSlots.filter fun v => s.vtb.voices[v].soundsOrphan && s.carries s.vtb.voices[v].layer) s

theorem layersTransferred_eq :
    layersTransferred s
      = ((s.mapVoices fun _ y => y.orphaned).carriedEnded.voiced).foldl joinCarried
        (s.mapVoices fun _ y => y.orphaned).carriedEnded := rfl

theorem layersTransferred_setMlk : layersTransferred (s.setMlk m) = (layersTransferred s).setMlk m := by
  have hends := State.carriedEnded_setMlk (s.mapVoices fun _ y => y.orphaned) m
  have hjoins := foldl_setMlk m (fun t x => joinCarried_setMlk t m x)
    (s.mapVoices fun _ y => y.orphaned).carriedEnded.voiced (s.mapVoices fun _ y => y.orphaned).carriedEnded
  rw [layersTransferred_eq, layersTransferred_eq]
  exact (congrArg (fun u : State => u.voiced.foldl joinCarried u) hends).trans hjoins

theorem enableFell_setMlk : enableFell (s.setMlk m) = (enableFell s).setMlk m :=
  congrArg State.unvoiceAll (foldl_setMlk m (fun t v => endVoice_setMlk t m v)
    (allSlots.filter fun v => s.vtb.voices[v].state == .sounding) s)

theorem enableRose_setMlk : enableRose (s.setMlk m) = (enableRose s).setMlk m :=
  foldl_setMlk m (fun t x => pressKey_setMlk t m x) (allCrosspoints.filter s.holdsKey) s

theorem writeEnable_setMlk (e sh : Bool) : writeEnable e sh (s.setMlk m) = (writeEnable e sh s).setMlk m := by
  unfold writeEnable
  have hset : (s.setMlk m).setSlc { s.slc with enable := e, shadow := sh }
    = (s.setSlc { s.slc with enable := e, shadow := sh }).setMlk m := rfl
  simp only [State.setMlk_slc, hset, enableFell_setMlk, enableRose_setMlk, apply_ite (State.setMlk · m)]

/-! ## Lanes and silencing -/

theorem silenceLane_setMlk (n : LaneNo) : (s.setMlk m).silenceLane n = (s.silenceLane n).setMlk m := by
  unfold State.silenceLane
  rw [apply_ite (State.setMlk · m)]
  rfl

theorem silenceLanes_setMlk (ns : List LaneNo) :
    ns.foldl State.silenceLane (s.setMlk m) = (ns.foldl State.silenceLane s).setMlk m :=
  foldl_setMlk m (fun t n => silenceLane_setMlk t m n) ns s

theorem leavePending_setMlk (n : LaneNo) : (s.setMlk m).leavePending n = (s.leavePending n).setMlk m := by
  rw [State.leavePending_eq, State.leavePending_eq]
  rfl

theorem reviveLane_setMlk (n : LaneNo) : reviveLane (s.setMlk m) n = (reviveLane s n).setMlk m :=
  congrArg (fun u : State => u.setLane n u.lanes[n].beginOrWait)
    (silenceLane_setMlk (s.setLane n { s.lanes[n] with state := .live }) m n)

theorem applyLaneEnable_setMlk (n : LaneNo) (enable : Bool) :
    applyLaneEnable n enable (s.setMlk m) = (applyLaneEnable n enable s).setMlk m := by
  have hsilence := fun l => silenceLane_setMlk (s.setLane n l) m n
  have hleave := fun l => leavePending_setMlk (s.setLane n l) m n
  unfold applyLaneEnable
  simp only [State.setMlk_lanes]
  cases s.lanes[n].state <;> cases enable
  case off.true => exact hsilence _
  case live.false => exact hsilence _
  case closing.true => exact hsilence _
  case dead.false => exact hleave _
  all_goals rfl

/-- The lanes that join the silence-pending set at a Panic (R136). -/
def State.joining (s : State) : LaneSet := laneSetOf fun n => s.lanes[n].transmits

/-- The lanes that join the silence-pending set with a Silence already being sent (R137). -/
def State.joiningStale (s : State) : LaneSet := laneSetOf fun n => s.lanes[n].transmits && s.lanes[n].sendsSilence

/-- The lanes of a Panic in the silence-pending set, with their marks (R136, R137). -/
def State.joined (s : State) (joining stale : LaneSet) : State :=
  s.setSlc { s.slc with pending := s.slc.pending ||| joining, stale := (s.slc.stale &&& ~~~joining) ||| stale }

/-- The part once the lanes of a Panic are silenced and pending, and E and S written (R136). -/
def State.panicked (s : State) : State :=
  writeEnable false false
    (((LaneSet.members s.joining).foldl State.silenceLane s).joined s.joining s.joiningStale)

theorem panicPart_eq :
    panicPart s = if ((LaneSet.members s.joining).foldl State.silenceLane s).slc.pending ||| s.joining = 0
      then s.panicked.raise .silenceDone else s.panicked := rfl

theorem State.panicked_setMlk : (s.setMlk m).panicked = s.panicked.setMlk m := by
  have hsilence := silenceLanes_setMlk s m (LaneSet.members s.joining)
  exact (congrArg (fun u : State => writeEnable false false (u.joined s.joining s.joiningStale)) hsilence).trans
    (writeEnable_setMlk (((LaneSet.members s.joining).foldl State.silenceLane s).joined s.joining s.joiningStale)
      m false false)

theorem panicPart_setMlk : panicPart (s.setMlk m) = (panicPart s).setMlk m := by
  have hslc := congrArg State.slc (silenceLanes_setMlk s m (LaneSet.members s.joining))
  rw [State.setMlk_slc] at hslc
  have hjoining : (s.setMlk m).joining = s.joining := rfl
  rw [panicPart_eq, panicPart_eq, hjoining, hslc, State.panicked_setMlk, apply_ite (State.setMlk · m)]
  rfl

/-- The LIVE lanes, ascending. -/
def State.liveLanes (s : State) : List LaneNo := allLanes.filter fun n => s.lanes[n].state == .live

/-- The part HALTED with its LIVE lanes silenced (R138). -/
def State.hushedLive (s : State) : State :=
  s.liveLanes.foldl State.silenceLane (s.setSlc { s.slc with part := .halted })

/-- The stack and the cue cleared, and HALTED raised (R138). -/
def State.halts (s : State) : State :=
  ((s.setStack []).setSst { s.sst with armed := none }).raise .halted

theorem haltPart_eq : haltPart s = (writeEnable false false s.hushedLive).halts := rfl

theorem haltPart_setMlk : haltPart (s.setMlk m) = (haltPart s).setMlk m := by
  have hsilence := silenceLanes_setMlk (s.setSlc { s.slc with part := .halted }) m s.liveLanes
  have hwrite := (congrArg (writeEnable false false) hsilence).trans (writeEnable_setMlk s.hushedLive m false false)
  rw [haltPart_eq, haltPart_eq]
  exact congrArg State.halts hwrite

/-! ## Dynamics and scenes -/

theorem offerTier_setMlk (code : TierCode) (p : State × Bool) (n : LaneNo) :
    offerTier code (p.1.setMlk m, p.2) n = ((offerTier code p n).1.setMlk m, (offerTier code p n).2) := by
  unfold offerTier
  by_cases h : p.1.lanes[n].state = .live
  · have h' : (p.1.setMlk m).lanes[n].state = .live := h
    have htake : (p.1.setMlk m).lanes[n].takeTier code = p.1.lanes[n].takeTier code := rfl
    rw [if_pos h, if_pos h', htake]
    cases p.1.lanes[n].takeTier code <;> rfl
  · have h' : ¬ (p.1.setMlk m).lanes[n].state = .live := h
    rw [if_neg h, if_neg h']

theorem offerTiers_setMlk (code : TierCode) (ns : List LaneNo) (p : State × Bool) :
    ns.foldl (offerTier code) (p.1.setMlk m, p.2)
      = ((ns.foldl (offerTier code) p).1.setMlk m, (ns.foldl (offerTier code) p).2) := by
  induction ns generalizing p with
  | nil => rfl
  | cons n ns ih => rw [List.foldl_cons, List.foldl_cons, offerTier_setMlk, ih]

/-- A tier check that posts: TIER raised, and the offers to the lanes with whether all LIVE lanes took theirs (R112). -/
def State.tierOffered (s : State) : State × Bool :=
  allLanes.foldl (offerTier s.tierCode) (s.raise (.tier s.tierCode), true)

/-- The last code posted after the offers (R112). -/
def tierPosted (code : TierCode) (p : State × Bool) : State :=
  p.1.setDyn { p.1.dyn with lastCode := if p.2 then some code else none }

theorem tierCheck_eq :
    tierCheck s = if s.dyn.lastCode = some s.tierCode then s else tierPosted s.tierCode s.tierOffered := by
  by_cases h : s.dyn.lastCode = some s.tierCode
  · rw [tierCheck_same h, if_pos h]
  · unfold tierCheck tierPosted State.tierOffered
    rw [if_neg h]

theorem tierCheck_setMlk : tierCheck (s.setMlk m) = (tierCheck s).setMlk m := by
  have hcode : (s.setMlk m).tierCode = s.tierCode := rfl
  have hoffer : (s.setMlk m).tierOffered = (s.tierOffered.1.setMlk m, s.tierOffered.2) :=
    offerTiers_setMlk m s.tierCode allLanes (s.raise (.tier s.tierCode), true)
  have hposted : ∀ p : State × Bool, tierPosted s.tierCode (p.1.setMlk m, p.2) = (tierPosted s.tierCode p).setMlk m :=
    fun _ => rfl
  rw [tierCheck_eq, tierCheck_eq, apply_ite (State.setMlk · m), hcode, hoffer, hposted, State.setMlk_dyn]

/-- The write of a transfer, with the tier check of TIERMAP (R46, R47). -/
def transferWritten (n : SceneNo) (items : BitVec 3) (s : State) : State :=
  if hasTierMap items then tierCheck (s.setLive (s.sst.live.writeItems n s.sst.library[n] items))
  else s.setLive (s.sst.live.writeItems n s.sst.library[n] items)

theorem transfer_eq (n : SceneNo) (items : BitVec 3) (separate : Bool) :
    transfer n items separate s = if hasLayers items then layersTransferred (transferWritten n items s)
      else if hasSettings items && separate then
        sectionReexpand (s.sst.live.settings.changed (transferWritten n items s).sst.live.settings)
          (transferWritten n items s)
      else transferWritten n items s := rfl

theorem transferWritten_setMlk (n : SceneNo) (items : BitVec 3) :
    transferWritten n items (s.setMlk m) = (transferWritten n items s).setMlk m := by
  have hwrite : (s.setMlk m).setLive (s.sst.live.writeItems n s.sst.library[n] items)
    = (s.setLive (s.sst.live.writeItems n s.sst.library[n] items)).setMlk m := rfl
  unfold transferWritten
  simp only [State.setMlk_sst, hwrite, tierCheck_setMlk, apply_ite (State.setMlk · m)]

theorem transfer_setMlk (n : SceneNo) (items : BitVec 3) (separate : Bool) :
    transfer n items separate (s.setMlk m) = (transfer n items separate s).setMlk m := by
  simp only [transfer_eq, transferWritten_setMlk, State.setMlk_sst, layersTransferred_setMlk,
    sectionReexpand_setMlk, apply_ite (State.setMlk · m)]

theorem fireArmed_setMlk (c : Cue) (t : Trigger) : fireArmed c t (s.setMlk m) = (fireArmed c t s).setMlk m := by
  have htransfer := transfer_setMlk s.disarm m c.target c.items (t != .reversal)
  have hvalid : (s.setMlk m).sceneValid c.target = s.sceneValid c.target := rfl
  have hdisarm : (s.setMlk m).disarm = s.disarm.setMlk m := rfl
  unfold fireArmed
  simp only [hvalid, hdisarm, htransfer]
  rw [← apply_ite (State.setMlk · m)]
  rfl

theorem triggerCue_setMlk (t : Trigger) : triggerCue t (s.setMlk m) = (triggerCue t s).setMlk m := by
  unfold triggerCue
  simp only [State.setMlk_sst, fireArmed_setMlk]
  cases s.sst.armed with
  | none => rfl
  | some c => simp only [apply_ite (State.setMlk · m)]

theorem applySettings_setMlk (t : Settings) : applySettings t (s.setMlk m) = (applySettings t s).setMlk m :=
  sectionReexpand_setMlk (s.setSettings t) m _

theorem selectRegisterIn_setMlk (c : Sect) (n : RegNo) :
    selectRegisterIn c n (s.setMlk m) = (selectRegisterIn c n s).setMlk m := by
  unfold selectRegisterIn
  rw [apply_ite (State.setMlk · m)]
  exact congrArg (ite _ _) (sectionReexpand_setMlk (s.setSettings (s.sst.live.settings.withReg c n)) m _)

/-! ## Overrides -/

/-- The scene of a push transferred, if its definition names one (R127). -/
def targetTransferred (d : OverrideDef) (s : State) : State := d.target.elim s fun n => transfer n layersAndMap true s

/-- The context saved in a new top entry (R127). -/
def contextSaved (tag : Fin 8) (d : OverrideDef) (s : State) : State :=
  s.setStack ({ tag := tag, released := false, sceneReplaced := d.target.isSome, origin := s.sst.live.origin,
                saved := s.sst.live.settings } :: s.stack)

/-- The registers and modes of a push applied, then the delta added to the transpose (R127). -/
def definitionApplied (d : OverrideDef) (s : State) : State :=
  (applySettings (d.over s.sst.live.settings) s).setTransposeTo
    (clampInt ((applySettings (d.over s.sst.live.settings) s).sst.live.settings.transpose + d.delta) (-24) 24)

theorem pushEntry_eq (tag : Fin 8) (d : OverrideDef) :
    pushEntry tag d s = definitionApplied d (targetTransferred d (contextSaved tag d s)) := by
  unfold pushEntry targetTransferred contextSaved
  cases d.target <;> rfl

theorem definitionApplied_setMlk (d : OverrideDef) :
    definitionApplied d (s.setMlk m) = (definitionApplied d s).setMlk m :=
  congrArg (fun u : State => u.setTransposeTo (clampInt (u.sst.live.settings.transpose + d.delta) (-24) 24))
    (applySettings_setMlk s m (d.over s.sst.live.settings))

theorem targetTransferred_setMlk (d : OverrideDef) :
    targetTransferred d (s.setMlk m) = (targetTransferred d s).setMlk m := by
  unfold targetTransferred
  cases d.target with
  | none => rfl
  | some n => exact transfer_setMlk s m n layersAndMap true

theorem pushEntry_setMlk (tag : Fin 8) (d : OverrideDef) :
    pushEntry tag d (s.setMlk m) = (pushEntry tag d s).setMlk m := by
  have hsaved : contextSaved tag d (s.setMlk m) = (contextSaved tag d s).setMlk m := rfl
  rw [pushEntry_eq, pushEntry_eq, hsaved, targetTransferred_setMlk, definitionApplied_setMlk]

theorem restoreSettings_setMlk (deepest : StackEntry) :
    restoreSettings deepest (s.setMlk m) = (restoreSettings deepest s).setMlk m :=
  congrArg (State.setTransposeTo · deepest.saved.transpose)
    (applySettings_setMlk s m { deepest.saved with transpose := s.sst.live.settings.transpose })

theorem restoreContext_setMlk (first deepest : StackEntry) (replaced : Bool) :
    restoreContext first deepest replaced (s.setMlk m)
      = ((restoreContext first deepest replaced s).1.setMlk m, (restoreContext first deepest replaced s).2) := by
  have horigin : (s.setMlk m).usableOrigin deepest = s.usableOrigin deepest := rfl
  have hraise : ∀ n, (s.setMlk m).raise n = (s.raise n).setMlk m := fun _ => rfl
  have hvalid : ∀ u : State, (u.setMlk m).sceneValid 0 = u.sceneValid 0 := fun _ => rfl
  unfold restoreContext
  simp only [horigin, hraise, hvalid, transfer_setMlk, restoreSettings_setMlk, haltPart_setMlk]
  cases replaced with
  | false => rfl
  | true =>
    cases s.usableOrigin deepest with
    | some n => rfl
    | none => cases (s.raise (.override .fallback first.tag)).sceneValid 0 <;> rfl

theorem popTop_setMlk (first : StackEntry) (below : List StackEntry) :
    popTop first below (s.setMlk m) = ((popTop first below s).1.setMlk m, (popTop first below s).2) := by
  have hrestore := restoreContext_setMlk (s.setStack (below.dropWhile fun e => e.released)) m first
    ((first :: below.takeWhile fun e => e.released).getLast (List.cons_ne_nil _ _))
    ((first :: below.takeWhile fun e => e.released).any fun e => e.sceneReplaced)
  exact congrArg (fun r : State × RestoreOutcome =>
    (r.1, (first :: below.takeWhile fun e => e.released).length, r.2)) hrestore

end

end Sys2Proof.Machine

/-! PROOF. What a request is answered with (R169), said once: the command that carries a request takes it (`Takes`), and
the verdict of its checks and of its owner is the reply; which payload lengths each kind's fields are read from. -/

namespace Sys2Proof.Machine

/-! ## The command of a request -/

/-- The command takes a request of a kind: what its payload reads as goes to the owner. -/
def Takes {α : Type} (i : Instr) (kind tag : Byte) (admitted : Bool) (parsed : Parsed α)
    (owner : α → State → Verdict) : Prop :=
  ∀ s, exec i s = .next (takeRequest kind tag admitted parsed owner s)

section
variable {α : Type} {i : Instr} {kind tag : Byte} {admitted : Bool} {parsed : Parsed α}
  {owner : α → State → Verdict} {s t : State}

theorem Takes.refuses_badLength (h : Takes i kind tag admitted parsed owner) (hs : s.mlk.reply = none)
    (hp : parsed = .badLength) : Refuses i s kind tag .badLength := by
  subst hp
  exact (h s).trans (congrArg _ (takeRequest_refuse hs (judgeRequest_badLength _ _ _)))

theorem Takes.refuses_halted (h : Takes i kind tag false parsed owner) (hs : s.mlk.reply = none)
    (hp : parsed ≠ .badLength) (hh : s.slc.part = .halted) : Refuses i s kind tag .halted :=
  (h s).trans (congrArg _ (takeRequest_refuse hs (judgeRequest_halted owner hp hh)))

theorem Takes.refuses_outOfRange (h : Takes i kind tag admitted parsed owner) (hs : s.mlk.reply = none)
    (ha : admitted = true ∨ s.slc.part = .playing) (hp : parsed = .outOfRange) : Refuses i s kind tag .outOfRange := by
  subst hp
  exact (h s).trans (congrArg _ (takeRequest_refuse hs (judgeRequest_outOfRange owner ha)))

theorem Takes.refuses {a : α} {st : Status} (h : Takes i kind tag admitted parsed owner) (hs : s.mlk.reply = none)
    (ha : admitted = true ∨ s.slc.part = .playing) (hp : parsed = .fields a) (ho : owner a s.rxDone = .refuse st) :
    Refuses i s kind tag st := by
  subst hp
  exact (h s).trans (congrArg _ (takeRequest_refuse hs ((judgeRequest_fields a owner (s := s.rxDone) ha).trans ho)))

/-- The owner's work does not read the receiver, so its state is that of the part before the check byte, which the reply
then overwrites. -/
theorem Takes.accepts {a : α} {data : List Byte} (h : Takes i kind tag admitted parsed owner) (hs : s.mlk.reply = none)
    (ha : admitted = true ∨ s.slc.part = .playing) (hp : parsed = .fields a)
    (ho : owner a s.rxDone = .accept t.rxDone data) : Accepts i s t kind tag data := by
  subst hp
  have hv := (judgeRequest_fields a owner (s := s.rxDone) ha).trans ho
  exact (h s).trans (congrArg _ ((takeRequest_accept hs hv rfl rfl rfl).trans (t.replied_rxDone kind tag .ok data)))

end

/-- A request that is taken with the slot empty is judged by its kind and then by its owner (R169). -/
theorem takeFrame_answer {s : State} (h : s.mlk.reply = none) (kind tag : Byte) (p : List Byte) :
    takeFrame kind tag p s = s.rxDone.answer kind tag ((Request.of kind.toNat p).elim (.refuse .unknownKind)
      fun r => judgeRequest r.admitted r.parsed r.owner s.rxDone) := by
  rw [takeFrame_eq]
  cases Request.of kind.toNat p with
  | none =>
    simp only [Option.elim_none, takeUnknown, State.rxDone_reply, h, Option.isSome_none, Bool.false_eq_true, if_false]
  | some r => exact takeRequest_empty _ _ _ _ _ h

/-! ## The status of a refusal -/

/-- A verdict that is no refusal with the status OK. -/
def Verdict.Refusing : Verdict → Prop
  | .refuse st => st ≠ .ok
  | .accept _ _ => True

theorem Verdict.refusing_ite {c : Prop} [Decidable c] {v w : Verdict} (hv : v.Refusing) (hw : w.Refusing) :
    (if c then v else w).Refusing := by
  split
  · exact hv
  · exact hw

theorem Request.owner_refusing {k : Nat} {p : List Byte} {r : Request} (hr : Request.of k p = some r)
    (a : r.Fields) (s : State) : (r.owner a s).Refusing := by
  revert a
  revert hr
  fun_cases Request.of k p <;> intro hr <;> cases hr <;> intro a
  case case8 => exact Verdict.refusing_ite nofun trivial
  case case17 | case18 | case19 => exact Verdict.refusing_ite trivial nofun
  case case22 => exact Verdict.refusing_ite trivial nofun
  case case23 =>
    change (fireCueOwner a s).Refusing
    unfold fireCueOwner
    split
    · exact Verdict.refusing_ite trivial nofun
    · exact nofun
  case case24 => exact Verdict.refusing_ite trivial nofun
  case case33 =>
    exact Verdict.refusing_ite nofun (Verdict.refusing_ite nofun
      (Verdict.refusing_ite trivial nofun))
  case case34 =>
    change (popOverrideOwner a s).Refusing
    unfold popOverrideOwner
    split
    · exact nofun
    · exact Verdict.refusing_ite trivial nofun
  case case40 | case41 => exact Verdict.refusing_ite nofun trivial
  all_goals trivial

theorem judgeRequest_refusing {α : Type} (admitted : Bool) (parsed : Parsed α) {owner : α → State → Verdict}
    (ho : ∀ a s, (owner a s).Refusing) (s : State) : (judgeRequest admitted parsed owner s).Refusing := by
  unfold judgeRequest
  split
  · exact nofun
  · exact Verdict.refusing_ite nofun nofun
  · exact Verdict.refusing_ite nofun (ho _ _)

/-- An accepted request's state has kept the receiver. -/
theorem judgeRequest_keepsLink {k : Nat} {p : List Byte} {r : Request} (hr : Request.of k p = some r) (s : State) :
    (judgeRequest r.admitted r.parsed r.owner s).Leaves (KeepsLink s) := by
  unfold judgeRequest
  split
  · trivial
  · exact Verdict.leaves_ite (fun _ => trivial) fun _ => trivial
  · exact Verdict.leaves_ite (fun _ => trivial) fun _ => Request.owner_keepsLink hr _ s

/-- Settles O5: the verdict on the frame's request is an acceptance or a refusal, and each is its reply. -/
theorem refusedRequestChangesNothing : Obligations.RefusedRequestChangesNothing := by
  unfold Obligations.RefusedRequestChangesNothing Accepts Refuses
  intro kind tag p s h
  rw [exec_requestOfFrame, takeFrame_answer h]
  cases hr : Request.of kind.toNat p with
  | none =>
    exact .inr ⟨.unknownKind, by decide, congrArg _ (State.placeReply_arbitrate kind tag _ [] rfl rfl rfl)⟩
  | some r =>
    have hlink := judgeRequest_keepsLink hr s.rxDone
    have hrefusing := judgeRequest_refusing r.admitted r.parsed (Request.owner_refusing hr) s.rxDone
    rw [Option.elim_some]
    cases hv : judgeRequest r.admitted r.parsed r.owner s.rxDone with
    | refuse st =>
      rw [hv] at hrefusing
      exact .inr ⟨st, hrefusing, congrArg _ (State.placeReply_arbitrate kind tag st [] rfl rfl rfl)⟩
    | accept t data =>
      rw [hv] at hlink
      have hmlk : t.mlk = { s.rxDone.mlk with
        badFrames := t.mlk.badFrames, discards := t.mlk.discards, cause := t.mlk.cause } := hlink.mlk
      exact .inl ⟨t, data, congrArg _ (State.placeReply_arbitrate kind tag .ok data
        (by rw [hmlk]; rfl) (by rw [hmlk]; rfl) (by rw [hmlk]; rfl))⟩

/-! ## Payload lengths -/

theorem Parsed.ofOption_ne_badLength {α : Type} (o : Option α) : Parsed.ofOption o ≠ .badLength := by
  cases o <;> intro h <;> cases h

theorem pairsOf_length {bs : List Byte} {ps : List (Byte × Byte)} (h : pairsOf bs = some ps) :
    bs.length = 2 * ps.length := by
  fun_induction pairsOf bs generalizing ps with
  | case1 => cases h; rfl
  | case2 => cases h
  | case3 a b rest ih =>
    obtain ⟨qs, hqs, rfl⟩ := Option.map_eq_some_iff.mp h
    simp only [List.length_cons, ih hqs]
    omega

theorem pairsOf_odd {bs : List Byte} (h : pairsOf bs = none) : bs.length % 2 = 1 := by
  fun_induction pairsOf bs with
  | case1 => cases h
  | case2 => rfl
  | case3 a b rest ih =>
    have := ih (Option.map_eq_none_iff.mp h)
    simp only [List.length_cons]
    omega

/-- A payload that one of the parsers for one length reads has that length. -/
theorem parsed_length (p : List Byte) :
    (parseNoticeMask p ≠ .badLength → p.length = 2) ∧ (parseSetScan p ≠ .badLength → p.length = 2)
      ∧ (parseSectionModes p ≠ .badLength → p.length = 2) ∧ (parseLoadLayer p ≠ .badLength → p.length = 14)
      ∧ (parseSceneDefaults p ≠ .badLength → p.length = 14) ∧ (parseArmCue p ≠ .badLength → p.length = 3)
      ∧ (parseSelectRegister p ≠ .badLength → p.length = 2) ∧ (parseLoadOverride p ≠ .badLength → p.length = 7)
      ∧ (parseSetBellows p ≠ .badLength → p.length = 8) ∧ (parseSetDynamics p ≠ .badLength → p.length = 20)
      ∧ (parseSetExpression p ≠ .badLength → p.length = 4) ∧ (parseSetLevel p ≠ .badLength → p.length = 2)
      ∧ (parsePushOverride p ≠ .badLength → p.length = 7) ∧ (parseSetLane p ≠ .badLength → p.length = 3) := by
  refine ⟨?mask, ?scan, ?modes, ?layer, ?defaults, ?arm, ?register, ?override, ?bellows, ?dynamics, ?expression,
    ?level, ?push, ?lane⟩ <;> intro h
  case mask => unfold parseNoticeMask at h; split at h; exacts [rfl, absurd rfl h]
  case scan => unfold parseSetScan at h; split at h; exacts [rfl, absurd rfl h]
  case modes => unfold parseSectionModes at h; split at h; exacts [rfl, absurd rfl h]
  case layer => unfold parseLoadLayer at h; split at h; exacts [rfl, absurd rfl h]
  case defaults => unfold parseSceneDefaults at h; split at h; exacts [rfl, absurd rfl h]
  case arm => unfold parseArmCue at h; split at h; exacts [rfl, absurd rfl h]
  case register => unfold parseSelectRegister at h; split at h; exacts [rfl, absurd rfl h]
  case override => unfold parseLoadOverride at h; split at h; exacts [rfl, absurd rfl h]
  case bellows => unfold parseSetBellows at h; split at h; exacts [rfl, absurd rfl h]
  case dynamics => unfold parseSetDynamics at h; split at h; exacts [rfl, absurd rfl h]
  case expression => unfold parseSetExpression at h; split at h; exacts [rfl, absurd rfl h]
  case level => unfold parseSetLevel at h; split at h; exacts [rfl, absurd rfl h]
  case push => unfold parsePushOverride at h; split at h; exacts [rfl, absurd rfl h]
  case lane => unfold parseSetLane at h; split at h; exacts [rfl, absurd rfl h]

theorem parsePairs_badLength_iff (n most : Nat) (p : List Byte) :
    parsePairs n most p = .badLength ↔ ¬ (p.length % 2 = 1 ∧ 3 ≤ p.length ∧ p.length ≤ 2 * most + 1) := by
  unfold parsePairs
  cases p with
  | nil => exact iff_of_true rfl (by simp)
  | cons first rest =>
    cases hpairs : pairsOf rest with
    | none =>
      have := pairsOf_odd hpairs
      simp only [hpairs, List.length_cons, true_iff]
      omega
    | some pairs =>
      have := pairsOf_length hpairs
      by_cases h : 1 ≤ pairs.length ∧ pairs.length ≤ most
      · simp only [hpairs, if_pos h, List.length_cons]
        exact iff_of_false (Parsed.ofOption_ne_badLength _) (by omega)
      · simp only [hpairs, if_neg h, List.length_cons, true_iff]
        omega

theorem parseSetMeter_badLength_iff (p : List Byte) :
    parseSetMeter p = .badLength ↔ ¬ (3 ≤ p.length ∧ p.length ≤ 10) := by
  unfold parseSetMeter
  split
  · next h l items =>
    by_cases hl : 1 ≤ items.length ∧ items.length ≤ 8
    · simp only [if_pos hl, List.length_cons]
      exact iff_of_false (Parsed.ofOption_ne_badLength _) (by omega)
    · simp only [if_neg hl, List.length_cons, true_iff]
      omega
  · next hp =>
    refine iff_of_true rfl fun ⟨hl, _⟩ => ?_
    match p, hp, hl with
    | h :: l :: items, hp, _ => exact hp h l items rfl

theorem parseChordForm_badLength_iff (p : List Byte) :
    parseChordForm p = .badLength ↔ ¬ (2 ≤ p.length ∧ p.length ≤ 5) := by
  unfold parseChordForm
  cases p with
  | nil => exact iff_of_true rfl (by simp)
  | cons form intervals =>
    by_cases h : 1 ≤ intervals.length ∧ intervals.length ≤ 4
    · simp only [if_pos h, List.length_cons]
      exact iff_of_false (Parsed.ofOption_ne_badLength _) (by omega)
    · simp only [if_neg h, List.length_cons, true_iff]
      omega

theorem parsed_ite_badLength_iff {α : Type} {c : Prop} [Decidable c] (o : Option α) :
    (if c then Parsed.ofOption o else .badLength) = .badLength ↔ ¬ c := by
  by_cases h : c
  · rw [if_pos h]
    exact iff_of_false (Parsed.ofOption_ne_badLength _) (not_not_intro h)
  · rw [if_neg h]
    exact iff_of_true rfl h

theorem parseEmpty_badLength_iff (p : List Byte) : parseEmpty p = .badLength ↔ ¬ p.length = 0 := by
  cases p with
  | nil => exact iff_of_false nofun (by simp)
  | cons => exact iff_of_true rfl (by simp)

theorem parseOne_badLength_iff {α : Type} (f : Byte → Option α) (p : List Byte) :
    parseOne f p = .badLength ↔ ¬ p.length = 1 := by
  refine ⟨fun h hl => ?_, parseOne_badLength f⟩
  obtain ⟨b, rfl⟩ := List.length_eq_one_iff.mp hl
  exact parseOne_singleton_ne_badLength f b h

theorem forall_cons_of_length {α : Type} {n : Nat} {P : List α → Prop} (h : ∀ a m, m.length = n → P (a :: m)) :
    ∀ l, l.length = n + 1 → P l
  | a :: m, hl => h a m (Nat.succ.inj hl)

theorem forall_nil_of_length {α : Type} {P : List α → Prop} (h : P []) : ∀ l, l.length = 0 → P l
  | [], _ => h

/-- A payload of the one length of its kind is no bad length. -/
theorem parsed_ne_badLength :
    (∀ p, p.length = 2 → parseNoticeMask p ≠ .badLength) ∧ (∀ p, p.length = 2 → parseSetScan p ≠ .badLength)
      ∧ (∀ p, p.length = 2 → parseSectionModes p ≠ .badLength) ∧ (∀ p, p.length = 14 → parseLoadLayer p ≠ .badLength)
      ∧ (∀ p, p.length = 14 → parseSceneDefaults p ≠ .badLength) ∧ (∀ p, p.length = 3 → parseArmCue p ≠ .badLength)
      ∧ (∀ p, p.length = 2 → parseSelectRegister p ≠ .badLength) ∧ (∀ p, p.length = 7 → parseLoadOverride p ≠ .badLength)
      ∧ (∀ p, p.length = 8 → parseSetBellows p ≠ .badLength) ∧ (∀ p, p.length = 20 → parseSetDynamics p ≠ .badLength)
      ∧ (∀ p, p.length = 4 → parseSetExpression p ≠ .badLength) ∧ (∀ p, p.length = 2 → parseSetLevel p ≠ .badLength)
      ∧ (∀ p, p.length = 7 → parsePushOverride p ≠ .badLength) ∧ (∀ p, p.length = 3 → parseSetLane p ≠ .badLength) := by
  refine ⟨?mask, ?scan, ?modes, ?layer, ?defaults, ?arm, ?register, ?override, ?bellows, ?dynamics, ?expression,
    ?level, ?push, ?lane⟩
  case level =>
    iterate 2 refine forall_cons_of_length fun _ => ?_
    exact forall_nil_of_length nofun
  case mask | scan | modes | register => 
    iterate 2 refine forall_cons_of_length fun _ => ?_
    exact forall_nil_of_length (Parsed.ofOption_ne_badLength _)
  case arm | lane =>
    iterate 3 refine forall_cons_of_length fun _ => ?_
    exact forall_nil_of_length (Parsed.ofOption_ne_badLength _)
  case expression =>
    iterate 4 refine forall_cons_of_length fun _ => ?_
    exact forall_nil_of_length (Parsed.ofOption_ne_badLength _)
  case override | push =>
    iterate 7 refine forall_cons_of_length fun _ => ?_
    exact forall_nil_of_length (Parsed.ofOption_ne_badLength _)
  case bellows =>
    iterate 8 refine forall_cons_of_length fun _ => ?_
    exact forall_nil_of_length (Parsed.ofOption_ne_badLength _)
  case layer | defaults =>
    iterate 14 refine forall_cons_of_length fun _ => ?_
    exact forall_nil_of_length (Parsed.ofOption_ne_badLength _)
  case dynamics =>
    iterate 20 refine forall_cons_of_length fun _ => ?_
    exact forall_nil_of_length (Parsed.ofOption_ne_badLength _)

/-- A payload is read whatever its fields exactly when its kind admits its length (R169 check 2; spec 09, 9.3). -/
theorem Request.badLength_iff {k : Nat} {p : List Byte} {r : Request} (hr : Request.of k p = some r) :
    r.parsed = .badLength ↔ lengthAdmitted k p.length = false := by
  have hfixed {α : Type} {o : Parsed α} {n : Nat} (hl : o ≠ .badLength → p.length = n)
      (ho : p.length = n → o ≠ .badLength) : o = .badLength ↔ (p.length == n) = false := by
    refine ⟨fun h => beq_false_of_ne fun hn => ho hn h, fun h => by_contra fun hne => ?_⟩
    exact absurd (hl hne) (beq_eq_false_iff_ne.mp h)
  obtain ⟨hmask, hscan, hmodes, hlayer, hdefaults, harm, hregister, hoverride, hbellows, hdynamics, hexpression, hlevel,
    hpush, hlane⟩ := parsed_length p
  obtain ⟨emask, escan, emodes, elayer, edefaults, earm, eregister, eoverride, ebellows, edynamics, eexpression, elevel,
    epush, elane⟩ := parsed_ne_badLength
  revert hr
  fun_cases Request.of k p <;> intro hr <;> cases hr
  case case4 => exact hfixed hmask (emask p)
  case case7 => exact hfixed hscan (escan p)
  case case14 => exact hfixed hmodes (emodes p)
  case case17 => exact hfixed hlayer (elayer p)
  case case18 => exact hfixed hdefaults (edefaults p)
  case case21 => exact hfixed harm (earm p)
  case case25 => exact hfixed hregister (eregister p)
  case case26 => exact hfixed hoverride (eoverride p)
  case case28 => exact hfixed hbellows (ebellows p)
  case case29 => exact hfixed hdynamics (edynamics p)
  case case30 => exact hfixed hexpression (eexpression p)
  case case32 => exact hfixed hlevel (elevel p)
  case case33 => exact hfixed hpush (epush p)
  case case40 => exact hfixed hlane (elane p)
  case case5 => exact (parseSetMeter_badLength_iff p).trans (by simp [lengthAdmitted])
  case case8 => exact (parsed_ite_badLength_iff _).trans (by simp [lengthAdmitted])
  case case10 => exact (parsePairs_badLength_iff 96 32 p).trans (by simp [lengthAdmitted])
  case case11 => exact (parsePairs_badLength_iff 20 20 p).trans (by simp [lengthAdmitted])
  case case12 => exact (parseChordForm_badLength_iff p).trans (by simp [lengthAdmitted])
  case case13 => exact (parsed_ite_badLength_iff _).trans (by simp [lengthAdmitted])
  case case31 => exact (parsed_ite_badLength_iff _).trans (by simp [lengthAdmitted])
  case case9 | case15 | case16 | case19 | case20 | case24 | case27 | case34 | case41 =>
    exact (parseOne_badLength_iff _ p).trans (by simp [lengthAdmitted])
  all_goals exact (parseEmpty_badLength_iff p).trans (by simp [lengthAdmitted])

/-! ## The first three checks -/

theorem Request.of_eq_none_iff (k : Nat) (p : List Byte) : Request.of k p = none ↔ k ∉ requestKinds := by
  refine ⟨fun h hk => ?_, fun h => ?_⟩
  · revert h
    revert k
    simp only [requestKinds, List.forall_mem_cons, List.not_mem_nil, false_implies, implies_true, and_true]
    repeat' constructor
    all_goals exact nofun
  · unfold Request.of
    split
    case h_43 => rfl
    all_goals exact absurd (by decide) h

theorem Request.admitted_iff {k : Nat} {p : List Byte} {r : Request} (hr : Request.of k p = some r) :
    r.admitted = true ↔ k ∈ haltedKinds := by
  revert hr
  fun_cases Request.of k p <;> intro hr <;> cases hr <;> simp [haltedKinds]

theorem requestOfFrame_unknown {kind : Byte} (h : kind.toNat ∉ requestKinds) (tag : Byte) (p : List Byte) :
    requestOfFrame kind tag p = .unknownKindRequest kind tag p := by
  unfold requestOfFrame
  generalize kind.toNat = k at h
  split
  case h_43 => rfl
  all_goals exact absurd (by decide) h

theorem Request.of_some {k : Nat} (h : k ∈ requestKinds) (p : List Byte) : ∃ r, Request.of k p = some r := by
  cases hr : Request.of k p with
  | none => exact absurd h ((Request.of_eq_none_iff k p).mp hr)
  | some r => exact ⟨r, rfl⟩

/-- The command of a known kind's frame takes the request of the kind. -/
theorem Request.takes {kind tag : Byte} {p : List Byte} {r : Request} (hr : Request.of kind.toNat p = some r) :
    Takes (requestOfFrame kind tag p) kind tag r.admitted r.parsed r.owner := by
  intro s
  rw [exec_requestOfFrame, takeFrame_eq, hr]
  rfl

/-- Settles O4: the kind selects the request, its payload's length is the parser's first question, and the halt comes
before the fields. -/
theorem checksComeInOrder : Obligations.ChecksComeInOrder := by
  unfold Obligations.ChecksComeInOrder
  intro kind tag p s hs
  refine ⟨fun hk => ?_, fun hk hl => ?_, fun hk hl hh hn => ?_⟩
  · have hi := requestOfFrame_unknown hk tag p
    refine ⟨hi, ?_⟩
    unfold Refuses
    rw [← hi, exec_requestOfFrame, takeFrame_answer hs, (Request.of_eq_none_iff _ p).mpr hk]
    exact congrArg _ (State.placeReply_arbitrate kind tag _ [] rfl rfl rfl)
  · obtain ⟨r, hr⟩ := Request.of_some hk p
    exact (Request.takes hr).refuses_badLength hs ((Request.badLength_iff hr).mpr hl)
  · obtain ⟨r, hr⟩ := Request.of_some hk p
    have hadm : r.admitted = false := by
      rw [← Bool.not_eq_true]
      exact fun h => hn ((Request.admitted_iff hr).mp h)
    have hp : r.parsed ≠ .badLength := fun h => by
      rw [Request.badLength_iff hr, hl] at h
      cases h
    have htakes := Request.takes (tag := tag) hr
    rw [hadm] at htakes
    exact htakes.refuses_halted hs hp hh

/-! ## Bytes -/

theorem byteSum_eq (bs : List Byte) : byteSum bs = bs.sum := by
  unfold byteSum
  rw [List.sum_eq_foldl]

theorem judgeByte_hunt {s : State} (h : s.mlk.rx = .hunt) (b : RxByte) :
    judgeByte s b = if b.stopBit ∧ b.value = 0xC3 then s.rxTo .length [] else s := by
  unfold judgeByte
  rw [h]

theorem judgeByte_broken {s : State} (h : s.mlk.rx ≠ .hunt) {b : RxByte} (hb : b.stopBit = false) :
    judgeByte s b = dropFrame s := by
  unfold judgeByte
  split <;> simp_all

theorem judgeByte_length {s : State} (h : s.mlk.rx = .length) (b : Byte) :
    judgeByte s (goodByte b) = if 2 ≤ b.toNat ∧ b.toNat ≤ 250 then s.rxTo (.body b.toNat) [] else dropFrame s := by
  unfold judgeByte
  rw [h]
  rfl

theorem judgeByte_body {s : State} {n : Nat} (h : s.mlk.rx = .body n) (b : Byte) :
    judgeByte s (goodByte b)
      = s.rxTo (if (s.mlk.buffer ++ [b]).length < n then .body n else .check n) (s.mlk.buffer ++ [b]) := by
  unfold judgeByte
  rw [h]
  rfl

theorem judgeByte_check {s : State} {n : Nat} (h : s.mlk.rx = .check n) (b : Byte) :
    judgeByte s (goodByte b)
      = if byte n + byteSum s.mlk.buffer + b = 0 then takeBody s.mlk.buffer s.rxDone else dropFrame s := by
  unfold judgeByte
  rw [h]
  rfl

theorem rxTo_rxTo (s : State) (rx rx' : RxState) (buf buf' : List Byte) : (s.rxTo rx buf).rxTo rx' buf' = s.rxTo rx' buf' :=
  rfl

/-- The marker and a length that fits: the receiver takes the body. -/
theorem receiveBytes_header {s : State} (h : s.mlk.rx = .hunt) {n : Nat} (hn : 2 ≤ n) (hn' : n ≤ 250) :
    receiveBytes [goodByte 0xC3, goodByte (byte n)] s = s.rxTo (.body n) [] := by
  have hmarker : judgeByte s (goodByte 0xC3) = s.rxTo .length [] := by rw [judgeByte_hunt h]; rfl
  have hlen : (byte n).toNat = n := byte_toNat (by omega)
  have hlength : judgeByte (s.rxTo .length []) (goodByte (byte n)) = s.rxTo (.body n) [] := by
    rw [judgeByte_length rfl, hlen, if_pos ⟨hn, hn'⟩, rxTo_rxTo]
  rw [receiveBytes_cons, receiveBytes_cons, receiveBytes_nil, receiveByte_whole s rfl, hmarker,
    receiveByte_whole _ rfl, hlength]

/-- Bytes of a body behind those in the buffer: the receiver waits for more, or for the check when the body is whole. -/
theorem receiveBytes_body (s : State) {n : Nat} (before body : List Byte) (hb : body ≠ [])
    (hl : before.length + body.length ≤ n) :
    receiveBytes (body.map goodByte) (s.rxTo (.body n) before)
      = s.rxTo (if before.length + body.length < n then .body n else .check n) (before ++ body) := by
  induction body generalizing before with
  | nil => exact absurd rfl hb
  | cons b body ih =>
    rw [List.map_cons, receiveBytes_cons, receiveByte_whole _ rfl, judgeByte_body rfl, rxTo_rxTo]
    have hbuf : (s.rxTo (.body n) before).mlk.buffer = before := rfl
    rw [hbuf]
    cases body with
    | nil => rw [List.map_nil, receiveBytes_nil, List.length_append]
    | cons c body =>
      simp only [List.length_cons] at hl
      have hless : (before ++ [b]).length < n := by simp only [List.length_append, List.length_singleton]; omega
      have hrest : (before ++ [b]).length + (c :: body).length = before.length + (b :: c :: body).length := by
        simp only [List.length_append, List.length_cons, List.length_nil]
        omega
      rw [if_pos hless, ih (before ++ [b]) nofun (by rw [hrest]; simpa using hl), List.append_assoc,
        List.singleton_append]
      simp only [hrest]

/-- The bytes of a frame up to its check: the receiver is in CHECK with the body in the buffer. -/
theorem receiveBytes_toCheck {s : State} (h : s.mlk.rx = .hunt) {body : List Byte} (hl : 2 ≤ body.length)
    (hl' : body.length ≤ 250) :
    receiveBytes ((0xC3 :: byte body.length :: body).map goodByte) s = s.rxTo (.check body.length) body := by
  have hbody := receiveBytes_body s (n := body.length) [] body (by rintro rfl; cases hl) (by simp)
  simp only [List.length_nil, Nat.zero_add, lt_self_iff_false, if_false, List.nil_append] at hbody
  rw [List.map_cons, List.map_cons,
    show goodByte 0xC3 :: goodByte (byte body.length) :: body.map goodByte
      = [goodByte 0xC3, goodByte (byte body.length)] ++ body.map goodByte from rfl,
    receiveBytes_append, receiveBytes_header h hl hl', hbody]

/-- The bytes of an unfinished frame: the receiver is not in HUNT, and has done nothing else. -/
theorem receiveBytes_unfinished {s : State} (h : s.mlk.rx = .hunt) {n : Nat} (hn : 2 ≤ n) (hn' : n ≤ 250)
    {body : List Byte} (hl : body.length ≤ n) :
    ∃ rx, rx ≠ .hunt ∧ receiveBytes ((0xC3 :: byte n :: body).map goodByte) s = s.rxTo rx body := by
  rw [List.map_cons, List.map_cons,
    show goodByte 0xC3 :: goodByte (byte n) :: body.map goodByte
      = [goodByte 0xC3, goodByte (byte n)] ++ body.map goodByte from rfl,
    receiveBytes_append, receiveBytes_header h hn hn']
  by_cases hb : body = []
  · subst hb
    exact ⟨.body n, nofun, rfl⟩
  · rw [receiveBytes_body s [] body hb (by simpa using hl)]
    refine ⟨_, ?_, rfl⟩
    split <;> nofun

/-- What the receiver holds of a frame that is dropped does not matter. -/
theorem dropFrame_rxTo (s : State) (rx : RxState) (buf : List Byte) : dropFrame (s.rxTo rx buf) = dropFrame s := rfl

theorem takeFrame_rxTo (s : State) (rx : RxState) (buf : List Byte) (kind tag : Byte) (p : List Byte) :
    takeFrame kind tag p (s.rxTo rx buf).rxDone = takeFrame kind tag p s := by
  rw [takeFrame_eq, takeFrame_eq]
  cases Request.of kind.toNat p <;> rfl

/-- Settles O6: the marker and the length lead to the body, the body to the check, and the check byte of a frame makes the
sum zero, so the frame is taken. -/
theorem frameBytesDeliverTheRequest : Obligations.FrameBytesDeliverTheRequest := by
  unfold Obligations.FrameBytesDeliverTheRequest
  intro f s hl hs
  have hlen : f.body.length = f.payload.length + 2 := rfl
  refine ⟨by simp [Frame.wire, hlen], ?_⟩
  have hwire : f.wire.map goodByte
      = (0xC3 :: byte f.body.length :: f.body).map goodByte
        ++ [goodByte (-(byteSum (byte f.body.length :: f.body)))] := by
    rw [← List.map_singleton, ← List.map_append]
    rfl
  have hsum : byte f.body.length + byteSum f.body + -(byteSum (byte f.body.length :: f.body)) = 0 := by
    rw [byteSum_eq, byteSum_eq, List.sum_cons]
    exact add_neg_cancel _
  have hexec : ∀ bytes, exec (.receiveBadFrame bytes) s = .next (receiveBytes bytes s) := fun _ => rfl
  rw [exec_requestOfFrame, hexec, hwire, receiveBytes_append,
    receiveBytes_toCheck hs (by omega) (by omega), receiveBytes_cons, receiveBytes_nil, receiveByte_whole _ rfl,
    judgeByte_check rfl]
  refine congrArg _ ((if_pos hsum).trans ?_)
  exact takeFrame_rxTo s _ _ _ _ _

/-- A byte that is neither over a reset nor the marker leaves a receiver in HUNT as it is. -/
theorem receiveByte_skipped {s : State} (h : s.mlk.rx = .hunt) {b : RxByte} (hb : b ≠ goodByte 0xC3) :
    receiveByte s b = s := by
  obtain ⟨value, stop, reset⟩ := b
  cases reset with
  | true => exact receiveByte_overReset s rfl
  | false =>
    rw [receiveByte_whole s rfl, judgeByte_hunt h]
    refine if_neg fun ⟨hstop, hvalue⟩ => hb ?_
    cases hstop
    cases hvalue
    rfl

theorem receiveBytes_skipped {s : State} (h : s.mlk.rx = .hunt) {bytes : List RxByte}
    (hb : ∀ b ∈ bytes, b ≠ goodByte 0xC3) : receiveBytes bytes s = s := by
  induction bytes with
  | nil => rfl
  | cons b bytes ih =>
    rw [receiveBytes_cons, receiveByte_skipped h (hb b List.mem_cons_self), ih fun c hc => hb c (List.mem_cons_of_mem b hc)]

theorem receiveBytes_marker {s : State} (h : s.mlk.rx = .hunt) :
    receiveBytes [goodByte 0xC3] s = s.rxTo .length [] := by
  rw [receiveBytes_cons, receiveBytes_nil, receiveByte_whole s rfl, judgeByte_hunt h]
  rfl

theorem gapExpired_unfinished {s : State} (h : s.mlk.rx ≠ .hunt) : gapExpired s = dropFrame s := by
  unfold gapExpired
  split
  · exact absurd (by assumption) h
  · rfl

/-- The gap after bytes that leave a frame unfinished (R167). -/
theorem gapTimeout_unfinished {s u : State} {bytes : List RxByte} (hne : bytes ≠ []) (hu : receiveBytes bytes s = u)
    (h : u.mlk.rx ≠ .hunt) : gapTimeout bytes s = dropFrame u := by
  cases bytes with
  | nil => exact absurd rfl hne
  | cons b bytes =>
    have hgap : gapTimeout (b :: bytes) s = gapExpired (receiveBytes (b :: bytes) s) := rfl
    rw [hgap, hu, gapExpired_unfinished h]

/-- Settles O7: each of the byte runs leads the receiver to a state in which its last byte, or the gap, drops the frame. -/
theorem badFramesAreDropped : Obligations.BadFramesAreDropped := by
  unfold Obligations.BadFramesAreDropped
  refine ⟨fun s t hs ht => ?_, fun u => ⟨fun hdue hrx => ?_, fun hearly => ?_⟩⟩
  · have hexec : ∀ bytes, exec (.receiveBadFrame bytes) s = .next (receiveBytes bytes s) := fun _ => rfl
    have hgap : ∀ bytes, exec (.gapTimeout bytes) s = .next (gapTimeout bytes s) := fun _ => rfl
    have hdrop : ∀ rx buf, dropFrame (s.rxTo rx buf) = t := fun rx buf => ht.symm
    refine ⟨fun n hn => ?_, fun body check hl hl' hsum => ?_, fun n body b hn hn' hl => ⟨?_, ?_⟩, ?_, ?_, fun bytes hb => ?_,
      fun b bytes hb => ?_⟩
    · have hbad : ¬ (2 ≤ n.toNat ∧ n.toNat ≤ 250) := by omega
      rw [hexec, show [goodByte 0xC3, goodByte n] = [goodByte 0xC3] ++ [goodByte n] from rfl, receiveBytes_append,
        receiveBytes_marker hs, receiveBytes_cons, receiveBytes_nil, receiveByte_whole _ rfl, judgeByte_length rfl,
        if_neg hbad, hdrop]
    · have hbad : ¬ byte body.length + byteSum body + check = 0 := by rwa [byteSum_eq]
      rw [hexec, List.map_append, receiveBytes_append, receiveBytes_toCheck hs hl hl', List.map_singleton,
        receiveBytes_cons, receiveBytes_nil, receiveByte_whole _ rfl, judgeByte_check rfl]
      exact congrArg _ ((if_neg hbad).trans (hdrop _ _))
    · obtain ⟨rx, hrx, hu⟩ := receiveBytes_unfinished hs hn hn' hl
      rw [hexec, receiveBytes_append, hu, receiveBytes_cons, receiveBytes_nil, receiveByte_whole _ rfl,
        judgeByte_broken hrx rfl, hdrop]
    · obtain ⟨rx, hrx, hu⟩ := receiveBytes_unfinished hs hn hn' hl
      rw [hgap, gapTimeout_unfinished (by simp) hu hrx, hdrop]
    · have hbroken : judgeByte (s.rxTo .length []) ⟨0x02, false, false⟩ = dropFrame (s.rxTo .length []) :=
        judgeByte_broken (show RxState.length ≠ .hunt from nofun) rfl
      rw [hexec, show [goodByte 0xC3, ⟨0x02, false, false⟩] = [goodByte 0xC3] ++ [⟨0x02, false, false⟩] from rfl,
        receiveBytes_append, receiveBytes_marker hs, receiveBytes_cons, receiveBytes_nil, receiveByte_whole _ rfl,
        hbroken, hdrop]
    · rw [hgap, gapTimeout_unfinished (by simp) (receiveBytes_marker hs) nofun, hdrop]
    · rw [hexec, receiveBytes_skipped hs hb]
    · rw [hexec, hexec, receiveBytes_cons, receiveByte_overReset s hb]
  · have hgap : exec (.gapTimeout []) u = .next (if !u.mlk.gapDue then u else gapExpired u) := rfl
    have hdue' : u.mlk.gapDue = true := (Timer.due_iff _ _).mpr hdue
    rw [hgap, hdue', Bool.not_true, if_neg Bool.false_ne_true, gapExpired_unfinished hrx]
    rfl
  · have hgap : exec (.gapTimeout []) u = .next (if !u.mlk.gapDue then u else gapExpired u) := rfl
    have hearly' : u.mlk.gapDue = false := (Timer.due_false_iff _ _).mpr hearly
    rw [hgap, hearly', Bool.not_false, if_pos rfl]


end Sys2Proof.Machine

/-! PROOF. How fields are read from the bytes that spell them, and which bytes are out of range (spec 00; the owning rule of
each field). -/

namespace Sys2Proof.Machine

/-! ## Single bytes -/

theorem modeField_byte (m : Mode) : modeField m.byte = some m := by cases m <;> rfl

theorem sectField_byte (c : Sect) : sectField c.byte = some c := by cases c <;> rfl

theorem flagField_byteOfBool (b : Bool) : flagField (byteOfBool b) = some b := by cases b <;> rfl

theorem byte_ne_flags {b : Byte} (h : 1 < b.toNat) : b ≠ 0 ∧ b ≠ 1 := by
  constructor <;> rintro rfl <;> exact absurd h (by decide)

theorem modeField_none {b : Byte} (h : 1 < b.toNat) : modeField b = none := by
  unfold modeField
  obtain ⟨h0, h1⟩ := byte_ne_flags h
  rw [if_neg h0, if_neg h1]

theorem sectField_none {b : Byte} (h : 1 < b.toNat) : sectField b = none := by
  unfold sectField
  obtain ⟨h0, h1⟩ := byte_ne_flags h
  rw [if_neg h0, if_neg h1]

theorem flagField_none {b : Byte} (h : 1 < b.toNat) : flagField b = none := by
  unfold flagField
  obtain ⟨h0, h1⟩ := byte_ne_flags h
  rw [if_neg h0, if_neg h1]

theorem signedByte_toInt {i : Int} (h : -128 ≤ i) (h' : i ≤ 127) : (signedByte i).toInt = i :=
  BitVec.toInt_ofInt_eq_self (by decide) h (by omega)

theorem signedField_of_mem {lo hi : Int} {b : Byte} (h : lo ≤ b.toInt) (h' : b.toInt ≤ hi) :
    signedField lo hi b = some b.toInt := if_pos ⟨h, h'⟩

theorem signedField_none {lo hi : Int} {b : Byte} (h : b.toInt < lo ∨ hi < b.toInt) : signedField lo hi b = none :=
  if_neg (by omega)

theorem signedField_signedByte {lo hi i : Int} (hlo : -128 ≤ lo) (hhi : hi ≤ 127) (h : lo ≤ i) (h' : i ≤ hi) :
    signedField lo hi (signedByte i) = some i := by
  have hi := signedByte_toInt (hlo.trans h) (h'.trans hhi)
  rw [signedField_of_mem (by rwa [hi]) (by rwa [hi]), hi]

/-! ## Words -/

theorem word16_bytes16 {n : Nat} (h : n < 65536) : word16 (byte (n / 256)) (byte n) = n := by
  unfold word16 byte
  simp only [BitVec.toNat_ofNat]
  omega

theorem append_toNat (h l : Byte) : (h ++ l : BitVec 16).toNat = word16 h l := by
  rw [BitVec.toNat_append, word16, Nat.shiftLeft_eq, ← Nat.shiftLeft_eq, ← Nat.shiftLeft_add_eq_or_of_lt l.isLt,
    Nat.shiftLeft_eq]

theorem append_eq_ofNat (h l : Byte) : (h ++ l : BitVec 16) = BitVec.ofNat 16 (word16 h l) := by
  apply BitVec.eq_of_toNat_eq
  have := h.isLt
  have := l.isLt
  rw [append_toNat, BitVec.toNat_ofNat, Nat.mod_eq_of_lt]
  unfold word16
  omega

theorem append_toInt (h l : Byte) : (h ++ l : BitVec 16).toInt = word16s h l := by
  rw [append_eq_ofNat]
  rfl

theorem bytes16_append (h l : Byte) : bytes16 (h ++ l : BitVec 16).toNat = [h, l] := by
  rw [append_toNat]
  have := h.isLt
  have := l.isLt
  have hh : byte (word16 h l / 256) = h := BitVec.eq_of_toNat_eq (by
    rw [byte, BitVec.toNat_ofNat, word16]
    omega)
  have hl : byte (word16 h l) = l := BitVec.eq_of_toNat_eq (by
    rw [byte, BitVec.toNat_ofNat, word16]
    omega)
  rw [bytes16, hh, hl]

theorem word16s_bytes16s {i : Int} (h : -32768 ≤ i) (h' : i ≤ 32767) :
    word16s (byte ((BitVec.ofInt 16 i).toNat / 256)) (byte (BitVec.ofInt 16 i).toNat) = i := by
  rw [word16s, word16_bytes16 (BitVec.ofInt 16 i).isLt, BitVec.ofNat_toNat, BitVec.setWidth_eq]
  exact BitVec.toInt_ofInt_eq_self (by decide) h (by omega)

theorem wordField_of_mem {lo hi : Nat} {h l : Byte} (h₁ : lo ≤ word16 h l) (h₂ : word16 h l ≤ hi) :
    wordField lo hi h l = some (word16 h l) := if_pos ⟨h₁, h₂⟩

theorem wordField_none {lo hi : Nat} {h l : Byte} (hw : word16 h l < lo ∨ hi < word16 h l) :
    wordField lo hi h l = none := if_neg (by omega)

theorem wordField_bytes16 {lo hi n : Nat} (hhi : hi < 65536) (h : lo ≤ n) (h' : n ≤ hi) :
    wordField lo hi (byte (n / 256)) (byte n) = some n := by
  have hn := word16_bytes16 (n := n) (by omega)
  rw [wordField_of_mem (by rwa [hn]) (by rwa [hn]), hn]

theorem signedWordField_none {lo hi : Int} {h l : Byte} (hw : word16s h l < lo ∨ hi < word16s h l) :
    signedWordField lo hi h l = none := if_neg (by omega)

theorem signedWordField_bytes16s {lo hi i : Int} (hlo : -32768 ≤ lo) (hhi : hi ≤ 32767) (h : lo ≤ i) (h' : i ≤ hi) :
    signedWordField lo hi (byte ((BitVec.ofInt 16 i).toNat / 256)) (byte (BitVec.ofInt 16 i).toNat) = some i := by
  have hi := word16s_bytes16s (i := i) (by omega) (by omega)
  unfold signedWordField
  rw [hi, if_pos ⟨h, h'⟩]

theorem levelField_bytes16 (v : Fin 65536) : levelField (byte (v.val / 256)) (byte v.val) = v := by
  unfold levelField
  rw [word16_bytes16 v.isLt]
  exact Fin.ofNat_val_eq_self v

theorem fieldIn_byte {lo hi n : Nat} (hhi : hi < 256) (h : lo ≤ n) (h' : n ≤ hi) :
    fieldIn lo hi (byte n) = some n := by
  have hn : (byte n).toNat = n := byte_toNat (by omega)
  rw [fieldIn_of_mem (by rw [hn]; exact ⟨h, h'⟩), hn]

/-! ## Runs of fields -/

theorem allFields_map {α β : Type} {f : β → Option α} {g : α → β} {as : List α} (h : ∀ a ∈ as, f (g a) = some a) :
    allFields f (as.map g) = some as := by
  induction as with
  | nil => rfl
  | cons a as ih =>
    rw [List.map_cons, allFields, h a List.mem_cons_self, ih fun b hb => h b (List.mem_cons_of_mem a hb)]
    rfl

theorem allFields_none {α β : Type} {f : β → Option α} {bs : List β} {b : β} (hb : b ∈ bs) (h : f b = none) :
    allFields f bs = none := by
  induction bs with
  | nil => cases hb
  | cons c bs ih =>
    rw [allFields]
    rcases List.mem_cons.mp hb with rfl | hb
    · rw [h]
      rfl
    · rw [ih hb]
      cases f c <;> rfl

theorem pairsOf_flatMap {α : Type} (f g : α → Byte) (as : List α) :
    pairsOf (as.flatMap fun a => [f a, g a]) = some (as.map fun a => (f a, g a)) := by
  induction as with
  | nil => rfl
  | cons a as ih =>
    rw [List.flatMap_cons, List.cons_append, List.cons_append, List.nil_append, pairsOf, ih]
    rfl

theorem keepField_keepByte {α : Type} {f : Byte → Option α} {g : α → Byte} (hg : ∀ a, f (g a) = some a)
    (hne : ∀ a, g a ≠ 0xFF) (o : Option α) : keepField f (keepByte g o) = some o := by
  cases o with
  | none => rfl
  | some a =>
    unfold keepField keepByte
    rw [if_neg (hne a), hg]
    rfl

theorem keepField_none {α : Type} {f : Byte → Option α} {b : Byte} {most : Nat} (hf : most < b.toNat → f b = none)
    (h : KeepByteOutOfRange most b) : keepField f b = none := by
  unfold keepField
  rw [if_neg h.1, hf h.2]
  rfl

theorem byte_fin_ne {n : Nat} (hn : n ≤ 255) (i : Fin n) : byte i.val ≠ 0xFF := fun h => by
  have h' := congrArg BitVec.toNat h
  rw [byte_toNat (by omega)] at h'
  have : (0xFF : Byte).toNat = 255 := rfl
  omega

theorem tierMapFields_map (map : Vector TierCode 8) :
    tierMapFields (map.toList.map fun c => byte c.val) = some map := by
  unfold tierMapFields
  rw [allFields_map fun c _ => field_byte (by omega) c]
  exact dif_pos map.size_toArray

theorem tierMapFields_none {codes : List Byte} (h : ∃ c ∈ codes, 15 < c.toNat) : tierMapFields codes = none := by
  obtain ⟨c, hc, hn⟩ := h
  unfold tierMapFields
  rw [allFields_none hc (field_of_le (by omega))]
  rfl

end Sys2Proof.Machine

/-! PROOF. The requests that load the tables: roles, pitches, chord forms, transpose and section modes (R13, R29 to R35). -/

namespace Sys2Proof.Machine

/-! ## Set Transpose -/

/-- Settles O22: length, halt and range are the request's checks, and its owner writes the live transpose. -/
theorem setTransposeWritesTheValue : Obligations.SetTransposeWritesTheValue := by
  unfold Obligations.SetTransposeWritesTheValue
  intro tag p s hs
  have htakes : Takes (.setTranspose tag p) 0x11 tag false (parseOne (signedField (-24) 24) p)
    (fun v s => .accept (s.setTransposeTo v) []) := fun _ => rfl
  refine ⟨fun hl => htakes.refuses_badLength hs (parseOne_badLength _ hl), fun b hp => ?_⟩
  subst hp
  exact ⟨htakes.refuses_halted hs (parseOne_singleton_ne_badLength _ b),
    fun hplay hb => htakes.refuses_outOfRange hs (.inr hplay) (parseOne_outOfRange (signedField_none hb)),
    fun hplay hlo hhi => htakes.accepts hs (.inr hplay) (parseOne_fields (signedField_of_mem hlo hhi)) rfl⟩

/-! ## Load Chord Form and Set Row Forms -/

theorem parseChordForm_fields (form : Fin 8) {intervals : List (Fin 37)} (h : 1 ≤ intervals.length)
    (h' : intervals.length ≤ 4) :
    parseChordForm (byte form.val :: intervals.map fun i => byte i.val) = .fields (form, intervals) := by
  have hl : 1 ≤ (intervals.map fun i => byte i.val).length ∧ (intervals.map fun i => byte i.val).length ≤ 4 := by
    rw [List.length_map]
    exact ⟨h, h'⟩
  unfold parseChordForm
  simp only [if_pos hl, field_byte (show 8 ≤ 256 by decide) form,
    allFields_map fun (i : Fin 37) _ => field_byte (by decide) i]
  rfl

theorem parseChordForm_outOfRange {form : Byte} {intervals : List Byte} (h : 1 ≤ intervals.length)
    (h' : intervals.length ≤ 4) (hbad : 7 < form.toNat ∨ ∃ i ∈ intervals, 36 < i.toNat) :
    parseChordForm (form :: intervals) = .outOfRange := by
  unfold parseChordForm
  simp only [if_pos (And.intro h h')]
  rcases hbad with hform | ⟨i, hi, hinterval⟩
  · rw [field_of_le hform]
    rfl
  · rw [allFields_none hi (field_of_le hinterval)]
    cases field 8 form <;> rfl

theorem parseRowForms_fields (forms : Vector (Fin 8) 6) :
    parseRowForms (forms.toList.map fun f => byte f.val) = .fields forms := by
  have hl : (forms.toList.map fun f => byte f.val).length = 6 := by
    rw [List.length_map]
    exact forms.size_toArray
  unfold parseRowForms
  rw [if_pos hl, allFields_map fun (f : Fin 8) _ => field_byte (by decide) f]
  exact congrArg Parsed.ofOption (dif_pos forms.size_toArray)

theorem parseRowForms_outOfRange {forms : List Byte} (h : forms.length = 6) (hbad : ∃ f ∈ forms, 7 < f.toNat) :
    parseRowForms forms = .outOfRange := by
  obtain ⟨f, hf, hn⟩ := hbad
  unfold parseRowForms
  rw [if_pos h, allFields_none hf (field_of_le hn)]
  rfl

/-- Settles O21: each payload reads as the form and intervals, or the row forms, that it spells. -/
theorem chordTablesAreLoaded : Obligations.ChordTablesAreLoaded := by
  unfold Obligations.ChordTablesAreLoaded
  rintro tag s ⟨hs, hplay⟩
  have hform : ∀ p, Takes (.loadChordForm tag p) 0x0E tag false (parseChordForm p) loadChordFormOwner :=
    fun _ _ => rfl
  have hrows : ∀ p, Takes (.setRowForms tag p) 0x0F tag false (parseRowForms p) setRowFormsOwner := fun _ _ => rfl
  exact ⟨fun form intervals h h' => (hform _).accepts hs (.inr hplay) (parseChordForm_fields form h h') rfl,
    fun form intervals h h' hbad =>
      (hform _).refuses_outOfRange hs (.inr hplay) (parseChordForm_outOfRange h h' hbad),
    fun forms => (hrows _).accepts hs (.inr hplay) (parseRowForms_fields forms) rfl,
    fun forms h hbad => (hrows _).refuses_outOfRange hs (.inr hplay) (parseRowForms_outOfRange h hbad)⟩

/-! ## Load Treble Pitches and Load Bass Roots -/

/-- The bytes of a run of pitch pairs. -/
def pairBytes (pairs : List PitchPair) : List Byte := pairs.flatMap fun q => [byte q.push.val, byte q.pull.val]

theorem allFields_pairs (pairs : List PitchPair) :
    allFields pitchPairField (pairs.map fun q => (byte q.push.val, byte q.pull.val)) = some pairs := by
  refine allFields_map (g := fun q : PitchPair => (byte q.push.val, byte q.pull.val)) fun q _ => ?_
  unfold pitchPairField
  rw [field_byte (by decide), field_byte (by decide)]
  rfl

theorem parsePairs_eq {n most : Nat} (first : Byte) {pairs : List PitchPair} (h : 1 ≤ pairs.length)
    (h' : pairs.length ≤ most) :
    parsePairs n most (first :: pairBytes pairs)
      = .ofOption ((field n first).bind fun i => if i.val + pairs.length - 1 < n then some (i, pairs) else none) := by
  have hpairs := pairsOf_flatMap (fun q : PitchPair => byte q.push.val) (fun q => byte q.pull.val) pairs
  unfold parsePairs pairBytes
  simp only [hpairs, allFields_pairs, List.length_map]
  exact if_pos ⟨h, h'⟩

theorem parsePairs_fields {n most : Nat} (hn : n ≤ 256) (first : Fin n) {pairs : List PitchPair} (h : 1 ≤ pairs.length)
    (h' : pairs.length ≤ most) (hfit : first.val + pairs.length ≤ n) :
    parsePairs n most (byte first.val :: pairBytes pairs) = .fields (first, pairs) := by
  have hlast : first.val + pairs.length - 1 < n := by omega
  rw [parsePairs_eq _ h h', field_byte hn, Option.bind_some, if_pos hlast]
  rfl

theorem parsePairs_overrun {n most : Nat} {first : Byte} {pairs : List PitchPair} (h : 1 ≤ pairs.length)
    (h' : pairs.length ≤ most) (hover : n < first.toNat + pairs.length) :
    parsePairs n most (first :: pairBytes pairs) = .outOfRange := by
  rw [parsePairs_eq _ h h']
  by_cases hf : first.toNat < n
  · have hlast : ¬ first.toNat + pairs.length - 1 < n := by omega
    have hfield : field n first = some ⟨first.toNat, hf⟩ := dif_pos hf
    rw [hfield, Option.bind_some, if_neg hlast]
    rfl
  · rw [field_of_le (by omega)]
    rfl

theorem pairsOf_mem {bs : List Byte} {ps : List (Byte × Byte)} (h : pairsOf bs = some ps) {b : Byte} (hb : b ∈ bs) :
    ∃ q ∈ ps, q.1 = b ∨ q.2 = b := by
  fun_induction pairsOf bs generalizing ps with
  | case1 => cases hb
  | case2 => cases h
  | case3 c d rest ih =>
    obtain ⟨qs, hqs, rfl⟩ := Option.map_eq_some_iff.mp h
    rcases List.mem_cons.mp hb with rfl | hb
    · exact ⟨(b, d), List.mem_cons_self, .inl rfl⟩
    · rcases List.mem_cons.mp hb with rfl | hb
      · exact ⟨(c, b), List.mem_cons_self, .inr rfl⟩
      · obtain ⟨q, hq, hqb⟩ := ih hqs hb
        exact ⟨q, List.mem_cons_of_mem _ hq, hqb⟩

theorem pitchPairField_none {q : Byte × Byte} {b : Byte} (hq : q.1 = b ∨ q.2 = b) (hb : 127 < b.toNat) :
    pitchPairField q = none := by
  unfold pitchPairField
  rcases hq with rfl | rfl
  · rw [field_of_le (by omega)]
    rfl
  · rw [field_of_le (by omega : 128 ≤ q.2.toNat)]
    cases field 128 q.1 <;> rfl

theorem parsePairs_badPitch {n most : Nat} {first b : Byte} {rest : List Byte} (hb : b ∈ rest) (hpitch : 127 < b.toNat)
    (heven : rest.length % 2 = 0) (hmost : rest.length ≤ 2 * most) :
    parsePairs n most (first :: rest) = .outOfRange := by
  cases hpairs : pairsOf rest with
  | none =>
    have := pairsOf_odd hpairs
    omega
  | some pairs =>
    obtain ⟨q, hq, hqb⟩ := pairsOf_mem hpairs hb
    have hlen := pairsOf_length hpairs
    have hpos := List.length_pos_of_mem hq
    have hl : 1 ≤ pairs.length ∧ pairs.length ≤ most := by omega
    unfold parsePairs
    simp only [hpairs, if_pos hl, allFields_none hq (pitchPairField_none hqb hpitch)]
    cases field n first <;> rfl

theorem writeRun_get {α : Type} {n : Nat} (table : Vector α n) (first : Nat) (run : List α) (k : Fin n) :
    (writeRun table first run)[k] = if first ≤ k.val then (run[k.val - first]?).getD table[k] else table[k] :=
  get_tabulate _ k

/-- Settles O20: both requests read a first entry and the pairs, and the run of pairs is written from it on. -/
theorem pitchTablesAreLoaded : Obligations.PitchTablesAreLoaded := by
  unfold Obligations.PitchTablesAreLoaded
  rintro tag s ⟨hs, hplay⟩
  have htreble : ∀ p, Takes (.loadTreblePitches tag p) 0x0C tag false (parsePairs 96 32 p) loadTreblePitchesOwner :=
    fun _ _ => rfl
  have hbass : ∀ p, Takes (.loadBassRoots tag p) 0x0D tag false (parsePairs 20 20 p) loadBassRootsOwner :=
    fun _ _ => rfl
  refine ⟨fun first pairs h h' => ⟨fun hfit => ?_, fun f hover => ?_⟩,
    fun first pairs h h' => ⟨fun hfit => ?_, fun f hover => ?_⟩,
    fun first b before after hb hodd => ⟨fun hl => ?_, fun hl => ?_⟩⟩
  · exact ⟨s.setNex { s.nex with trebleTable := writeRun s.nex.trebleTable first.val pairs },
      (htreble _).accepts hs (.inr hplay) (parsePairs_fields (by decide) first h h' hfit) rfl, rfl,
      fun k => writeRun_get _ _ _ k⟩
  · exact (htreble _).refuses_outOfRange hs (.inr hplay) (parsePairs_overrun h h' hover)
  · exact ⟨s.setNex { s.nex with bassTable := writeRun s.nex.bassTable first.val pairs },
      (hbass _).accepts hs (.inr hplay) (parsePairs_fields (by decide) first h h' hfit) rfl, rfl,
      fun k => writeRun_get _ _ _ k⟩
  · exact (hbass _).refuses_outOfRange hs (.inr hplay) (parsePairs_overrun h h' hover)
  · rw [List.cons_append]
    refine (htreble _).refuses_outOfRange hs (.inr hplay) (parsePairs_badPitch (b := b) (by simp) hb ?_ ?_) <;>
      simp only [List.length_append, List.length_cons] <;> omega
  · rw [List.cons_append]
    refine (hbass _).refuses_outOfRange hs (.inr hplay) (parsePairs_badPitch (b := b) (by simp) hb ?_ ?_) <;>
      simp only [List.length_append, List.length_cons] <;> omega

/-! ## Load Roles -/

theorem roleField_roleBytes (e : Crosspoint × Role) :
    ∃ k a b, roleBytes e = [byte e.1.val, k, a, b] ∧ roleField k a b = some e.2 := by
  obtain ⟨x, r⟩ := e
  cases r with
  | none => exact ⟨0, 0, 0, rfl, rfl⟩
  | treble k =>
    refine ⟨1, byte k.val, 0, rfl, ?_⟩
    change Option.map Role.treble (field 96 (byte k.val)) = _
    rw [field_byte (by decide)]
    rfl
  | bass c r =>
    refine ⟨2, byte c.val, byte r.val, rfl, ?_⟩
    change (field 20 (byte c.val)).bind (fun c => (field 6 (byte r.val)).bind fun r => some (Role.bass c r)) = _
    rw [field_byte (by decide), field_byte (by decide)]
    rfl
  | trebleRegister n =>
    refine ⟨3, byte n.val, 0, rfl, ?_⟩
    change Option.map Role.trebleRegister (field 16 (byte n.val)) = _
    rw [field_byte (by decide)]
    rfl
  | bassRegister n =>
    refine ⟨4, byte n.val, 0, rfl, ?_⟩
    change Option.map Role.bassRegister (field 16 (byte n.val)) = _
    rw [field_byte (by decide)]
    rfl
  | override n =>
    refine ⟨5, byte n.val, 0, rfl, ?_⟩
    change Option.map Role.override (field 4 (byte n.val)) = _
    rw [field_byte (by decide)]
    rfl
  | hush => exact ⟨6, 0, 0, rfl, rfl⟩
  | cue => exact ⟨7, 0, 0, rfl, rfl⟩

theorem toNat_eq_byte {b : Byte} {n : Nat} (h : b.toNat = n) : b = byte n := by
  rw [← h, byte, BitVec.ofNat_toNat, BitVec.setWidth_eq]

/-- A role read from its three bytes is spelled by them. -/
theorem roleBytes_of_roleField {k a b : Byte} {r : Role} (h : roleField k a b = some r) (x : Crosspoint) :
    roleBytes (x, r) = [byte x.val, k, a, b] := by
  have hfield {n : Nat} {c : Byte} {i : Fin n} (hc : field n c = some i) : byte i.val = c := by
    unfold field at hc
    split at hc <;> cases hc
    exact (toNat_eq_byte rfl).symm
  unfold roleField at h
  split at h
  case h_9 => cases h
  case h_1 hk | h_7 hk | h_8 hk =>
    obtain ⟨⟨rfl, rfl⟩, hr⟩ := (Option.ite_none_right_eq_some).mp h
    cases hr
    rw [toNat_eq_byte hk]
    rfl
  case h_3 hk =>
    obtain ⟨c, hc, h⟩ := Option.bind_eq_some_iff.mp h
    obtain ⟨w, hw, h⟩ := Option.bind_eq_some_iff.mp h
    cases h
    rw [toNat_eq_byte hk, ← hfield hc, ← hfield hw]
    rfl
  case h_2 hk | h_4 hk | h_5 hk | h_6 hk =>
    obtain ⟨rfl, hr⟩ := (Option.ite_none_right_eq_some).mp h
    obtain ⟨i, hi, rfl⟩ := Option.map_eq_some_iff.mp hr
    rw [toNat_eq_byte hk, ← hfield hi]
    rfl

theorem roleBytes_length (es : List (Crosspoint × Role)) : (es.flatMap roleBytes).length = 4 * es.length := by
  induction es with
  | nil => rfl
  | cons e es ih =>
    obtain ⟨k, a, b, hbytes, -⟩ := roleField_roleBytes e
    rw [List.flatMap_cons, List.length_append, ih, hbytes, List.length_cons]
    simp only [List.length_cons, List.length_nil]
    omega

theorem roleEntries_append (es : List (Crosspoint × Role)) (rest : List Byte) :
    roleEntries (es.flatMap roleBytes ++ rest) = (roleEntries rest).map (es ++ ·) := by
  induction es with
  | nil =>
    rw [List.flatMap_nil, List.nil_append]
    cases roleEntries rest <;> rfl
  | cons e es ih =>
    obtain ⟨k, a, b, hbytes, hrole⟩ := roleField_roleBytes e
    rw [List.flatMap_cons, hbytes]
    change roleEntries (byte e.1.val :: k :: a :: b :: (es.flatMap roleBytes ++ rest)) = _
    rw [roleEntries, field_byte (by decide), hrole, ih]
    cases roleEntries rest <;> rfl

theorem roleEntries_bad (after : List Byte) :
    ∀ bad : List Byte, bad.length = 4 → (∀ e, roleBytes e ≠ bad) → roleEntries (bad ++ after) = none := by
  refine forall_cons_of_length fun x => forall_cons_of_length fun k => forall_cons_of_length fun a =>
    forall_cons_of_length fun b => forall_nil_of_length fun hbad => ?_
  have hx : field 256 x = some ⟨x.toNat, x.isLt⟩ := dif_pos x.isLt
  have hrole : roleField k a b = none := by
    rw [Option.eq_none_iff_forall_ne_some]
    intro r hr
    refine hbad (⟨x.toNat, x.isLt⟩, r) ((roleBytes_of_roleField hr _).trans ?_)
    rw [← toNat_eq_byte rfl]
  change roleEntries (x :: k :: a :: b :: after) = none
  rw [roleEntries, hx, hrole]
  rfl

/-- A table written entry by entry holds the last entry of each place. -/
theorem foldl_put_get (es : List (Crosspoint × Role)) (roles : Vector Role 256) (x : Crosspoint) :
    (es.foldl (fun t e => put t e.1 e.2) roles)[x]
      = ((es.reverse.find? fun e => e.1 == x).map Prod.snd).getD roles[x] := by
  induction es generalizing roles with
  | nil => rfl
  | cons e es ih =>
    rw [List.foldl_cons, ih, List.reverse_cons, List.find?_append]
    cases hfind : es.reverse.find? fun e => e.1 == x with
    | some f => rfl
    | none =>
      rw [Option.none_or, get_put]
      by_cases hx : x = e.1
      · subst hx
        rw [if_pos rfl, List.find?_cons_of_pos (by simp)]
        rfl
      · rw [if_neg hx, List.find?_cons_of_neg (by simpa using fun h => hx h.symm)]
        rfl

/-- Settles O17: the payload reads as its entries, and the owner writes them in order unless one is of a PRESSED
crosspoint. -/
theorem loadRolesWritesEntries : Obligations.LoadRolesWritesEntries := by
  unfold Obligations.LoadRolesWritesEntries
  rintro tag s ⟨hs, hplay⟩
  have htakes : ∀ p, Takes (.loadRoles tag p) 0x09 tag false (parseLoadRoles p) loadRolesOwner := fun _ _ => rfl
  refine ⟨fun es hl hl' => ?_, fun before bad after hbad hafter hl hno => ?_⟩
  · have hlen : (es.flatMap roleBytes).length % 4 = 0 ∧ 4 ≤ (es.flatMap roleBytes).length
        ∧ (es.flatMap roleBytes).length ≤ 128 := by
      rw [roleBytes_length]
      omega
    have hparse : parseLoadRoles (es.flatMap roleBytes) = .fields es := by
      have hentries := roleEntries_append es []
      rw [List.append_nil] at hentries
      unfold parseLoadRoles
      rw [if_pos hlen, hentries, roleEntries, Option.map_some, List.append_nil]
      · rfl
      · exact nofun
    refine ⟨fun ⟨e, he, hpressed⟩ => ?_, fun hup => ?_⟩
    · exact (htakes _).refuses hs (.inr hplay) hparse (if_pos (List.any_eq_true.mpr ⟨e, he, hpressed⟩))
    · have hnone : ¬ (es.any fun e => s.rxDone.bsc.buttons[e.1].pressed) = true := by
        rw [List.any_eq_true]
        rintro ⟨e, he, hpressed⟩
        exact Bool.false_ne_true ((hup e he).symm.trans hpressed)
      exact ⟨s.setBsc { s.bsc with roles := es.foldl (fun t e => put t e.1 e.2) s.bsc.roles },
        (htakes _).accepts hs (.inr hplay) hparse (if_neg hnone), rfl, fun x => foldl_put_get es s.bsc.roles x⟩
  · have hlen : (before.flatMap roleBytes ++ bad ++ after).length % 4 = 0
        ∧ 4 ≤ (before.flatMap roleBytes ++ bad ++ after).length
        ∧ (before.flatMap roleBytes ++ bad ++ after).length ≤ 128 := by
      simp only [List.length_append, roleBytes_length]
      omega
    refine (htakes _).refuses_outOfRange hs (.inr hplay) ?_
    unfold parseLoadRoles
    rw [if_pos hlen, List.append_assoc, roleEntries_append, roleEntries_bad after bad hbad hno]
    rfl

end Sys2Proof.Machine

/-! PROOF. The requests of the scene store and of the bellows: modes, scenes, cues, registers, definitions, Set Bellows
(R34, R40 to R51, R57, R58, R102). -/

namespace Sys2Proof.Machine

/-- Work that does not read the link, and so leaves it alone, does to the part what it does before the check byte. -/
theorem State.rxDone_comm {f : State → State} {s : State} (hf : ∀ m, f (s.setMlk m) = (f s).setMlk m) :
    f s.rxDone = (f s).rxDone := by
  have hself : f s = (f s).setMlk s.mlk := hf s.mlk
  have hmlk := congrArg State.mlk hself
  rw [State.setMlk_mlk] at hmlk
  refine (hf s.rxDone.mlk).trans ?_
  unfold State.rxDone
  rw [hmlk]
  rfl

/-! ## Set Section Modes -/

theorem withSettings_voiceWork (a : Settings) (s : State) : OnlyVoiceWork (s.setSettings a) (s.withSettings a) := by
  rw [← applySettings_eq]
  exact applySettings_voiceWork a s

theorem voicedOf_nil {s : State} (h : ∀ x : Crosspoint, s.vtb.voicedAs[x] = none) (p : Sect → Bool) :
    s.voicedOf p = [] := by
  unfold State.voicedOf
  rw [List.filter_eq_nil_iff]
  intro x _
  rw [h x]
  exact Bool.false_ne_true

/-- Settles O23: the owner applies the settings with the two modes, which differ in the modes alone. -/
theorem setSectionModesWritesBoth : Obligations.SetSectionModesWritesBoth := by
  unfold Obligations.SetSectionModesWritesBoth
  rintro tag s ⟨hs, hplay⟩
  have htakes : ∀ p, Takes (.setSectionModes tag p) 0x10 tag false (parseSectionModes p) setSectionModesOwner :=
    fun _ _ => rfl
  refine ⟨fun treble bass u hu => ?_, fun a b hbad => ?_⟩
  · have hparse : parseSectionModes [treble.byte, bass.byte] = .fields (treble, bass) := by
      rw [parseSectionModes, modeField_byte, modeField_byte]
      rfl
    have happly : applySettings { s.sst.live.settings with trebleMode := treble, bassMode := bass } s
        = reexpand false s.bfe.bd (s.voicedOf fun
              | .treble => treble != s.sst.live.settings.trebleMode
              | .bass => bass != s.sst.live.settings.bassMode) u := by
      have hsections : (s.sst.live.settings.differs
            { s.sst.live.settings with trebleMode := treble, bassMode := bass })
          = fun
              | .treble => treble != s.sst.live.settings.trebleMode
              | .bass => bass != s.sst.live.settings.bassMode := by
        funext c
        cases c <;> simp [Settings.differs, bne_comm]
      rw [applySettings_eq, State.withSettings, hsections, hu]
    refine ⟨_, (htakes _).accepts hs (.inr hplay) hparse
      (congrArg (Verdict.accept · [])
        (State.rxDone_comm (f := applySettings _) (applySettings_setMlk s · _))), ?_, happly, fun ht hb => ?_, fun hnone => ?_⟩
    · rw [hu]
      exact applySettings_voiceWork _ s
    · subst ht hb
      have hnone : (fun
          | .treble => s.sst.live.settings.trebleMode != s.sst.live.settings.trebleMode
          | .bass => s.sst.live.settings.bassMode != s.sst.live.settings.bassMode : Sect → Bool)
          = fun _ => false := by
        funext c
        cases c <;> simp
      refine happly.trans ?_
      rw [hnone, State.voicedOf_none, reexpand_nil, hu]
    · refine happly.trans ?_
      rw [voicedOf_nil hnone, reexpand_nil]
  · refine (htakes _).refuses_outOfRange hs (.inr hplay) ?_
    rw [parseSectionModes]
    rcases hbad with ha | hb
    · rw [modeField_none ha]
      rfl
    · rw [modeField_none hb]
      cases modeField a <;> rfl

/-! ## Select Register -/

theorem selectRegisterIn_same {c : Sect} {n : RegNo} {s : State} (h : s.sst.live.settings.reg c = n) :
    selectRegisterIn c n s = s := if_pos h

theorem selectRegisterIn_other {c : Sect} {n : RegNo} {s : State} (h : s.sst.live.settings.reg c ≠ n) :
    selectRegisterIn c n s = reexpand false s.bfe.bd (s.voicedOf fun d => d == c)
      (s.setSettings (s.sst.live.settings.withReg c n)) :=
  (if_neg h).trans (sectionReexpand_eq _ _)

theorem selectRegisterIn_voiceWork (c : Sect) (n : RegNo) (s : State) :
    OnlyVoiceWork (s.setSettings (s.sst.live.settings.withReg c n)) (selectRegisterIn c n s) := by
  by_cases h : s.sst.live.settings.reg c = n
  · rw [selectRegisterIn_same h]
    have hsame : s.sst.live.settings.withReg c n = s.sst.live.settings := by
      subst h
      cases c <;> rfl
    rw [hsame]
    exact OnlyVoiceWork.refl s
  · rw [selectRegisterIn_other h]
    exact reexpand_voiceWork _ _ _ _

/-- Settles O30: the request's owner is the selection in its section, and a selection writes the register and re-expands
the section unless the register is active already. -/
theorem selectRegisterChangesOneSection : Obligations.SelectRegisterChangesOneSection := by
  unfold Obligations.SelectRegisterChangesOneSection
  refine ⟨fun tag n s ⟨hs, hplay⟩ => ?_, fun n s => ⟨fun h => ?_, fun h u hu => ?_, fun h => ?_, fun h u hu => ?_⟩⟩
  · have htakes : ∀ p, Takes (.selectRegister tag p) 0x1D tag false (parseSelectRegister p)
      (fun a s => .accept (selectRegisterIn a.1 a.2 s) []) := fun _ _ => rfl
    have hparse : ∀ c : Sect, parseSelectRegister [c.byte, byte n.val] = .fields (c, n) := fun c => by
      rw [parseSelectRegister, sectField_byte, field_byte (by decide)]
      rfl
    have haccepts : ∀ c : Sect, Accepts (.selectRegister tag [c.byte, byte n.val]) s (selectRegisterIn c n s) 0x1D tag [] :=
      fun c => (htakes _).accepts hs (.inr hplay) (hparse c)
        (congrArg (Verdict.accept · []) (State.rxDone_comm (f := selectRegisterIn c n) (selectRegisterIn_setMlk s · c n)))
    refine ⟨⟨_, haccepts .treble, rfl, selectRegisterIn_voiceWork .treble n s⟩,
      ⟨_, haccepts .bass, rfl, selectRegisterIn_voiceWork .bass n s⟩, fun a b hbad => ?_⟩
    refine (htakes _).refuses_outOfRange hs (.inr hplay) ?_
    rw [parseSelectRegister]
    rcases hbad with ha | hb
    · rw [sectField_none ha]
      rfl
    · rw [field_of_le hb]
      cases sectField a <;> rfl
  · exact selectRegisterIn_same (c := .treble) h
  · rw [hu]
    exact selectRegisterIn_other (c := .treble) h
  · exact selectRegisterIn_same (c := .bass) h
  · rw [hu]
    exact selectRegisterIn_other (c := .bass) h

/-! ## Override definitions -/

theorem mode_byte_ne (m : Mode) : m.byte ≠ 0xFF := by cases m <;> decide

theorem overrideFields_bytes {d : OverrideDef} (h : -24 ≤ d.delta) (h' : d.delta ≤ 24) :
    overrideFields (keepByte (fun n => byte n.val) d.target) (keepByte (fun n => byte n.val) d.trebleReg)
      (keepByte (fun n => byte n.val) d.bassReg) (signedByte d.delta) (keepByte Mode.byte d.trebleMode)
      (keepByte Mode.byte d.bassMode) = some d := by
  have hfield : ∀ a : Fin 16, field 16 (byte a.val) = some a := field_byte (by decide)
  have hne : ∀ a : Fin 16, byte a.val ≠ 0xFF := byte_fin_ne (by decide)
  unfold overrideFields
  rw [keepField_keepByte hfield hne, keepField_keepByte hfield hne, keepField_keepByte hfield hne,
    signedField_signedByte (by decide) (by decide) h h', keepField_keepByte modeField_byte mode_byte_ne,
    keepField_keepByte modeField_byte mode_byte_ne]
  rfl

theorem overrideFields_none {target treble bass delta trebleMode bassMode : Byte}
    (h : DefinitionOutOfRange target treble bass delta trebleMode bassMode) :
    overrideFields target treble bass delta trebleMode bassMode = none := by
  have hfield : ∀ {b : Byte}, KeepByteOutOfRange 15 b → keepField (field 16) b = none :=
    keepField_none field_of_le
  have hmode : ∀ {b : Byte}, KeepByteOutOfRange 1 b → keepField modeField b = none := keepField_none modeField_none
  unfold overrideFields
  rcases h with h | h | h | h | h | h
  · rw [hfield h]
    rfl
  · rw [hfield h]
    cases keepField (field 16) target <;> rfl
  · rw [hfield h]
    cases keepField (field 16) target <;> cases keepField (field 16) treble <;> rfl
  · rw [signedField_none h]
    cases keepField (field 16) target <;> cases keepField (field 16) treble <;> cases keepField (field 16) bass <;> rfl
  · rw [hmode h]
    cases keepField (field 16) target <;> cases keepField (field 16) treble <;> cases keepField (field 16) bass <;>
      cases signedField (-24) 24 delta <;> rfl
  · rw [hmode h]
    cases keepField (field 16) target <;> cases keepField (field 16) treble <;> cases keepField (field 16) bass <;>
      cases signedField (-24) 24 delta <;> cases keepField modeField trebleMode <;> rfl

/-- Settles O31: the seven bytes read as the number and the definition they spell. -/
theorem loadOverrideReplacesTheDefinition : Obligations.LoadOverrideReplacesTheDefinition := by
  unfold Obligations.LoadOverrideReplacesTheDefinition
  rintro tag s ⟨hs, hplay⟩
  have htakes : ∀ p, Takes (.loadOverride tag p) 0x1E tag false (parseLoadOverride p) loadOverrideOwner := fun _ _ => rfl
  refine ⟨fun n d h h' => (htakes _).accepts hs (.inr hplay) (a := (n, d)) ?_ rfl,
    fun n target treble bass delta trebleMode bassMode hbad => (htakes _).refuses_outOfRange hs (.inr hplay) ?_⟩
  · rw [overrideBytes, parseLoadOverride, overrideFields_bytes h h', field_byte (by decide)]
    rfl
  · rw [parseLoadOverride]
    rcases hbad with hn | hbad
    · rw [field_of_le hn]
      rfl
    · rw [overrideFields_none hbad]
      cases field 4 n <;> rfl

/-! ## The armed cue -/

theorem fieldIn_mask {hi : Nat} {b : Byte} (h : b ≠ 0) (h' : b.toNat ≤ hi) : fieldIn 1 hi b = some b.toNat := by
  have hpos : 1 ≤ b.toNat := Nat.pos_of_ne_zero fun h0 => h (BitVec.eq_of_toNat_eq h0)
  exact fieldIn_of_mem ⟨hpos, h'⟩

theorem fieldIn_mask_none {hi : Nat} {b : Byte} (h : b = 0 ∨ hi < b.toNat) : fieldIn 1 hi b = none := by
  refine fieldIn_of_not_mem ?_
  rcases h with rfl | h
  · exact fun h => absurd h.1 (by decide)
  · omega

/-- Settles O26: the three bytes read as the cue, which replaces the armed one; Cancel Cue's owner looks at nothing but
whether one is armed. -/
theorem cueIsArmedAndCancelled : Obligations.CueIsArmedAndCancelled := by
  unfold Obligations.CueIsArmedAndCancelled
  rintro tag s ⟨hs, hplay⟩
  have harm : ∀ p, Takes (.armCue tag p) 0x19 tag false (parseArmCue p) armCueOwner := fun _ _ => rfl
  have hcancel : Takes (.cancelCue tag []) 0x1A tag false (parseEmpty []) cancelCueOwner := fun _ => rfl
  refine ⟨fun target triggers items => ⟨fun hbad => ?_, fun htarget ht ht' hi hi' => ?_⟩, fun h => ?_, fun h => ?_⟩
  · refine (harm _).refuses_outOfRange hs (.inr hplay) ?_
    rw [parseArmCue]
    rcases hbad with h | h | h | h | h
    · rw [field_of_le h]
      rfl
    · rw [fieldIn_mask_none (.inl h)]
      cases field 16 target <;> rfl
    · rw [fieldIn_mask_none (.inr h)]
      cases field 16 target <;> rfl
    · rw [fieldIn_mask_none (.inl h)]
      cases field 16 target <;> cases fieldIn 1 15 triggers <;> rfl
    · rw [fieldIn_mask_none (.inr h)]
      cases field 16 target <;> cases fieldIn 1 15 triggers <;> rfl
  · have hfield : field 16 target = some (Fin.ofNat 16 target.toNat) := by
      rw [field, dif_pos (by omega)]
      exact congrArg some (Fin.ext (Nat.mod_eq_of_lt (by omega)).symm)
    have hparse : parseArmCue [target, triggers, items]
        = .fields ⟨Fin.ofNat 16 target.toNat, triggers.setWidth 4, items.setWidth 3⟩ := by
      rw [parseArmCue, hfield, fieldIn_mask ht ht', fieldIn_mask hi hi']
      simp only [Option.bind_eq_bind, Option.bind_some, BitVec.ofNat_toNat]
      rfl
    have hdata : [byteOfBool s.sst.armed.isSome] = [if s.sst.armed = none then 0 else 1] := by
      cases s.sst.armed <;> rfl
    exact (harm _).accepts hs (.inr hplay) hparse (congrArg (Verdict.accept _) hdata)
  · have hno : ¬ s.rxDone.sst.armed.isSome = true := by rw [State.rxDone_sst, h]; exact Bool.false_ne_true
    exact hcancel.refuses hs (.inr hplay) rfl (if_neg hno)
  · have hsome : s.rxDone.sst.armed.isSome = true := Option.isSome_iff_ne_none.mpr h
    exact hcancel.accepts hs (.inr hplay) rfl (if_pos hsome)

end Sys2Proof.Machine

/-! PROOF. The requests that load scenes, and Set Bellows (R40 to R42, R102). -/

namespace Sys2Proof.Machine

/-! ## A field that is read is in its range -/

theorem Parsed.outOfRange_of_none {α : Type} {o : Option α} (h : ∀ a, o ≠ some a) : Parsed.ofOption o = .outOfRange := by
  rw [Option.eq_none_iff_forall_ne_some.mpr h]
  rfl

theorem lt_of_field {n : Nat} {b : Byte} {i : Fin n} (h : field n b = some i) : b.toNat < n := by
  by_contra hn
  rw [field_of_le (Nat.le_of_not_lt hn)] at h
  cases h

theorem le_of_modeField {b : Byte} {m : Mode} (h : modeField b = some m) : b.toNat ≤ 1 := by
  by_contra hn
  rw [modeField_none (Nat.lt_of_not_le hn)] at h
  cases h

theorem le_of_sectField {b : Byte} {c : Sect} (h : sectField b = some c) : b.toNat ≤ 1 := by
  by_contra hn
  rw [sectField_none (Nat.lt_of_not_le hn)] at h
  cases h

theorem le_of_flagField {b : Byte} {f : Bool} (h : flagField b = some f) : b.toNat ≤ 1 := by
  by_contra hn
  rw [flagField_none (Nat.lt_of_not_le hn)] at h
  cases h

theorem mem_of_signedField {lo hi : Int} {b : Byte} {v : Int} (h : signedField lo hi b = some v) :
    lo ≤ b.toInt ∧ b.toInt ≤ hi := by
  by_contra hn
  rw [signedField_none (by omega)] at h
  cases h

theorem mem_of_wordField {lo hi : Nat} {b c : Byte} {n : Nat} (h : wordField lo hi b c = some n) :
    lo ≤ word16 b c ∧ word16 b c ≤ hi := by
  obtain ⟨rfl, hn⟩ := wordField_some h
  exact hn

theorem mem_of_fieldIn {lo hi : Nat} {b : Byte} {n : Nat} (h : fieldIn lo hi b = some n) : lo ≤ b.toNat ∧ b.toNat ≤ hi := by
  by_contra hn
  rw [fieldIn_of_not_mem hn] at h
  cases h

theorem zero_of_word16 {h l : Byte} (hh : h = 0) (hl : l = 0) : word16 h l = 0 := by
  subst hh hl
  rfl

/-! ## Load Layer -/

theorem setWidth_toNat {w : Nat} (hw : w ≤ 8) (m : BitVec w) : (m.setWidth 8).toNat = m.toNat := by
  have hlt := m.isLt
  have hpow : 2 ^ w ≤ 2 ^ 8 := Nat.pow_le_pow_right (by decide) hw
  rw [BitVec.toNat_setWidth, Nat.mod_eq_of_lt (by omega)]

theorem rowMaskField_bits (c : Sect) {m : BitVec 6} (ht : c = .treble → m = 0) (hb : c = .bass → m ≠ 0) :
    rowMaskField c (m.setWidth 8) = some m := by
  cases c with
  | treble =>
    rw [ht rfl]
    rfl
  | bass =>
    have hm := setWidth_toNat (by decide) m
    have hlt := m.isLt
    have hpos : 1 ≤ m.toNat := Nat.pos_of_ne_zero fun h => hb rfl (BitVec.eq_of_toNat_eq h)
    have hrange : 1 ≤ (m.setWidth 8).toNat ∧ (m.setWidth 8).toNat ≤ 63 := by omega
    refine (if_pos hrange).trans (congrArg some (BitVec.eq_of_toNat_eq ?_))
    rw [BitVec.toNat_setWidth, hm, Nat.mod_eq_of_lt hlt]

theorem fieldIn_bits {w : Nat} (hw : w ≤ 8) {m : BitVec w} (h : m ≠ 0) :
    fieldIn 1 (2 ^ w - 1) (m.setWidth 8) = some m.toNat := by
  have hm := setWidth_toNat hw m
  have hlt := m.isLt
  have hne : m.setWidth 8 ≠ 0 := fun h0 => h (BitVec.eq_of_toNat_eq (by rw [← hm, h0]; rfl))
  rw [fieldIn_mask hne (by omega), hm]

theorem wordField_regMask {m : BitVec 16} (h : m ≠ 0) :
    wordField 1 65535 (byte (m.toNat / 256)) (byte m.toNat) = some m.toNat := by
  have hpos : 1 ≤ m.toNat := Nat.pos_of_ne_zero fun h0 => h (BitVec.eq_of_toNat_eq h0)
  exact wordField_bytes16 (by decide) hpos (by omega)

theorem parseLoadLayer_fields (n : SceneNo) (i : LayerPos) {l : Layer} (h : l.Valid) :
    parseLoadLayer (layerBytes n i l) = .fields (n, i, l) := by
  obtain ⟨htreble, hbass, hregs, hlanes, ⟨hlo, hhi⟩, hkeys⟩ := h
  have hprogram : wordField 0 16383 (byte (l.program.val / 256)) (byte l.program.val) = some l.program.val :=
    wordField_bytes16 (by decide) (Nat.zero_le _) (by omega)
  have hlanes' : fieldIn 1 15 (l.laneMask.setWidth 8) = some l.laneMask.toNat := fieldIn_bits (by decide) hlanes
  have hkeys' : l.keyLow.val ≤ l.keyHigh.val := hkeys
  change parseLoadLayer [byte n.val, byte i.val, l.sect.byte, l.rowMask.setWidth 8, byte (l.regMask.toNat / 256),
    byte l.regMask.toNat, byte (l.program.val / 256), byte l.program.val, l.laneMask.setWidth 8, signedByte l.transpose,
    byte l.keyLow.val, byte l.keyHigh.val, byte l.priority.val, byteOfBool l.carry] = _
  rw [parseLoadLayer, field_byte (by decide), field_byte (by decide), sectField_byte]
  simp only [Option.bind_eq_bind, Option.bind_some, rowMaskField_bits l.sect htreble hbass, wordField_regMask hregs, hprogram,
    hlanes', signedField_signedByte (show (-128 : Int) ≤ -48 by decide) (show (48 : Int) ≤ 127 by decide) hlo hhi,
    field_byte (show 128 ≤ 256 by decide), field_byte (show 4 ≤ 256 by decide), flagField_byteOfBool, if_pos hkeys',
    BitVec.ofNat_toNat, BitVec.setWidth_eq]
  have hprog : Fin.ofNat 16384 l.program.val = l.program := Fin.ofNat_val_eq_self l.program
  rw [hprog]
  rfl

/-- A field of a Load Layer payload out of its range (R38, R40). -/
theorem parseLoadLayer_outOfRange
    {scene pos sect rows regsHi regsLo progHi progLo lanes transpose low high priority carry : Byte}
    (hbad : 15 < scene.toNat ∨ 7 < pos.toNat ∨ 1 < sect.toNat ∨ (sect = 0 ∧ rows ≠ 0)
      ∨ (sect = 1 ∧ (rows = 0 ∨ 63 < rows.toNat)) ∨ (regsHi = 0 ∧ regsLo = 0)
      ∨ 16383 < progHi.toNat * 256 + progLo.toNat ∨ lanes = 0 ∨ 15 < lanes.toNat
      ∨ transpose.toInt < -48 ∨ 48 < transpose.toInt ∨ 127 < low.toNat ∨ 127 < high.toNat
      ∨ high.toNat < low.toNat ∨ 3 < priority.toNat ∨ 1 < carry.toNat) :
    parseLoadLayer [scene, pos, sect, rows, regsHi, regsLo, progHi, progLo, lanes, transpose, low, high, priority, carry]
      = .outOfRange := by
  rw [parseLoadLayer]
  refine Parsed.outOfRange_of_none fun a ho => ?_
  obtain ⟨_, hscene, ho⟩ := Option.bind_eq_some_iff.mp ho
  obtain ⟨_, hpos, ho⟩ := Option.bind_eq_some_iff.mp ho
  obtain ⟨c, hsect, ho⟩ := Option.bind_eq_some_iff.mp ho
  obtain ⟨_, hrows, ho⟩ := Option.bind_eq_some_iff.mp ho
  obtain ⟨_, hregs, ho⟩ := Option.bind_eq_some_iff.mp ho
  obtain ⟨_, hprog, ho⟩ := Option.bind_eq_some_iff.mp ho
  obtain ⟨_, hlanes, ho⟩ := Option.bind_eq_some_iff.mp ho
  obtain ⟨_, htranspose, ho⟩ := Option.bind_eq_some_iff.mp ho
  obtain ⟨lo, hlow, ho⟩ := Option.bind_eq_some_iff.mp ho
  obtain ⟨hi, hhigh, ho⟩ := Option.bind_eq_some_iff.mp ho
  obtain ⟨_, hpriority, ho⟩ := Option.bind_eq_some_iff.mp ho
  obtain ⟨_, hcarry, ho⟩ := Option.bind_eq_some_iff.mp ho
  obtain ⟨hkeys, -⟩ := Option.ite_none_right_eq_some.mp ho
  have hlo : lo.val = low.toNat := by
    unfold field at hlow
    split at hlow <;> cases hlow
    rfl
  have hhi : hi.val = high.toNat := by
    unfold field at hhigh
    split at hhigh <;> cases hhigh
    rfl
  replace hscene := lt_of_field hscene
  replace hpos := lt_of_field hpos
  have hsect' := le_of_sectField hsect
  replace hregs := mem_of_wordField hregs
  replace hprog := mem_of_wordField hprog
  replace hlanes := mem_of_fieldIn hlanes
  replace htranspose := mem_of_signedField htranspose
  replace hlow := lt_of_field hlow
  replace hhigh := lt_of_field hhigh
  replace hpriority := lt_of_field hpriority
  replace hcarry := le_of_flagField hcarry
  rcases hbad with h | h | h | ⟨rfl, h⟩ | ⟨rfl, h⟩ | ⟨h, h'⟩ | h | rfl | h | h | h | h | h | h | h | h
  case inr.inr.inr.inl =>
    cases hsect
    exact h (Option.ite_none_right_eq_some.mp hrows).1
  case inr.inr.inr.inr.inl =>
    cases hsect
    obtain ⟨hrange, -⟩ := Option.ite_none_right_eq_some.mp hrows
    rcases h with rfl | h
    · exact absurd hrange.1 (by decide)
    · omega
  case inr.inr.inr.inr.inr.inl =>
    rw [zero_of_word16 h h'] at hregs
    omega
  case inr.inr.inr.inr.inr.inr.inl =>
    unfold word16 at hprog
    omega
  case inr.inr.inr.inr.inr.inr.inr.inl => exact absurd hlanes.1 (by decide)
  all_goals omega

/-! ## Set Scene Defaults -/

theorem parseSceneDefaults_eq (scene treble bass transpose trebleMode bassMode : Byte) : ∀ codes : List Byte,
    codes.length = 8 → parseSceneDefaults ([scene, treble, bass, transpose, trebleMode, bassMode] ++ codes)
      = .ofOption (do
        let scene ← field 16 scene
        let treble ← field 16 treble
        let bass ← field 16 bass
        let transpose ← signedField (-24) 24 transpose
        let tMode ← modeField trebleMode
        let bMode ← modeField bassMode
        let map ← tierMapFields codes
        pure (scene, { trebleReg := treble, bassReg := bass, transpose := transpose, trebleMode := tMode,
                       bassMode := bMode }, map)) := by
  iterate 8 refine forall_cons_of_length fun _ => ?_
  exact forall_nil_of_length rfl

theorem parseSceneDefaults_fields (n : SceneNo) {d : Settings} (map : Vector TierCode 8) (h : -24 ≤ d.transpose)
    (h' : d.transpose ≤ 24) :
    parseSceneDefaults ([byte n.val, byte d.trebleReg.val, byte d.bassReg.val, signedByte d.transpose, d.trebleMode.byte,
        d.bassMode.byte] ++ map.toList.map fun code => byte code.val) = .fields (n, d, map) := by
  have hl : (map.toList.map fun code => byte code.val).length = 8 := by
    rw [List.length_map]
    exact map.size_toArray
  rw [parseSceneDefaults_eq _ _ _ _ _ _ _ hl, tierMapFields_map, field_byte (by decide), field_byte (by decide),
    field_byte (by decide), signedField_signedByte (by decide) (by decide) h h', modeField_byte, modeField_byte]
  rfl

theorem parseSceneDefaults_outOfRange {scene treble bass transpose trebleMode bassMode : Byte} {codes : List Byte}
    (hl : codes.length = 8)
    (hbad : 15 < scene.toNat ∨ 15 < treble.toNat ∨ 15 < bass.toNat ∨ transpose.toInt < -24 ∨ 24 < transpose.toInt
      ∨ 1 < trebleMode.toNat ∨ 1 < bassMode.toNat ∨ ∃ code ∈ codes, 15 < code.toNat) :
    parseSceneDefaults ([scene, treble, bass, transpose, trebleMode, bassMode] ++ codes) = .outOfRange := by
  rw [parseSceneDefaults_eq _ _ _ _ _ _ _ hl]
  refine Parsed.outOfRange_of_none fun a ho => ?_
  obtain ⟨_, hscene, ho⟩ := Option.bind_eq_some_iff.mp ho
  obtain ⟨_, htreble, ho⟩ := Option.bind_eq_some_iff.mp ho
  obtain ⟨_, hbass, ho⟩ := Option.bind_eq_some_iff.mp ho
  obtain ⟨_, htranspose, ho⟩ := Option.bind_eq_some_iff.mp ho
  obtain ⟨_, htmode, ho⟩ := Option.bind_eq_some_iff.mp ho
  obtain ⟨_, hbmode, ho⟩ := Option.bind_eq_some_iff.mp ho
  obtain ⟨_, hmap, ho⟩ := Option.bind_eq_some_iff.mp ho
  replace hscene := lt_of_field hscene
  replace htreble := lt_of_field htreble
  replace hbass := lt_of_field hbass
  replace htranspose := mem_of_signedField htranspose
  replace htmode := le_of_modeField htmode
  replace hbmode := le_of_modeField hbmode
  rcases hbad with h | h | h | h | h | h | h | h
  case inr.inr.inr.inr.inr.inr.inr =>
    rw [tierMapFields_none h] at hmap
    cases hmap
  all_goals omega

theorem hasLayer_iff (c : Scene) : c.hasLayer = true ↔ ∃ i : LayerPos, c.layers[i] ≠ none := by
  have hmem : ∀ i : LayerPos, i ∈ allLayers := by decide
  unfold Scene.hasLayer
  rw [List.any_eq_true]
  exact ⟨fun ⟨i, _, hi⟩ => ⟨i, Option.isSome_iff_ne_none.mp hi⟩,
    fun ⟨i, hi⟩ => ⟨i, hmem i, Option.isSome_iff_ne_none.mpr hi⟩⟩

/-- Settles O25: each payload reads as the fields it spells, and each owner asks only for the scene's state. -/
theorem scenesAreLoadedWhilePartial : Obligations.ScenesAreLoadedWhilePartial := by
  unfold Obligations.ScenesAreLoadedWhilePartial
  rintro tag n c s ⟨hs, hplay⟩ rfl
  have hlayer : ∀ p, Takes (.loadLayer tag p) 0x15 tag false (parseLoadLayer p) loadLayerOwner := fun _ _ => rfl
  have hdefaults : ∀ p, Takes (.setSceneDefaults tag p) 0x16 tag false (parseSceneDefaults p) setSceneDefaultsOwner :=
    fun _ _ => rfl
  have hfinish : ∀ p, Takes (.finishScene tag p) 0x17 tag false (parseOne (field 16) p) finishSceneOwner := fun _ _ => rfl
  have hone : parseOne (field 16) [byte n.val] = .fields n := parseOne_fields (field_byte (by decide) n)
  refine ⟨fun i l hl => ⟨fun hc => ?_, fun hc => ?_⟩, fun d map p h h' hp => ⟨fun hc => ?_, fun hc => ?_⟩,
    fun hc hi => ?_, fun hc => ?_, ?_, ?_, fun b hb => ?_⟩
  · exact (hlayer _).accepts hs (.inr hplay) (parseLoadLayer_fields n i hl) (if_pos hc)
  · exact (hlayer _).refuses hs (.inr hplay) (parseLoadLayer_fields n i hl) (if_neg hc)
  · rw [hp]
    exact (hdefaults _).accepts hs (.inr hplay) (parseSceneDefaults_fields n map h h') (if_pos hc)
  · rw [hp]
    exact (hdefaults _).refuses hs (.inr hplay) (parseSceneDefaults_fields n map h h') (if_neg hc)
  · exact (hfinish _).accepts hs (.inr hplay) hone (if_pos ⟨hc, (hasLayer_iff _).mpr hi⟩)
  · refine (hfinish _).refuses hs (.inr hplay) hone (if_neg ?_)
    rintro ⟨hstate, hhas⟩
    obtain ⟨i, hi⟩ := (hasLayer_iff _).mp hhas
    exact hc.elim (fun hc => hc hstate) fun hno => hi (hno i)
  · intro scene pos sect rows regsHi regsLo progHi progLo lanes transpose low high priority carry hbad
    exact (hlayer _).refuses_outOfRange hs (.inr hplay) (parseLoadLayer_outOfRange hbad)
  · intro scene treble bass transpose trebleMode bassMode codes hl hbad
    exact (hdefaults _).refuses_outOfRange hs (.inr hplay) (parseSceneDefaults_outOfRange hl hbad)
  · exact (hfinish _).refuses_outOfRange hs (.inr hplay) (parseOne_outOfRange (field_of_le hb))

/-! ## Set Bellows -/

theorem parseSetBellows_length_ne {p : List Byte} (h : p.length ≠ 8) : parseSetBellows p = .badLength := by
  unfold parseSetBellows
  split
  · exact absurd rfl h
  · rfl

theorem speedField_of_mem {k : Byte} (h : k.toNat = 4 ∨ k.toNat = 6 ∨ k.toNat = 8) :
    speedField k = some (if k.toNat = 4 then .k4 else if k.toNat = 6 then .k6 else .k8) := by
  unfold speedField
  rcases h with h | h | h <;> simp only [h] <;> rfl

theorem speedField_none {k : Byte} (h : k.toNat ≠ 4 ∧ k.toNat ≠ 6 ∧ k.toNat ≠ 8) : speedField k = none := by
  obtain ⟨h4, h6, h8⟩ := h
  unfold speedField
  split
  case h_1 hk => exact absurd hk h4
  case h_2 hk => exact absurd hk h6
  case h_3 hk => exact absurd hk h8
  case h_4 => rfl

theorem mem_of_speedField {k : Byte} {v : Speed} (h : speedField k = some v) : k.toNat = 4 ∨ k.toNat = 6 ∨ k.toNat = 8 := by
  by_contra hn
  rw [speedField_none (by omega)] at h
  cases h

theorem flagField_of_le {b : Byte} (h : b.toNat ≤ 1) : flagField b = some (b != 0) := by
  rcases Nat.le_one_iff_eq_zero_or_eq_one.mp h with h | h
  · rw [toNat_eq_byte h]
    rfl
  · rw [toNat_eq_byte h]
    rfl

theorem parseSetBellows_fields {mode k tsHi tsLo nr : Byte} (offHi offLo hr : Byte) (hm : mode.toNat ≤ 1)
    (hk : k.toNat = 4 ∨ k.toNat = 6 ∨ k.toNat = 8) (hts : tsHi.toNat * 256 + tsLo.toNat ≤ 32767) (hnr : nr ≠ 0)
    (hnr' : nr.toNat ≤ 64) :
    parseSetBellows [mode, offHi, offLo, k, tsHi, tsLo, nr, hr]
      = .fields ⟨if mode = 0 then .track else .fixed, (offHi ++ offLo : BitVec 16).toInt,
          if k.toNat = 4 then .k4 else if k.toNat = 6 then .k6 else .k8,
          tsHi.toNat * 256 + tsLo.toNat, nr.toNat, hr.toNat⟩ := by
  have hword : wordField 0 32767 tsHi tsLo = some (word16 tsHi tsLo) := wordField_of_mem (Nat.zero_le _) hts
  have hmode : (if (mode != 0) = true then OffsetMode.fixed else .track) = if mode = 0 then .track else .fixed := by
    by_cases h : mode = 0 <;> simp [h]
  rw [parseSetBellows, flagField_of_le hm, speedField_of_mem hk, hword, fieldIn_mask hnr hnr', append_toInt, ← hmode]
  rfl

theorem parseSetBellows_outOfRange {mode k tsHi tsLo nr : Byte} (offHi offLo hr : Byte)
    (hbad : 1 < mode.toNat ∨ (k.toNat ≠ 4 ∧ k.toNat ≠ 6 ∧ k.toNat ≠ 8) ∨ 32767 < tsHi.toNat * 256 + tsLo.toNat
      ∨ nr = 0 ∨ 64 < nr.toNat) :
    parseSetBellows [mode, offHi, offLo, k, tsHi, tsLo, nr, hr] = .outOfRange := by
  rw [parseSetBellows]
  refine Parsed.outOfRange_of_none fun a ho => ?_
  obtain ⟨_, hmode, ho⟩ := Option.bind_eq_some_iff.mp ho
  obtain ⟨_, hspeed, ho⟩ := Option.bind_eq_some_iff.mp ho
  obtain ⟨_, hstill, ho⟩ := Option.bind_eq_some_iff.mp ho
  obtain ⟨_, hconfirm, ho⟩ := Option.bind_eq_some_iff.mp ho
  replace hmode := le_of_flagField hmode
  replace hspeed := mem_of_speedField hspeed
  replace hstill := mem_of_wordField hstill
  replace hconfirm := mem_of_fieldIn hconfirm
  unfold word16 at hstill
  rcases hbad with h | h | h | rfl | h
  case inr.inr.inr.inl => exact absurd hconfirm.1 (by decide)
  all_goals omega

/-- Settles O42: length, halt and ranges are the request's checks, and its owner writes the front end's settings. -/
theorem setBellowsStoresSettings : Obligations.SetBellowsStoresSettings := by
  unfold Obligations.SetBellowsStoresSettings
  intro tag mode offHi offLo k tsHi tsLo nr hr p s hs hp
  subst hp
  have htakes : ∀ p, Takes (.setBellows tag p) 0x22 tag false (parseSetBellows p) setBellowsOwner := fun _ _ => rfl
  refine ⟨fun q hq => (htakes q).refuses_badLength hs (parseSetBellows_length_ne hq),
    (htakes _).refuses_halted hs (Parsed.ofOption_ne_badLength _),
    fun hplay hbad => (htakes _).refuses_outOfRange hs (.inr hplay) (parseSetBellows_outOfRange offHi offLo hr hbad),
    fun hplay hm hk hts hnr hnr' t ht => ?_⟩
  refine (htakes _).accepts hs (.inr hplay) (parseSetBellows_fields offHi offLo hr hm hk hts hnr hnr') ?_
  rw [ht]
  by_cases h0 : mode = 0
  · simp only [h0, if_true]
    rfl
  · simp only [h0, if_false]
    rfl

end Sys2Proof.Machine

/-! PROOF. The requests that report, and the mask and the meter (R16, R84, R160, R185 to R190). -/

namespace Sys2Proof.Machine

/-! ## Read Buttons and Read Voices -/

theorem byteOfBool_decide (p : Prop) [Decidable p] : byteOfBool (decide p) = if p then 1 else 0 := by
  by_cases h : p <;> simp [byteOfBool, h]

theorem filter_pressed (s : State) (first : Byte) :
    (List.finRange 256).filter (fun x : Crosspoint => first.toNat ≤ x.val ∧ s.bsc.buttons[x].pressed = true)
      = allCrosspoints.filter fun x => (⟨first.toNat, first.isLt⟩ : Crosspoint) ≤ x && s.bsc.buttons[x].pressed := by
  refine List.filter_congr fun x _ => ?_
  rw [Bool.decide_and, Bool.decide_eq_true]
  rfl

theorem filter_voices (s : State) (first : Slot) :
    (List.finRange 48).filter (fun v : Slot => first.val ≤ v.val ∧ s.vtb.voices[v].state ≠ .free)
      = allSlots.filter fun v => first ≤ v && s.vtb.voices[v].state != .free := by
  refine List.filter_congr fun v _ => ?_
  rw [Bool.decide_and, decide_not, bne, beq_eq_decide]
  rfl

theorem voiceEntry_eq (v : Slot) (y : Voice) :
    voiceEntry v y = [byte v.val,
      match y.state, y.origin with
        | .owed, .live => 3
        | .owed, .orphan => 4
        | _, .live => 1
        | _, .orphan => 2,
      byte y.layer.val, byte y.pitch.val, byte (y.lanes.toNat + 16 * y.owed.toNat), byte y.holders.length,
      match y.holders with | [] => 0 | x :: _ => byte x.val] := by
  have hcondition : byte y.condition = match y.state, y.origin with
      | .owed, .live => 3
      | .owed, .orphan => 4
      | _, .live => 1
      | _, .orphan => 2 := by
    unfold Voice.condition
    cases y.state <;> cases y.origin <;> rfl
  have hfirst : (match y.holders with | x :: _ => byte x.val | [] => 0)
      = match y.holders with | [] => 0 | x :: _ => byte x.val := by
    cases y.holders <;> rfl
  unfold voiceEntry
  rw [hcondition]
  exact congrArg (fun b => [byte v.val, _, byte y.layer.val, byte y.pitch.val,
    byte (y.lanes.toNat + 16 * y.owed.toNat), byte y.holders.length, b]) hfirst

/-- Settles O37: both owners accept with the state they were given and its report. -/
theorem readsReportAndChangeNothing : Obligations.ReadsReportAndChangeNothing := by
  unfold Obligations.ReadsReportAndChangeNothing
  intro tag s hs
  have hbuttons : ∀ p, Takes (.readButtons tag p) 0x0A tag true (parseOne (field 256) p)
    (fun first s => .accept s (s.buttonReport first)) := fun _ _ => rfl
  have hvoices : ∀ p, Takes (.readVoices tag p) 0x20 tag true (parseOne (field 48) p)
    (fun first s => .accept s (s.voiceReport first)) := fun _ _ => rfl
  refine ⟨fun first found hfound => ?_, fun b hb => ?_, fun first found hfound => ?_⟩
  · have hfield : field 256 first = some ⟨first.toNat, first.isLt⟩ := dif_pos first.isLt
    refine (hbuttons _).accepts hs (.inl rfl) (parseOne_fields hfield) (congrArg (Verdict.accept _) ?_)
    have hreport : s.rxDone.buttonReport ⟨first.toNat, first.isLt⟩
        = bytes16 s.bsc.held ++ [byte s.bsc.interval, byte s.bsc.depth, byteOfBool (64 < found.length),
            byte (found.take 64).length] ++ (found.take 64).map fun x => byte x.val := by
      rw [hfound, filter_pressed]
      rfl
    rw [hreport, List.length_take, byteOfBool_decide]
    rfl
  · exact (hvoices _).refuses_outOfRange hs (.inl rfl) (parseOne_outOfRange (field_of_le hb))
  · refine (hvoices _).accepts hs (.inl rfl) (parseOne_fields (field_byte (by decide) first))
      (congrArg (Verdict.accept _) ?_)
    have hreport : s.rxDone.voiceReport first
        = [byteOfBool (32 < found.length), byte (found.take 32).length]
          ++ (found.take 32).flatMap fun v => voiceEntry v s.vtb.voices[v] := by
      rw [hfound, filter_voices]
      rfl
    rw [hreport, List.length_take, byteOfBool_decide]
    exact congrArg (_ ++ ·) (congrArg (found.take 32).flatMap (funext fun v => voiceEntry_eq v _))

/-! ## The notice mask -/

theorem parseNoticeMask_eq (h l : Byte) :
    parseNoticeMask [h, l]
      = .ofOption (if (h ++ l : BitVec 16) &&& 0xE003 = 0 then some (h ++ l : BitVec 16) else none) := by
  rw [parseNoticeMask, append_eq_ofNat]

/-! ## The meter -/

theorem parseSetMeter_fields {interval : Nat} {items : List MeterItem} (hi : interval = 0 ∨ (10 ≤ interval ∧ interval ≤ 10000))
    (h : 1 ≤ items.length) (h' : items.length ≤ 8) :
    parseSetMeter (bytes16 interval ++ items.map fun i => byte i.val) = .fields (interval, items) := by
  have hl : 1 ≤ (items.map fun i => byte i.val).length ∧ (items.map fun i => byte i.val).length ≤ 8 := by
    rw [List.length_map]
    exact ⟨h, h'⟩
  have hfields : allFields (field 10) (items.map fun i => byte i.val) = some items :=
    allFields_map fun i _ => field_byte (by decide) i
  change parseSetMeter (byte (interval / 256) :: byte interval :: items.map fun i => byte i.val) = _
  rw [parseSetMeter, if_pos hl, hfields, word16_bytes16 (by omega)]
  exact congrArg Parsed.ofOption (if_pos hi)

theorem parseSetMeter_outOfRange {interval : Nat} {items : List Byte} (hi : interval < 65536) (h : 1 ≤ items.length)
    (h' : items.length ≤ 8) (hbad : (1 ≤ interval ∧ interval ≤ 9) ∨ 10000 < interval ∨ ∃ i ∈ items, 9 < i.toNat) :
    parseSetMeter (bytes16 interval ++ items) = .outOfRange := by
  change parseSetMeter (byte (interval / 256) :: byte interval :: items) = _
  rw [parseSetMeter, if_pos ⟨h, h'⟩, word16_bytes16 hi]
  refine Parsed.outOfRange_of_none fun a ho => ?_
  obtain ⟨_, hitems, ho⟩ := Option.bind_eq_some_iff.mp ho
  obtain ⟨hrange, -⟩ := Option.ite_none_right_eq_some.mp ho
  rcases hbad with hbad | hbad | ⟨i, hmem, hitem⟩
  · omega
  · omega
  · rw [allFields_none hmem (field_of_le hitem)] at hitems
    cases hitems

theorem sensorFlag_eq (b : Bellows) :
    (byte (b.bd.code + if b.sensor = .ok then 0 else 2))
      = (match b.bd with | .push => (0 : Byte) | .pull => 1) + if b.lost = true ∨ b.railFault = true then 2 else 0 := by
  unfold Bellows.sensor
  cases b.bd <;> cases b.lost <;> cases b.railFault <;> rfl

/-- The values of the meter items (R189). -/
theorem itemValue_eq (s : State) (i : MeterItem) :
    s.itemValue i = match i with
      | 0 => bytes16 s.dyn.level.val
      | 1 => [byte (s.dyn.level.val / 8192)]
      | 2 => [byte (s.sst.live.tierMap[tierOf s.dyn.level]).val]
      | 3 => [byte s.dyn.expr.val]
      | 4 => bytes16 s.dyn.average
      | 5 => bytes16s (s.bfe.acc / 256)
      | 6 => [(match s.bfe.bd with | .push => 0 | .pull => 1)
          + if s.bfe.lost = true ∨ s.bfe.railFault = true then 2 else 0]
      | 7 => [byte ((List.finRange 48).filter fun v => s.vtb.voices[v].state = .sounding).length]
      | 8 => [byte ((List.finRange 48).map fun v =>
          (([0, 1, 2, 3] : List LaneNo).filter fun n => s.vtb.voices[v].owed.getLsbD n.val).length).sum]
      | 9 => bytes16 s.bsc.held := by
  unfold State.itemValue
  split <;> try rfl
  · exact congrArg (fun b => [b]) (sensorFlag_eq s.bfe)

/-- Settles O53: each request's payload reads as its fields, and a snapshot gives the items' values. -/
theorem maskAndMeterRequests : Obligations.MaskAndMeterRequests := by
  unfold Obligations.MaskAndMeterRequests
  intro tag s
  have hmask : ∀ p, Takes (.setNoticeMask tag p) 0x04 tag false (parseNoticeMask p) setNoticeMaskOwner := fun _ _ => rfl
  have hmeter : ∀ p, Takes (.setMeter tag p) 0x05 tag false (parseSetMeter p) setMeterOwner := fun _ _ => rfl
  have hread : Takes (.readMeter tag []) 0x06 tag true (parseEmpty []) (fun _ s => .accept s s.snapshot) := fun _ => rfl
  refine ⟨fun h l ⟨hs, hplay⟩ => ⟨fun hbits => ?_, fun hbits => ?_⟩, fun interval items ⟨hs, hplay⟩ hi h h' => ?_,
    fun interval items ⟨hs, hplay⟩ hi h h' hbad => ?_, fun snapshot hsnapshot => ?_⟩
  · refine (hmask _).refuses_outOfRange hs (.inr hplay) ?_
    rw [parseNoticeMask_eq, if_neg hbits]
    rfl
  · refine (hmask _).accepts hs (.inr hplay) (a := h ++ l) ?_ (congrArg (Verdict.accept _) (bytes16_append h l))
    rw [parseNoticeMask_eq, if_pos hbits]
    rfl
  · exact (hmeter _).accepts hs (.inr hplay) (parseSetMeter_fields hi h h') rfl
  · exact (hmeter _).refuses_outOfRange hs (.inr hplay) (parseSetMeter_outOfRange hi h h' hbad)
  · have hsnap : s.snapshot = snapshot := by
      rw [hsnapshot]
      exact congrArg (fun f => byte s.ntu.items.length :: s.ntu.items.flatMap f)
        (funext fun i => congrArg (byte i.val :: ·) (itemValue_eq s i))
    have hdue : ∀ b : Bool, s.ntu.meterDue = b → exec .meterExpiry s = .next (if b = true then
        (({ s with ntu := { s.ntu with meterTimer := some 0 } } : State).raise (.meter s.snapshot)).arbitrate
        else s) := fun b hb => by subst hb; rfl
    refine ⟨fun hs => hread.accepts hs (.inl rfl) rfl (congrArg (Verdict.accept _) hsnap), fun hearly => ?_, fun hlate => ?_⟩
    · refine hdue false ((Timer.due_false_iff _ _).mpr fun e he => ?_)
      rw [Nat.mul_comm]
      exact hearly e he
    · rw [← hsnap]
      refine hdue true ((Timer.due_iff _ _).mpr ?_)
      rw [Nat.mul_comm]
      exact hlate

end Sys2Proof.Machine

/-! PROOF. Joining and allocating (R69 to R74): what an offered run of Starts does to the lanes, to the new voice's lane set
and to the notices; which voice a steal picks. -/

namespace Sys2Proof.Machine

/-! ## A run of Starts offered -/

/-- The lane takes a Start: it is LIVE and has room (R144, R146). -/
def Lane.takesStart (l : Lane) : Bool := l.state == .live && decide (l.queue.length < 28)

theorem Lane.takesStart_iff (l : Lane) : l.takesStart = true ↔ l.state = .live ∧ l.queue.length < 28 := by
  simp [Lane.takesStart]

/-- The Start of voice v under the tier code in force (R70). -/
def State.startOf (s : State) (v : Slot) : LaneRecord :=
  .start v s.vtb.voices[v].program s.vtb.voices[v].pitch s.tierCode

theorem offerStart_takes {v : Slot} {s : State} {n : LaneNo} (h : s.lanes[n].takesStart = true) :
    offerStart v s n = (s.setLane n (s.lanes[n].joined (s.startOf v))).setVoice v
      { s.vtb.voices[v] with lanes := LaneSet.add s.vtb.voices[v].lanes n } := by
  obtain ⟨hlive, hroom⟩ := (Lane.takesStart_iff _).mp h
  have htransmits : s.lanes[n].transmits = true := by rw [Lane.transmits, hlive]; rfl
  rcases offerStart_cases v s n with ⟨_, _, e⟩ | ⟨_, hfull, _⟩ | ⟨hnot, _⟩
  · rw [e, Lane.append_eq_joined _ htransmits]
    rfl
  · omega
  · exact absurd hlive hnot

theorem offerStart_overrun {v : Slot} {s : State} {n : LaneNo} (hlive : s.lanes[n].state = .live)
    (h : s.lanes[n].takesStart = false) : offerStart v s n = s.raise (.laneOverrun n v) := by
  have hroom : ¬ s.lanes[n].queue.length < 28 := fun hroom => by
    rw [(Lane.takesStart_iff _).mpr ⟨hlive, hroom⟩] at h
    cases h
  rcases offerStart_cases v s n with ⟨_, hlt, _⟩ | ⟨_, _, e⟩ | ⟨hnot, _⟩
  · exact absurd hlt hroom
  · exact e
  · exact absurd hlive hnot

theorem offerStart_not_live {v : Slot} {s : State} {n : LaneNo} (hlive : s.lanes[n].state ≠ .live) :
    offerStart v s n = s := by
  rcases offerStart_cases v s n with ⟨h, _, _⟩ | ⟨h, _, _⟩ | ⟨_, e⟩
  · exact absurd h hlive
  · exact absurd h hlive
  · exact e

theorem offerStart_lane (v : Slot) (s : State) (n k : LaneNo) :
    (offerStart v s n).lanes[k]
      = if k = n ∧ s.lanes[n].takesStart = true then s.lanes[k].joined (s.startOf v) else s.lanes[k] := by
  cases h : s.lanes[n].takesStart with
  | true =>
    rw [offerStart_takes h, State.setVoice_lanes, State.setLane_get]
    by_cases hk : k = n
    · subst hk
      rw [if_pos rfl, if_pos ⟨rfl, rfl⟩]
    · rw [if_neg hk, if_neg fun c => hk c.1]
  | false =>
    rw [if_neg fun c => Bool.false_ne_true c.2]
    by_cases hlive : s.lanes[n].state = .live
    · rw [offerStart_overrun hlive h, State.raise_lanes]
    · rw [offerStart_not_live hlive]

theorem offerStart_lanes (v : Slot) (s : State) (n : LaneNo) :
    ∃ lanes : LaneSet, (offerStart v s n).vtb.voices[v] = { s.vtb.voices[v] with lanes := lanes }
      ∧ ∀ k, LaneSet.has lanes k = (LaneSet.has s.vtb.voices[v].lanes k || (k == n && s.lanes[n].takesStart)) := by
  cases h : s.lanes[n].takesStart with
  | true =>
    refine ⟨_, by rw [offerStart_takes h, State.setVoice_get_self], fun k => ?_⟩
    rw [LaneSet.has_add, Bool.and_true, beq_eq_decide]
  | false =>
    refine ⟨s.vtb.voices[v].lanes, ?_, fun k => by rw [Bool.and_false, Bool.or_false]⟩
    by_cases hlive : s.lanes[n].state = .live
    · rw [offerStart_overrun hlive h, State.raise_vtb]
    · rw [offerStart_not_live hlive]

theorem offerStart_startOf (v : Slot) (s : State) (n : LaneNo) : (offerStart v s n).startOf v = s.startOf v := by
  obtain ⟨lanes, hv, -⟩ := offerStart_lanes v s n
  have hframe := (offerStart_voiceWork v s n).1
  have hcode : (offerStart v s n).tierCode = s.tierCode := by rw [hframe]; rfl
  rw [State.startOf, hcode, hv]
  rfl

theorem offerStarts_lane (v : Slot) {ns : List LaneNo} (h : ns.Nodup) (s : State) (k : LaneNo) :
    (ns.foldl (offerStart v) s).lanes[k]
      = if k ∈ ns ∧ s.lanes[k].takesStart = true then s.lanes[k].joined (s.startOf v) else s.lanes[k] := by
  induction ns generalizing s with
  | nil => rw [if_neg fun c => List.not_mem_nil c.1]; rfl
  | cons n ns ih =>
    obtain ⟨hn, hns⟩ := List.nodup_cons.mp h
    rw [List.foldl_cons, ih hns, offerStart_startOf, offerStart_lane]
    by_cases hk : k = n
    · subst hk
      rw [if_neg fun c => hn c.1]
      simp only [true_and, List.mem_cons, true_or]
    · simp only [hk, false_and, if_false, List.mem_cons, false_or]

theorem offerStarts_lanes (v : Slot) {ns : List LaneNo} (h : ns.Nodup) (s : State) :
    ∃ lanes : LaneSet, (ns.foldl (offerStart v) s).vtb.voices[v] = { s.vtb.voices[v] with lanes := lanes }
      ∧ ∀ k, LaneSet.has lanes k = (LaneSet.has s.vtb.voices[v].lanes k || (ns.contains k && s.lanes[k].takesStart)) := by
  induction ns generalizing s with
  | nil => exact ⟨s.vtb.voices[v].lanes, rfl, fun k => by simp⟩
  | cons n ns ih =>
    obtain ⟨hn, hns⟩ := List.nodup_cons.mp h
    obtain ⟨lanes, hv, hlanes⟩ := offerStart_lanes v s n
    obtain ⟨lanes', hv', hlanes'⟩ := ih hns (offerStart v s n)
    refine ⟨lanes', by rw [List.foldl_cons, hv', hv], fun k => ?_⟩
    rw [hlanes', hv, hlanes, offerStart_lane, List.contains_cons, Bool.or_assoc]
    congr 1
    by_cases hk : k = n
    · subst hk
      simp [hn]
    · have hne : (k == n) = false := beq_false_of_ne hk
      simp only [hne, hk, Bool.false_and, Bool.false_or, false_and, if_false]

/-- With room in every LIVE lane of the run no notice is raised. -/
theorem offerStarts_ntu (v : Slot) {ns : List LaneNo} (h : ns.Nodup) (s : State)
    (hroom : ∀ k ∈ ns, s.lanes[k].state = .live → s.lanes[k].takesStart = true) :
    (ns.foldl (offerStart v) s).ntu = s.ntu := by
  induction ns generalizing s with
  | nil => rfl
  | cons n ns ih =>
    obtain ⟨hn, hns⟩ := List.nodup_cons.mp h
    have hrest : ∀ k ∈ ns, (offerStart v s n).lanes[k] = s.lanes[k] := fun k hk => by
      rw [offerStart_lane, if_neg]
      rintro ⟨rfl, -⟩
      exact hn hk
    rw [List.foldl_cons, ih hns _ fun k hk => by rw [hrest k hk]; exact hroom k (List.mem_cons_of_mem n hk)]
    by_cases hlive : s.lanes[n].state = .live
    · rw [offerStart_takes (hroom n List.mem_cons_self hlive)]
      rfl
    · rw [offerStart_not_live hlive]

/-- The last LIVE lane of the run without room is the one that LANE_OVERRUN names. -/
theorem offerStarts_overrun (v : Slot) {ns : List LaneNo} (h : ns.Pairwise (· < ·)) (s : State) {n : LaneNo} (hn : n ∈ ns)
    (hlive : s.lanes[n].state = .live) (hfull : s.lanes[n].takesStart = false)
    (hlast : ∀ k ∈ ns, n < k → s.lanes[k].state = .live → s.lanes[k].takesStart = true) :
    ∃ p ∈ (ns.foldl (offerStart v) s).ntu.slots[(7 : Fin 13)], p.notice = .laneOverrun n v := by
  induction ns generalizing s with
  | nil => cases hn
  | cons m ns ih =>
    obtain ⟨hm, hns⟩ := List.pairwise_cons.mp h
    have hrest : ∀ k ∈ ns, (offerStart v s m).lanes[k] = s.lanes[k] := fun k hk => by
      rw [offerStart_lane, if_neg]
      rintro ⟨rfl, -⟩
      exact Fin.lt_irrefl k (hm k hk)
    rw [List.foldl_cons]
    rcases List.mem_cons.mp hn with rfl | hn
    · have hnodup : ns.Nodup := hns.imp Fin.ne_of_lt
      rw [offerStarts_ntu v hnodup _ fun k hk => by rw [hrest k hk]; exact hlast k (List.mem_cons_of_mem n hk) (hm k hk),
        offerStart_overrun hlive hfull]
      exact s.raise_noticed (.laneOverrun n v) rfl
    · refine ih hns _ hn ?_ ?_ fun k hk hlt => ?_
      · rw [hrest n hn, hlive]
      · rw [hrest n hn, hfull]
      · rw [hrest k hk]
        exact hlast k (List.mem_cons_of_mem m hk) hlt

/-- Offered Starts raise LANE_OVERRUN alone. -/
theorem offerStarts_slot (v : Slot) (ns : List LaneNo) (s : State) {k : Fin 13} (hk : k ≠ 7) :
    (ns.foldl (offerStart v) s).ntu.slots[k] = s.ntu.slots[k] := by
  induction ns generalizing s with
  | nil => rfl
  | cons n ns ih =>
    rw [List.foldl_cons, ih]
    rcases offerStart_cases v s n with ⟨_, _, e⟩ | ⟨_, _, e⟩ | ⟨_, e⟩ <;> rw [e]
    · rfl
    · exact s.raise_get_ne (.laneOverrun n v) hk

theorem offerStarts_seqCounter (v : Slot) (ns : List LaneNo) (s : State) :
    (ns.foldl (offerStart v) s).vtb.seqCounter = s.vtb.seqCounter := by
  induction ns generalizing s with
  | nil => rfl
  | cons n ns ih =>
    rw [List.foldl_cons, ih]
    rcases offerStart_cases v s n with ⟨_, _, e⟩ | ⟨_, _, e⟩ | ⟨_, e⟩ <;> rw [e] <;> rfl

/-! ## A slot filled -/

theorem LaneSet.members_pairwise (b : LaneSet) : (LaneSet.members b).Pairwise (· < ·) :=
  List.Pairwise.filter _ (by decide)

/-- The lanes of a layer that take a Start offered to it. -/
def State.takers (s : State) (l : Layer) (k : LaneNo) : Bool := LaneSet.has l.laneMask k && s.lanes[k].takesStart

section
variable (x : Crosspoint) (e : LayerPos × Pitch) (l : Layer) (s : State) (v : Slot)

theorem mem_takers (k : LaneNo) : (k ∈ LaneSet.members l.laneMask ∧ s.lanes[k].takesStart = true) ↔ s.takers l k = true := by
  rw [LaneSet.mem_members, State.takers, Bool.and_eq_true]

theorem startVoice_lane (k : LaneNo) :
    (startVoice x e l s v).lanes[k] = if s.takers l k = true then
      s.lanes[k].joined (.start v l.program e.2 s.tierCode) else s.lanes[k] := by
  have h := offerStarts_lane v (LaneSet.members_nodup l.laneMask)
    (s.setVoice v (newVoice x e l s.vtb.seqCounter)).countStart k
  have hstart : (s.setVoice v (newVoice x e l s.vtb.seqCounter)).countStart.startOf v
      = .start v l.program e.2 s.tierCode := by
    unfold State.startOf
    rw [show (s.setVoice v (newVoice x e l s.vtb.seqCounter)).countStart.vtb.voices[v]
      = newVoice x e l s.vtb.seqCounter from State.setVoice_get_self _ _ _]
    rfl
  rw [hstart] at h
  refine h.trans ?_
  exact if_congr (mem_takers l s k) rfl rfl

theorem startVoice_lanes :
    ∃ lanes : LaneSet, (startVoice x e l s v).vtb.voices[v] = { newVoice x e l s.vtb.seqCounter with lanes := lanes }
      ∧ ∀ k, LaneSet.has lanes k = s.takers l k := by
  obtain ⟨lanes, hv, hlanes⟩ := offerStarts_lanes v (LaneSet.members_nodup l.laneMask)
    (s.setVoice v (newVoice x e l s.vtb.seqCounter)).countStart
  have hnew : (s.setVoice v (newVoice x e l s.vtb.seqCounter)).countStart.vtb.voices[v]
      = newVoice x e l s.vtb.seqCounter := State.setVoice_get_self _ _ _
  rw [hnew] at hv hlanes
  refine ⟨lanes, hv, fun k => (hlanes k).trans ?_⟩
  have hempty : LaneSet.has (newVoice x e l s.vtb.seqCounter).lanes k = false := by
    revert k
    exact show ∀ k : LaneNo, LaneSet.has 0 k = false by decide
  rw [hempty, Bool.false_or, Bool.eq_iff_iff, Bool.and_eq_true, List.contains_iff_mem]
  exact mem_takers l s k

theorem startVoice_voice_ne {w : Slot} (h : w ≠ v) : (startVoice x e l s v).vtb.voices[w] = s.vtb.voices[w] := by
  obtain ⟨_, hw⟩ := startVoice_voice x e l s v w
  rw [hw, if_neg h]

theorem startVoice_seqCounter : (startVoice x e l s v).vtb.seqCounter = s.vtb.seqCounter + 1 :=
  offerStarts_seqCounter v (LaneSet.members l.laneMask) _

theorem startVoice_slot {k : Fin 13} (hk : k ≠ 7) : (startVoice x e l s v).ntu.slots[k] = s.ntu.slots[k] :=
  offerStarts_slot v (LaneSet.members l.laneMask) _ hk

theorem startVoice_ntu (hroom : ∀ k, LaneSet.has l.laneMask k = true → s.lanes[k].state = .live → s.takers l k = true) :
    (startVoice x e l s v).ntu = s.ntu := by
  refine offerStarts_ntu v (LaneSet.members_nodup l.laneMask) _ fun k hk hlive => ?_
  exact ((mem_takers l s k).mpr (hroom k ((LaneSet.mem_members _ _).mp hk) hlive)).2

theorem startVoice_overrun {n : LaneNo} (hn : LaneSet.has l.laneMask n = true) (hlive : s.lanes[n].state = .live)
    (hfull : s.takers l n = false)
    (hlast : ∀ k, n < k → LaneSet.has l.laneMask k = true → s.lanes[k].state = .live → s.takers l k = true) :
    ∃ p ∈ (startVoice x e l s v).ntu.slots[(7 : Fin 13)], p.notice = .laneOverrun n v := by
  refine offerStarts_overrun v (LaneSet.members_pairwise l.laneMask) _ ((LaneSet.mem_members _ _).mpr hn) hlive ?_
    fun k hk hlt hk' => ?_
  · rw [State.takers, hn, Bool.true_and] at hfull
    exact hfull
  · exact ((mem_takers l s k).mpr (hlast k hlt ((LaneSet.mem_members _ _).mp hk) hk')).2

theorem startVoice_lanes_zero_iff :
    (startVoice x e l s v).vtb.voices[v].lanes = 0 ↔ ∀ k, s.takers l k = false := by
  obtain ⟨lanes, hv, hlanes⟩ := startVoice_lanes x e l s v
  rw [hv, LaneSet.eq_zero_iff]
  exact forall_congr' fun k => by rw [hlanes]

theorem fillSlot_taken (h : ∃ k, s.takers l k = true) : fillSlot x e l s v = startVoice x e l s v := by
  obtain ⟨k, hk⟩ := h
  refine if_neg fun hzero => ?_
  rw [(startVoice_lanes_zero_iff x e l s v).mp hzero k] at hk
  cases hk

theorem fillSlot_refused (h : ∀ k, s.takers l k = false) :
    fillSlot x e l s v = ((startVoice x e l s v).setVoice v
      { (startVoice x e l s v).vtb.voices[v] with state := .free, holders := [], owed := 0 }).raise
        (.voiceLoss .dropped (some v) x) :=
  if_pos ((startVoice_lanes_zero_iff x e l s v).mpr h)

theorem fillSlot_lane (k : LaneNo) : (fillSlot x e l s v).lanes[k] = (startVoice x e l s v).lanes[k] := by
  by_cases h : ∃ k, s.takers l k = true
  · rw [fillSlot_taken x e l s v h]
  · rw [fillSlot_refused x e l s v fun k => by simpa using not_exists.mp h k]
    rfl

theorem fillSlot_voice_ne {w : Slot} (hw : w ≠ v) : (fillSlot x e l s v).vtb.voices[w] = s.vtb.voices[w] := by
  by_cases h : ∃ k, s.takers l k = true
  · rw [fillSlot_taken x e l s v h, startVoice_voice_ne x e l s v hw]
  · rw [fillSlot_refused x e l s v fun k => by simpa using not_exists.mp h k, State.raise_vtb, State.setVoice_get_ne _ _ hw,
      startVoice_voice_ne x e l s v hw]

theorem fillSlot_voice :
    ∃ lanes : LaneSet, (∀ k, LaneSet.has lanes k = s.takers l k)
      ∧ (fillSlot x e l s v).vtb.voices[v] = { newVoice x e l s.vtb.seqCounter with
          lanes := lanes
          state := if ∃ k, s.takers l k = true then .sounding else .free
          holders := if ∃ k, s.takers l k = true then [x] else [] } := by
  obtain ⟨lanes, hv, hlanes⟩ := startVoice_lanes x e l s v
  refine ⟨lanes, hlanes, ?_⟩
  by_cases h : ∃ k, s.takers l k = true
  · rw [fillSlot_taken x e l s v h, hv, if_pos h, if_pos h]
    rfl
  · rw [fillSlot_refused x e l s v fun k => by simpa using not_exists.mp h k, State.raise_vtb, State.setVoice_get_self, hv,
      if_neg h, if_neg h]
    rfl

theorem fillSlot_seqCounter : (fillSlot x e l s v).vtb.seqCounter = s.vtb.seqCounter + 1 := by
  by_cases h : ∃ k, s.takers l k = true
  · rw [fillSlot_taken x e l s v h, startVoice_seqCounter]
  · rw [fillSlot_refused x e l s v fun k => by simpa using not_exists.mp h k]
    exact startVoice_seqCounter x e l s v

theorem fillSlot_slot {k : Fin 13} (hk : k ≠ 8) : (fillSlot x e l s v).ntu.slots[k] = (startVoice x e l s v).ntu.slots[k] := by
  by_cases h : ∃ k, s.takers l k = true
  · rw [fillSlot_taken x e l s v h]
  · rw [fillSlot_refused x e l s v fun k => by simpa using not_exists.mp h k]
    exact State.raise_get_ne _ (.voiceLoss .dropped (some v) x) hk

end

/-! ## The steal candidate -/

/-- What a voice of higher slot does to the candidate found so far (R72). -/
def State.better (s : State) (best : Option Slot) (v : Slot) : Option Slot :=
  match best with
  | none => some v
  | some w => if betterVictim s.vtb.seqCounter s.vtb.voices[v] s.vtb.voices[w] then some v else some w

theorem State.stealCandidate_eq (s : State) :
    s.stealCandidate = (allSlots.filter fun v => s.vtb.voices[v].state == .sounding).foldl s.better none := rfl

theorem State.better_mem (s : State) {vs : List Slot} {best : Option Slot} {v : Slot} (h : vs.foldl s.better best = some v) :
    best = some v ∨ v ∈ vs := by
  induction vs generalizing best with
  | nil => exact .inl h
  | cons w vs ih =>
    rcases ih h with hbest | hv
    · cases best with
      | none =>
        cases hbest
        exact .inr List.mem_cons_self
      | some u =>
        have hstep : s.better (some u) w
          = if betterVictim s.vtb.seqCounter s.vtb.voices[w] s.vtb.voices[u] then some w else some u := rfl
        rw [hstep] at hbest
        split at hbest
        · cases hbest
          exact .inr List.mem_cons_self
        · exact .inl hbest
    · exact .inr (List.mem_cons_of_mem w hv)

theorem State.stealCandidate_sounding {s : State} {v : Slot} (h : s.stealCandidate = some v) :
    s.vtb.voices[v].state = .sounding := by
  rw [State.stealCandidate_eq] at h
  rcases s.better_mem h with h | h
  · cases h
  · exact beq_iff_eq.mp (List.mem_filter.mp h).2

/-- A candidate that no later voice betters stays. -/
theorem State.better_stays (s : State) {v : Slot} {vs : List Slot}
    (h : ∀ w ∈ vs, betterVictim s.vtb.seqCounter s.vtb.voices[w] s.vtb.voices[v] = false) :
    vs.foldl s.better (some v) = some v := by
  induction vs with
  | nil => rfl
  | cons w vs ih =>
    have hstep : s.better (some v) w = some v := by
      unfold State.better
      simp only [h w List.mem_cons_self, Bool.false_eq_true, if_false]
    rw [List.foldl_cons, hstep, ih fun u hu => h u (List.mem_cons_of_mem w hu)]

/-- A voice that betters every voice before it is the candidate when the fold reaches it. -/
theorem State.better_takes (s : State) {v : Slot} {best : Option Slot}
    (h : ∀ w, best = some w → betterVictim s.vtb.seqCounter s.vtb.voices[v] s.vtb.voices[w] = true) :
    s.better best v = some v := by
  cases best with
  | none => rfl
  | some w => exact if_pos (h w rfl)

/-- The SOUNDING voice that betters all before it and is bettered by none after it is the candidate (R72). -/
theorem State.stealCandidate_of_best {s : State} {v : Slot} (hv : s.vtb.voices[v].state = .sounding)
    (hbefore : ∀ w, w < v → s.vtb.voices[w].state = .sounding →
      betterVictim s.vtb.seqCounter s.vtb.voices[v] s.vtb.voices[w] = true)
    (hafter : ∀ w, v < w → s.vtb.voices[w].state = .sounding →
      betterVictim s.vtb.seqCounter s.vtb.voices[w] s.vtb.voices[v] = false) :
    s.stealCandidate = some v := by
  rw [State.stealCandidate_eq]
  have hsorted : (allSlots.filter fun v => s.vtb.voices[v].state == .sounding).Pairwise (· < ·) :=
    (List.pairwise_lt_finRange 48).filter _
  have hmem : ∀ w, w ∈ (allSlots.filter fun v => s.vtb.voices[v].state == .sounding) ↔ s.vtb.voices[w].state = .sounding :=
    fun w => by rw [List.mem_filter, beq_iff_eq]; exact and_iff_right (List.mem_finRange w)
  generalize (allSlots.filter fun v => s.vtb.voices[v].state == .sounding) = vs at hsorted hmem
  obtain ⟨before, after, rfl⟩ := List.append_of_mem ((hmem v).mpr hv)
  obtain ⟨-, hcons, hlt⟩ := List.pairwise_append.mp hsorted
  obtain ⟨hgt, -⟩ := List.pairwise_cons.mp hcons
  have htakes : s.better (before.foldl s.better none) v = some v := s.better_takes fun w hw => by
    rcases s.better_mem hw with h | h
    · cases h
    · exact hbefore w (hlt w h v List.mem_cons_self) ((hmem w).mp (List.mem_append_left _ h))
  rw [List.foldl_append, List.foldl_cons, htakes]
  exact s.better_stays fun w hw =>
    hafter w (hgt w hw) ((hmem w).mp (List.mem_append_right _ (List.mem_cons_of_mem v hw)))

theorem betterVictim_iff (counter : BitVec 32) (y z : Voice) :
    betterVictim counter y z = true ↔ y.priority < z.priority ∨ (y.priority = z.priority ∧ z.age counter < y.age counter) := by
  simp [betterVictim]

/-! ## Allocation -/

theorem allocate_free {x : Crosspoint} {s : State} {e : LayerPos × Pitch} {l : Layer} {v : Slot}
    (hl : s.sst.live.layers[e.1] = some l) (hv : s.vtb.voices[v].state = .free)
    (hlow : ∀ w, w < v → s.vtb.voices[w].state ≠ .free) : allocate x s e = fillSlot x e l s v := by
  have hfind : (allSlots.find? fun v => s.vtb.voices[v].state == .free) = some v := by
    rw [List.find?_eq_some_iff_append]
    obtain ⟨before, after, hsplit⟩ := List.append_of_mem (List.mem_finRange v)
    have hsorted : (before ++ v :: after).Pairwise (· < ·) := hsplit ▸ List.pairwise_lt_finRange 48
    refine ⟨beq_iff_eq.mpr hv, before, after, hsplit, fun w hw => ?_⟩
    have hlt : w < v := (List.pairwise_append.mp hsorted).2.2 w hw v List.mem_cons_self
    rw [beq_false_of_ne (hlow w hlt), Bool.not_false]
  unfold allocate
  simp only [hl, hfind]

theorem find_free_none {s : State} (h : ∀ v : Slot, s.vtb.voices[v].state ≠ .free) :
    (allSlots.find? fun v => s.vtb.voices[v].state == .free) = none := by
  rw [List.find?_eq_none]
  exact fun v _ hv => h v (beq_iff_eq.mp hv)

/-- With no slot FREE the request is dropped when there is no candidate, or none that its priority may steal (R72, R73). -/
theorem allocate_dropped {x : Crosspoint} {s : State} {e : LayerPos × Pitch} {l : Layer}
    (hl : s.sst.live.layers[e.1] = some l) (hfull : ∀ v : Slot, s.vtb.voices[v].state ≠ .free)
    (hprio : ∀ v, s.stealCandidate = some v → l.priority < s.vtb.voices[v].priority) :
    allocate x s e = s.raise (.voiceLoss .dropped none x) := by
  unfold allocate
  simp only [hl, find_free_none hfull]
  cases hc : s.stealCandidate with
  | none => rfl
  | some v => exact if_neg (Fin.not_le.mpr (hprio v hc))

/-- With no slot FREE the candidate of a priority not above the layer's is ended, and its slot filled if that frees it
(R72). -/
theorem allocate_steals {x : Crosspoint} {s : State} {e : LayerPos × Pitch} {l : Layer} {v : Slot}
    (hl : s.sst.live.layers[e.1] = some l) (hfull : ∀ v : Slot, s.vtb.voices[v].state ≠ .free)
    (hc : s.stealCandidate = some v) (hprio : s.vtb.voices[v].priority ≤ l.priority) :
    allocate x s e = if (endVoice s v).vtb.voices[v].state = .free then
        fillSlot x e l ((endVoice s v).raise (.voiceLoss .stolen (some v) x)) v
      else (endVoice s v).raise (.voiceLoss .dropped none x) := by
  unfold allocate
  simp only [hl, find_free_none hfull, hc]
  exact if_pos hprio

/-- Settles O34: the branches of the allocation, the run of Starts of a filled slot lane by lane, and the fold that picks
the steal candidate. -/
theorem allocationFillsOrSteals : Obligations.AllocationFillsOrSteals := by
  unfold Obligations.AllocationFillsOrSteals
  intro s t x i pitch l hl ht
  refine ⟨fun v hv hlow taken htaken => ?_, fun hfull => ⟨fun hprio => ?_, fun v u hv hprio hbest hu => ?_⟩⟩
  · obtain rfl : taken = s.takers l := by
      funext n
      rw [htaken n, State.takers, Lane.takesStart, Bool.and_assoc]
      rfl
    have hwork : OnlyVoiceWork s t := ht ▸ allocate_voiceWork x s (i, pitch)
    rw [allocate_free hl hv hlow] at ht
    subst ht
    obtain ⟨lanes, hlanes, hvoice⟩ := fillSlot_voice x (i, pitch) l s v
    refine ⟨fillSlot_seqCounter x (i, pitch) l s v, rfl, fun n => ?_, ?_, fun n => ?_, fun hno => ?_, fun hsome => ?_,
      fun n hn hlive hfull hlast => ?_, fun hroom => ?_, fun w hw => fillSlot_voice_ne x (i, pitch) l s v hw, hwork⟩
    · rw [fillSlot_lane, startVoice_lane]
    · rw [hvoice]
      rfl
    · rw [hvoice]
      exact hlanes n
    · rw [fillSlot_refused x (i, pitch) l s v hno]
      exact State.raise_noticed _ _ rfl
    · rw [fillSlot_taken x (i, pitch) l s v hsome]
      exact startVoice_slot x (i, pitch) l s v (show (8 : Fin 13) ≠ 7 by decide)
    · rw [fillSlot_slot x (i, pitch) l s v (show (7 : Fin 13) ≠ 8 by decide)]
      exact startVoice_overrun x (i, pitch) l s v hn hlive hfull hlast
    · rw [fillSlot_slot x (i, pitch) l s v (show (7 : Fin 13) ≠ 8 by decide), startVoice_ntu x (i, pitch) l s v hroom]
  · rw [ht]
    exact allocate_dropped hl hfull fun v hc => hprio v (State.stealCandidate_sounding hc)
  · have hc : s.stealCandidate = some v := by
      refine State.stealCandidate_of_best hv (fun w hlt hw => ?_) fun w hlt hw => ?_
      · rw [betterVictim_iff]
        refine (hbest w (Fin.ne_of_lt hlt) hw).imp_right fun ⟨hp, hage⟩ => ⟨hp, ?_⟩
        exact hage.elim id fun ⟨_, hvw⟩ => absurd hvw (Fin.lt_asymm hlt)
      · rw [← Bool.not_eq_true, betterVictim_iff]
        rcases hbest w (Fin.ne_of_gt hlt) hw with hp | ⟨hp, hage⟩
        · rintro (hp' | ⟨hp', -⟩) <;> omega
        · rintro (hp' | ⟨-, hage'⟩)
          · omega
          · rcases hage with hage | ⟨hseq, -⟩
            · exact absurd hage' (Nat.lt_asymm hage)
            · unfold Voice.age at hage'
              rw [hseq] at hage'
              exact Nat.lt_irrefl _ hage'
    rw [ht, allocate_steals hl hfull hc hprio, hu]
    exact ⟨fun hfree => if_pos hfree, fun hfree => if_neg hfree⟩

end Sys2Proof.Machine

/-! PROOF. Press and release (R64, R69, R74, R75). -/

namespace Sys2Proof.Machine

/-! ## Joins and presses -/

/-- With no two SOUNDING LIVE voices of one layer and pitch, the voice of an entry is the one a join finds. -/
theorem State.findLive_of_distinct {s : State} (h : s.vtb.LiveDistinct) {v : Slot} (hs : s.vtb.voices[v].state = .sounding)
    (ho : s.vtb.voices[v].origin = .live) :
    s.findLive (s.vtb.voices[v].layer, s.vtb.voices[v].pitch) = some v := by
  have hlive : s.vtb.voices[v].soundsLive = true := by rw [Voice.soundsLive, hs, ho]; rfl
  cases hfind : s.findLive (s.vtb.voices[v].layer, s.vtb.voices[v].pitch) with
  | none =>
    have hno := List.find?_eq_none.mp hfind v (List.mem_finRange v)
    rw [hlive, Voice.matchesEntry, beq_self_eq_true, beq_self_eq_true] at hno
    exact absurd rfl hno
  | some w =>
    obtain ⟨hws, hwo, hwl, hwp⟩ := State.findLive_some hfind
    have hwlive : s.vtb.voices[w].soundsLive = true := by rw [Voice.soundsLive, hws, hwo]; rfl
    exact congrArg some (h w v hwlive hlive hwl hwp)

theorem State.findLive_none {s : State} {e : LayerPos × Pitch}
    (h : ∀ v : Slot, s.vtb.voices[v].state = .sounding → s.vtb.voices[v].origin = .live →
      ¬ (s.vtb.voices[v].layer = e.1 ∧ s.vtb.voices[v].pitch = e.2)) : s.findLive e = none := by
  cases hfind : s.findLive e with
  | none => rfl
  | some v =>
    obtain ⟨hs, ho, hl, hp⟩ := State.findLive_some hfind
    exact absurd ⟨hl, hp⟩ (h v hs ho)

theorem pressKey_enabled {s : State} (hp : s.slc.part = .playing) (he : s.slc.enable = true) (x : Crosspoint) :
    pressKey s x = ((s.expand x s.bfe.bd).foldl (joinEntry x) s).setVoicedAs [x] (some s.bfe.bd) := by
  refine if_pos ?_
  rw [he, State.isHalted, hp]
  rfl

theorem pressKey_disabled {s : State} (he : s.slc.enable = false) (x : Crosspoint) : pressKey s x = s := by
  refine if_neg ?_
  rw [he]
  exact Bool.false_ne_true

theorem offerStarts_voicedAs (v : Slot) (ns : List LaneNo) (s : State) :
    (ns.foldl (offerStart v) s).vtb.voicedAs = s.vtb.voicedAs := by
  induction ns generalizing s with
  | nil => rfl
  | cons n ns ih =>
    rw [List.foldl_cons, ih]
    rcases offerStart_cases v s n with ⟨_, _, e⟩ | ⟨_, _, e⟩ | ⟨_, e⟩ <;> rw [e] <;> rfl

theorem fillSlot_voicedAs (x : Crosspoint) (e : LayerPos × Pitch) (l : Layer) (s : State) (v : Slot) :
    (fillSlot x e l s v).vtb.voicedAs = s.vtb.voicedAs := by
  have hstart : (startVoice x e l s v).vtb.voicedAs = s.vtb.voicedAs :=
    offerStarts_voicedAs v (LaneSet.members l.laneMask) _
  by_cases h : ∃ k, s.takers l k = true
  · rw [fillSlot_taken x e l s v h, hstart]
  · rw [fillSlot_refused x e l s v fun k => by simpa using not_exists.mp h k]
    exact hstart

theorem endVoice_voicedAs (s : State) (v : Slot) : (endVoice s v).vtb.voicedAs = s.vtb.voicedAs := by
  obtain ⟨-, h, -⟩ := endVoice_keeps s v
  exact h

/-- An allocation does nothing, drops the request, fills a FREE slot, or ends a voice and may then fill its slot. -/
theorem allocate_cases (x : Crosspoint) (s : State) (e : LayerPos × Pitch) :
    (s.sst.live.layers[e.1] = none ∧ allocate x s e = s)
      ∨ (∃ l v, s.sst.live.layers[e.1] = some l ∧ s.vtb.voices[v].state = .free ∧ allocate x s e = fillSlot x e l s v)
      ∨ ((∀ v : Slot, s.vtb.voices[v].state ≠ .free) ∧ allocate x s e = s.raise (.voiceLoss .dropped none x))
      ∨ (∃ l v, s.sst.live.layers[e.1] = some l ∧ (∀ v : Slot, s.vtb.voices[v].state ≠ .free)
          ∧ s.vtb.voices[v].state = .sounding ∧ (endVoice s v).vtb.voices[v].state = .free
          ∧ allocate x s e = fillSlot x e l ((endVoice s v).raise (.voiceLoss .stolen (some v) x)) v)
      ∨ (∃ v, (∀ v : Slot, s.vtb.voices[v].state ≠ .free) ∧ s.vtb.voices[v].state = .sounding
          ∧ allocate x s e = (endVoice s v).raise (.voiceLoss .dropped none x)) := by
  cases hl : s.sst.live.layers[e.1] with
  | none =>
    refine .inl ⟨rfl, ?_⟩
    unfold allocate
    simp only [hl]
  | some l =>
    right
    by_cases hfree : ∃ v : Slot, s.vtb.voices[v].state = .free
    · left
      cases hfind : allSlots.find? fun v => s.vtb.voices[v].state == .free with
      | none =>
        obtain ⟨v, hv⟩ := hfree
        exact absurd (beq_iff_eq.mpr hv) (List.find?_eq_none.mp hfind v (List.mem_finRange v))
      | some v =>
        refine ⟨l, v, rfl, beq_iff_eq.mp (List.find?_some (p := fun v : Slot => s.vtb.voices[v].state == .free) hfind), ?_⟩
        unfold allocate
        simp only [hl, hfind]
    · right
      have hfull : ∀ v : Slot, s.vtb.voices[v].state ≠ .free := not_exists.mp hfree
      cases hc : s.stealCandidate with
      | none => exact .inl ⟨hfull, allocate_dropped hl hfull fun v hv => by rw [hc] at hv; cases hv⟩
      | some v =>
        have hv := State.stealCandidate_sounding hc
        by_cases hprio : s.vtb.voices[v].priority ≤ l.priority
        · right
          have hsteals := allocate_steals (x := x) hl hfull hc hprio
          by_cases hended : (endVoice s v).vtb.voices[v].state = .free
          · exact .inl ⟨l, v, rfl, hfull, hv, hended, hsteals.trans (if_pos hended)⟩
          · exact .inr ⟨v, hfull, hv, hsteals.trans (if_neg hended)⟩
        · refine .inl ⟨hfull, allocate_dropped hl hfull fun w hw => ?_⟩
          rw [hc] at hw
          cases hw
          exact Fin.not_le.mp hprio

theorem allocate_voicedAs (x : Crosspoint) (s : State) (e : LayerPos × Pitch) :
    (allocate x s e).vtb.voicedAs = s.vtb.voicedAs := by
  rcases allocate_cases x s e with ⟨_, h⟩ | ⟨l, v, _, _, h⟩ | ⟨_, h⟩ | ⟨l, v, _, _, _, _, h⟩ | ⟨v, _, _, h⟩ <;> rw [h]
  · exact fillSlot_voicedAs x e l s v
  · rfl
  · rw [fillSlot_voicedAs]
    exact endVoice_voicedAs s v
  · exact endVoice_voicedAs s v

theorem joinEntry_voicedAs (x : Crosspoint) (s : State) (e : LayerPos × Pitch) :
    (joinEntry x s e).vtb.voicedAs = s.vtb.voicedAs := by
  rcases joinEntry_cases x s e with ⟨_, _, _, e⟩ | ⟨_, _, _, _, e⟩ | ⟨_, _, _, _, e⟩ | ⟨_, e⟩ <;> rw [e]
  · rfl
  · rfl
  · exact allocate_voicedAs x s _

theorem joins_voicedAs (x : Crosspoint) (es : List (LayerPos × Pitch)) (s : State) :
    (es.foldl (joinEntry x) s).vtb.voicedAs = s.vtb.voicedAs := by
  induction es generalizing s with
  | nil => rfl
  | cons e es ih => rw [List.foldl_cons, ih, joinEntry_voicedAs]

/-- Settles O33: the branches of the join, the voice that a join finds, and the guard of a press. -/
theorem joinSharesTheVoice : Obligations.JoinSharesTheVoice := by
  unfold Obligations.JoinSharesTheVoice
  refine ⟨fun s x i pitch v hdistinct hs ho hi hp => ?_, fun s x i pitch hno => ?_, fun s x hplay => ⟨fun he => ?_, fun he => ?_⟩⟩
  · have hfind : s.findLive (i, pitch) = some v := by
      rw [← hi, ← hp]
      exact State.findLive_of_distinct hdistinct hs ho
    rcases joinEntry_cases x s (i, pitch) with ⟨w, hw, hx, e⟩ | ⟨w, hw, hx, hlen, e⟩ | ⟨w, hw, hx, hlen, e⟩ | ⟨hnone, _⟩
    · rw [hfind] at hw
      cases hw
      exact ⟨fun _ => e, fun h => absurd hx h, fun h => absurd hx h⟩
    · rw [hfind] at hw
      cases hw
      exact ⟨fun h => absurd h hx, fun _ _ => e, fun _ h => absurd hlen (Nat.not_lt.mpr h)⟩
    · rw [hfind] at hw
      cases hw
      exact ⟨fun h => absurd h hx, fun _ h => absurd hlen (Nat.not_le.mpr h), fun _ _ => e⟩
    · rw [hfind] at hnone
      cases hnone
  · unfold joinEntry
    rw [State.findLive_none hno]
  · have hpress := pressKey_enabled hplay he x
    refine ⟨hpress, pressKey_voiceWork s x, ?_, fun y hy => ?_⟩
    · rw [hpress, State.setVoicedAs_get, if_pos (List.mem_singleton.mpr rfl)]
    · rw [hpress, State.setVoicedAs_get, if_neg (mt List.mem_singleton.mp hy), joins_voicedAs]
  · exact pressKey_disabled he x

/-! ## Leaves -/

/-- A leave as R64 gives it. -/
theorem leaveVoice_eq (x : Crosspoint) (s : State) (v : Slot) :
    leaveVoice x s v = if s.vtb.voices[v].holders.erase x = [] then
        endVoice (s.setVoice v { s.vtb.voices[v] with holders := [] }) v
      else s.setVoice v { s.vtb.voices[v] with holders := s.vtb.voices[v].holders.erase x } := by
  rcases leaveVoice_cases x s v with ⟨h, e⟩ | ⟨h, e⟩
  · rw [if_neg h, e]
  · rw [if_pos h, e]

/-- A voice once x has left it. -/
theorem leaveVoice_holders (x : Crosspoint) (s : State) (v : Slot) :
    (leaveVoice x s v).vtb.voices[v].holders = s.vtb.voices[v].holders.erase x := by
  rw [leaveVoice_eq]
  by_cases h : s.vtb.voices[v].holders.erase x = []
  · rw [if_pos h, h]
    by_cases hs : s.vtb.voices[v].state = .sounding
    · have hs' : (s.setVoice v { s.vtb.voices[v] with holders := [] }).vtb.voices[v].state = .sounding := by
        rw [State.setVoice_get_self]
        exact hs
      obtain ⟨owed, hv, -⟩ := endVoice_voice hs'
      rw [hv]
      rfl
    · have hs' : (s.setVoice v { s.vtb.voices[v] with holders := [] }).vtb.voices[v].state ≠ .sounding := by
        rw [State.setVoice_get_self]
        exact hs
      rw [endVoice_not_sounding hs', State.setVoice_get_self]
  · rw [if_neg h, State.setVoice_get_self]

theorem leaveVoice_shared {x : Crosspoint} {s : State} {v : Slot} (h : s.vtb.voices[v].holders.erase x ≠ []) :
    (leaveVoice x s v).vtb.voices[v] = { s.vtb.voices[v] with holders := s.vtb.voices[v].holders.erase x } := by
  rw [leaveVoice_eq, if_neg h, State.setVoice_get_self]

theorem leaveVoice_last {x : Crosspoint} {s : State} {v : Slot} (h : s.vtb.voices[v].holders.erase x = []) :
    (leaveVoice x s v).vtb.voices[v].state ≠ .sounding := by
  rw [leaveVoice_eq, if_pos h]
  exact endVoice_state_ne _ v

theorem leaveVoice_frame (x : Crosspoint) (s : State) (v : Slot) :
    leaveVoice x s v = { s with
      vtb := { s.vtb with voices := (leaveVoice x s v).vtb.voices }, lanes := (leaveVoice x s v).lanes } := by
  rw [leaveVoice_eq]
  split
  · exact endVoice_frame _ v
  · rfl

/-- Leaves of different slots do not meet. -/
theorem leaves_voice (x : Crosspoint) {vs : List Slot} (h : vs.Nodup) (s : State) (w : Slot) :
    (w ∉ vs → (vs.foldl (leaveVoice x) s).vtb.voices[w] = s.vtb.voices[w])
      ∧ (w ∈ vs → ∃ u : State, u.vtb.voices[w] = s.vtb.voices[w]
          ∧ (vs.foldl (leaveVoice x) s).vtb.voices[w] = (leaveVoice x u w).vtb.voices[w]) := by
  induction vs generalizing s with
  | nil => exact ⟨fun _ => rfl, fun h => absurd h List.not_mem_nil⟩
  | cons v vs ih =>
    obtain ⟨hv, hvs⟩ := List.nodup_cons.mp h
    obtain ⟨hout, hin⟩ := ih hvs (leaveVoice x s v)
    rw [List.foldl_cons]
    refine ⟨fun hw => ?_, fun hw => ?_⟩
    · obtain ⟨hne, hnot⟩ := not_or.mp (mt List.mem_cons.mpr hw)
      rw [hout hnot, leaveVoice_voice_ne x s hne]
    · rcases List.mem_cons.mp hw with rfl | hw
      · exact ⟨s, rfl, hout hv⟩
      · have hne : w ≠ v := fun e => hv (e ▸ hw)
        obtain ⟨u, hu, he⟩ := hin hw
        exact ⟨u, hu.trans (leaveVoice_voice_ne x s hne), he⟩

theorem leaves_frame (x : Crosspoint) (vs : List Slot) (s : State) :
    vs.foldl (leaveVoice x) s = { s with
      vtb := { s.vtb with voices := (vs.foldl (leaveVoice x) s).vtb.voices }
      lanes := (vs.foldl (leaveVoice x) s).lanes } := by
  induction vs generalizing s with
  | nil => rfl
  | cons v vs ih =>
    rw [List.foldl_cons]
    refine (ih (leaveVoice x s v)).trans ?_
    rw [leaveVoice_frame x s v]

theorem heldSlots_nodup (s : State) (x : Crosspoint) (p : Voice → Bool) : (s.heldSlots x p).Nodup :=
  (List.nodup_finRange 48).filter _

theorem mem_heldSlots (s : State) (x : Crosspoint) (p : Voice → Bool) (v : Slot) :
    v ∈ s.heldSlots x p ↔ x ∈ s.vtb.voices[v].holders ∧ p s.vtb.voices[v] = true := by
  unfold State.heldSlots
  rw [List.mem_filter, Bool.and_eq_true, List.contains_iff_mem]
  exact and_iff_right (List.mem_finRange v)

theorem releaseKey_eq (s : State) (x : Crosspoint) :
    releaseKey s x = ((s.heldSlots x fun _ => true).foldl (leaveVoice x) s).setVoicedAs [x] none := rfl

/-- Settles O35: the leaves of a release touch each a voice of its own, and the fold is the one that the rule spells. -/
theorem releaseLeavesEveryVoice : Obligations.ReleaseLeavesEveryVoice := by
  unfold Obligations.ReleaseLeavesEveryVoice
  rintro s t x hcoherent rfl
  have hmem : ∀ v, v ∈ (s.heldSlots x fun _ => true) ↔ x ∈ s.vtb.voices[v].holders := fun v => by
    rw [mem_heldSlots]
    exact and_iff_left rfl
  have hvoice : ∀ v : Slot, (x ∉ s.vtb.voices[v].holders → (releaseKey s x).vtb.voices[v] = s.vtb.voices[v])
      ∧ (x ∈ s.vtb.voices[v].holders → ∃ u : State, u.vtb.voices[v] = s.vtb.voices[v]
        ∧ (releaseKey s x).vtb.voices[v] = (leaveVoice x u v).vtb.voices[v]) := fun v => by
    obtain ⟨hout, hin⟩ := leaves_voice x (heldSlots_nodup s x fun _ => true) s v
    exact ⟨fun hx => hout (mt (hmem v).mp hx), fun hx => hin ((hmem v).mpr hx)⟩
  have hholders : ∀ v : Slot, (releaseKey s x).vtb.voices[v].holders = s.vtb.voices[v].holders.erase x := fun v => by
    obtain ⟨hout, hin⟩ := hvoice v
    by_cases hx : x ∈ s.vtb.voices[v].holders
    · obtain ⟨u, hu, he⟩ := hin hx
      rw [he, leaveVoice_holders, hu]
    · rw [hout hx, List.erase_of_not_mem hx]
  have hnodup : ∀ v : Slot, s.vtb.voices[v].holders.Nodup := fun v => by
    obtain ⟨hfree, hsounding, howed⟩ := hcoherent v
    cases hs : s.vtb.voices[v].state with
    | free => rw [(hfree hs).1]; exact List.nodup_nil
    | owed => rw [(howed hs).1]; exact List.nodup_nil
    | sounding =>
      obtain ⟨-, -, h, -⟩ := hsounding hs
      exact h
  refine ⟨fun v => ⟨hholders v, ?_⟩, fun v => (hvoice v).1, fun v hne => ?_, fun v hx hlast => ?_, fun y => ?_,
    fun leave hleave => ?_, (releaseKey_voiceWork s x).2, ?_⟩
  · rw [hholders]
    exact (hnodup v).not_mem_erase
  · by_cases hx : x ∈ s.vtb.voices[v].holders
    · obtain ⟨u, hu, he⟩ := (hvoice v).2 hx
      rw [he, leaveVoice_shared (by rw [hu]; exact hne), hu]
    · rw [(hvoice v).1 hx, List.erase_of_not_mem hx]
  · obtain ⟨u, hu, he⟩ := (hvoice v).2 hx
    rw [he]
    exact leaveVoice_last (by rw [hu]; exact hlast)
  · have hvoiced : ((s.heldSlots x fun _ => true).foldl (leaveVoice x) s).vtb.voicedAs = s.vtb.voicedAs := by
      rw [leaves_frame]
    rw [releaseKey_eq, State.setVoicedAs_get, hvoiced]
    simp only [List.mem_singleton]
  · have hfun : leave = leaveVoice x := funext fun u => funext fun v => (hleave u v).trans (leaveVoice_eq x u v).symm
    have hslots : (List.finRange 48).filter (fun v => x ∈ s.vtb.voices[v].holders) = s.heldSlots x fun _ => true := by
      refine List.filter_congr fun v _ => ?_
      rw [Bool.and_true, Bool.eq_iff_iff, List.contains_iff_mem, decide_eq_true_iff]
    rw [hfun, releaseKey_eq]
    exact congrArg (fun vs : List Slot => (vs.foldl (leaveVoice x) s).setVoicedAs [x] none) hslots.symm
  · rw [releaseKey_eq, leaves_frame]
    rfl

end Sys2Proof.Machine

/-! PROOF. Re-expansion (R76 to R79): the leaves of one crosspoint do not change what the others hold, so the sets at the
event are those at each crosspoint's turn. -/

namespace Sys2Proof.Machine

/-! ## What a crosspoint holds while others leave -/

/-- `t` and `s` agree about the voices that x holds, and about the mode of x. -/
structure HoldsAlike (x : Crosspoint) (s t : State) : Prop where
  holds : ∀ v : Slot, x ∈ t.vtb.voices[v].holders ↔ x ∈ s.vtb.voices[v].holders
  live : ∀ v : Slot, x ∈ s.vtb.voices[v].holders → t.vtb.voices[v].soundsLive = s.vtb.voices[v].soundsLive
  orphan : ∀ v : Slot, x ∈ s.vtb.voices[v].holders → t.vtb.voices[v].soundsOrphan = s.vtb.voices[v].soundsOrphan
  entry : ∀ v : Slot, x ∈ s.vtb.voices[v].holders →
    t.vtb.voices[v].layer = s.vtb.voices[v].layer ∧ t.vtb.voices[v].pitch = s.vtb.voices[v].pitch
  mode : t.modeOf x = s.modeOf x

theorem HoldsAlike.refl (x : Crosspoint) (s : State) : HoldsAlike x s s :=
  ⟨fun _ => Iff.rfl, fun _ _ => rfl, fun _ _ => rfl, fun _ _ => ⟨rfl, rfl⟩, rfl⟩

theorem leaveVoice_modeOf (x y : Crosspoint) (s : State) (v : Slot) : (leaveVoice y s v).modeOf x = s.modeOf x := by
  rw [leaveVoice_frame]
  rfl

/-- A leave of another crosspoint keeps what x holds. -/
theorem HoldsAlike.leave {x y : Crosspoint} {s t : State} (h : HoldsAlike x s t) (hxy : x ≠ y) (v : Slot) :
    HoldsAlike x s (leaveVoice y t v) := by
  have hvoice : ∀ w : Slot, ∃ holders, (x ∈ holders ↔ x ∈ t.vtb.voices[w].holders)
      ∧ (leaveVoice y t v).vtb.voices[w].holders = holders
      ∧ (x ∈ t.vtb.voices[w].holders → (leaveVoice y t v).vtb.voices[w] = { t.vtb.voices[w] with holders := holders }) := by
    intro w
    by_cases hw : w = v
    · subst hw
      refine ⟨t.vtb.voices[w].holders.erase y, List.mem_erase_of_ne hxy, leaveVoice_holders y t w, fun hx => ?_⟩
      exact leaveVoice_shared (List.ne_nil_of_mem ((List.mem_erase_of_ne hxy).mpr hx))
    · exact ⟨t.vtb.voices[w].holders, Iff.rfl, by rw [leaveVoice_voice_ne y t hw],
        fun _ => leaveVoice_voice_ne y t hw⟩
  have hkept : ∀ w : Slot, x ∈ s.vtb.voices[w].holders →
      ∃ holders, (leaveVoice y t v).vtb.voices[w] = { t.vtb.voices[w] with holders := holders } := fun w hx => by
    obtain ⟨holders, -, -, he⟩ := hvoice w
    exact ⟨holders, he ((h.holds w).mpr hx)⟩
  refine ⟨fun w => ?_, fun w hx => ?_, fun w hx => ?_, fun w hx => ?_, (leaveVoice_modeOf x y t v).trans h.mode⟩
  · obtain ⟨holders, hmem, hh, -⟩ := hvoice w
    rw [hh, hmem, h.holds w]
  · obtain ⟨holders, he⟩ := hkept w hx
    rw [he, ← h.live w hx]
    rfl
  · obtain ⟨holders, he⟩ := hkept w hx
    rw [he, ← h.orphan w hx]
    rfl
  · obtain ⟨holders, he⟩ := hkept w hx
    rw [he]
    exact h.entry w hx

theorem HoldsAlike.leaves {x y : Crosspoint} {s t : State} (h : HoldsAlike x s t) (hxy : x ≠ y) (vs : List Slot) :
    HoldsAlike x s (vs.foldl (leaveVoice y) t) := by
  induction vs generalizing t with
  | nil => exact h
  | cons v vs ih => exact ih (h.leave hxy v)

/-! ## The leave phase of one crosspoint -/

/-- The voices that x leaves because they stand for no entry of its new list (R76). -/
def State.unmatchedSlots (s : State) (x : Crosspoint) (list : List (LayerPos × Pitch)) : List Slot :=
  s.heldSlots x (leavesFor list)

/-- The orphans that x leaves at a reversal if its section is BISONORIC (R78). -/
def State.orphanSlots (s : State) (orphans : Bool) (x : Crosspoint) : List Slot :=
  if orphans && s.modeOf x == some .bisonoric then s.heldSlots x Voice.soundsOrphan else []

theorem leavesFor_eq (list : List (LayerPos × Pitch)) (y : Voice) :
    leavesFor list y = (y.soundsLive && !decide ((y.layer, y.pitch) ∈ list)) := by
  have hany : list.any y.matchesEntry = decide ((y.layer, y.pitch) ∈ list) := by
    rw [Bool.eq_iff_iff, List.any_eq_true, decide_eq_true_iff]
    constructor
    · rintro ⟨e, he, hm⟩
      rw [Voice.matchesEntry, Bool.and_eq_true, beq_iff_eq, beq_iff_eq] at hm
      rwa [hm.1, hm.2]
    · exact fun h => ⟨_, h, by rw [Voice.matchesEntry, beq_self_eq_true, beq_self_eq_true]; rfl⟩
  rw [leavesFor, hany]

theorem HoldsAlike.unmatchedSlots {x : Crosspoint} {s t : State} (h : HoldsAlike x s t) (list : List (LayerPos × Pitch)) :
    t.unmatchedSlots x list = s.unmatchedSlots x list := by
  unfold State.unmatchedSlots State.heldSlots
  refine List.filter_congr fun v _ => ?_
  have hholds : t.vtb.voices[v].holders.contains x = s.vtb.voices[v].holders.contains x := by
    rw [Bool.eq_iff_iff, List.contains_iff_mem, List.contains_iff_mem]
    exact h.holds v
  rw [hholds]
  cases hx : s.vtb.voices[v].holders.contains x with
  | false => rfl
  | true =>
    have hmem := List.contains_iff_mem.mp hx
    obtain ⟨hl, hp⟩ := h.entry v hmem
    rw [leavesFor_eq, leavesFor_eq, h.live v hmem, hl, hp]

/-- Once x has left LIVE voices, the orphans that it holds are those that it held. -/
theorem HoldsAlike.orphanSlots {x : Crosspoint} {s t : State} (h : HoldsAlike x s t) (orphans : Bool)
    (list : List (LayerPos × Pitch)) :
    ((s.unmatchedSlots x list).foldl (leaveVoice x) t).orphanSlots orphans x = s.orphanSlots orphans x := by
  have hmode : ((s.unmatchedSlots x list).foldl (leaveVoice x) t).modeOf x = s.modeOf x := by
    rw [leaves_frame]
    exact h.mode
  unfold State.orphanSlots
  rw [hmode]
  refine congrArg (ite _ · []) (List.filter_congr fun v _ => ?_)
  obtain ⟨hout, hin⟩ := leaves_voice x (heldSlots_nodup s x (leavesFor list)) t v
  by_cases hv : v ∈ s.unmatchedSlots x list
  · obtain ⟨hx, hleaves⟩ := (mem_heldSlots s x _ v).mp hv
    rw [leavesFor_eq, Bool.and_eq_true] at hleaves
    have hlive : s.vtb.voices[v].state = .sounding ∧ s.vtb.voices[v].origin = .live := by
      simpa [Voice.soundsLive] using hleaves.1
    have horigin : s.vtb.voices[v].soundsOrphan = false := by rw [Voice.soundsOrphan, hlive.2, Bool.and_comm]; rfl
    obtain ⟨u, hu, he⟩ := hin hv
    have hgone : (leaveVoice x u v).vtb.voices[v].soundsOrphan = false := by
      by_cases hlast : u.vtb.voices[v].holders.erase x = []
      · rw [Voice.soundsOrphan, beq_false_of_ne (leaveVoice_last hlast), Bool.false_and]
      · rw [leaveVoice_shared hlast, hu]
        exact (h.orphan v hx).trans horigin
    rw [State.unmatchedSlots] at *
    rw [he, hgone, horigin, Bool.and_false, Bool.and_false]
  · rw [show ((s.unmatchedSlots x list).foldl (leaveVoice x) t).vtb.voices[v] = t.vtb.voices[v] from hout hv]
    have hholds : t.vtb.voices[v].holders.contains x = s.vtb.voices[v].holders.contains x := by
      rw [Bool.eq_iff_iff, List.contains_iff_mem, List.contains_iff_mem]
      exact h.holds v
    rw [hholds]
    cases hx : s.vtb.voices[v].holders.contains x with
    | false => rfl
    | true => rw [h.orphan v (List.contains_iff_mem.mp hx)]

theorem HoldsAlike.leavePhase {x : Crosspoint} {s t : State} (h : HoldsAlike x s t) (orphans : Bool)
    (list : List (LayerPos × Pitch)) :
    leavePhase orphans t (x, list)
      = (s.orphanSlots orphans x).foldl (leaveVoice x) ((s.unmatchedSlots x list).foldl (leaveVoice x) t) := by
  have hphase : Machine.leavePhase orphans t (x, list)
      = (((t.unmatchedSlots x list).foldl (leaveVoice x) t).orphanSlots orphans x).foldl (leaveVoice x)
          ((t.unmatchedSlots x list).foldl (leaveVoice x) t) := by
    have hslots : ∀ u : State, Machine.leavePhase orphans u (x, list)
        = ((leaveAll x (leavesFor list) u).orphanSlots orphans x).foldl (leaveVoice x)
            (leaveAll x (leavesFor list) u) := fun u => by
      unfold Machine.leavePhase State.orphanSlots
      simp only []
      generalize leaveAll x (leavesFor list) u = w
      split <;> rfl
    exact hslots t
  rw [hphase, h.unmatchedSlots list, h.orphanSlots orphans list]

/-- The leaves of a list of crosspoints are those of the sets at the event (log entry 7). -/
theorem leavePhases_eq {s t : State} {xs : List Crosspoint} (h : ∀ x ∈ xs, HoldsAlike x s t) (hxs : xs.Nodup)
    (orphans : Bool) (d : Dir) :
    (xs.map fun x => (x, s.expand x d)).foldl (leavePhase orphans) t
      = xs.foldl (fun t x => (s.orphanSlots orphans x).foldl (leaveVoice x)
          ((s.unmatchedSlots x (s.expand x d)).foldl (leaveVoice x) t)) t := by
  induction xs generalizing t with
  | nil => rfl
  | cons x xs ih =>
    obtain ⟨hx, hxs⟩ := List.nodup_cons.mp hxs
    rw [List.map_cons, List.foldl_cons, List.foldl_cons, (h x List.mem_cons_self).leavePhase]
    refine ih (fun y hy => ?_) hxs
    have hne : y ≠ x := fun e => hx (e ▸ hy)
    exact ((h y (List.mem_cons_of_mem x hy)).leaves hne _).leaves hne _

/-! ## Re-expansion -/

/-- The re-expansion's joins, from the sets at the event (R76). -/
theorem reexpand_eq (orphans : Bool) (d : Dir) (xs : List Crosspoint) (s : State) :
    reexpand orphans d xs s
      = (xs.foldl (fun t x => (s.unmatched x (s.expand x d)).foldl (joinEntry x) t)
          ((xs.map fun x => (x, s.expand x d)).foldl (leavePhase orphans) s)).setVoicedAs xs (some d) := by
  unfold reexpand
  simp only [List.map_map, List.foldl_map]
  rfl

theorem unmatched_eq (s : State) (x : Crosspoint) (list : List (LayerPos × Pitch)) :
    s.unmatched x list = list.filter fun e => ∀ v : Slot, ¬ (x ∈ s.vtb.voices[v].holders
      ∧ s.vtb.voices[v].soundsLive = true ∧ s.vtb.voices[v].layer = e.1 ∧ s.vtb.voices[v].pitch = e.2) := by
  unfold State.unmatched
  refine List.filter_congr fun e _ => ?_
  rw [Bool.eq_iff_iff, List.isEmpty_iff, decide_eq_true_iff, List.eq_nil_iff_forall_not_mem]
  refine forall_congr' fun v => not_congr ?_
  rw [mem_heldSlots, Bool.and_eq_true, Voice.matchesEntry, Bool.and_eq_true, beq_iff_eq, beq_iff_eq]

theorem unmatchedSlots_eq (s : State) (x : Crosspoint) (list : List (LayerPos × Pitch)) :
    s.unmatchedSlots x list = (List.finRange 48).filter fun v => x ∈ s.vtb.voices[v].holders
      ∧ s.vtb.voices[v].soundsLive = true ∧ (s.vtb.voices[v].layer, s.vtb.voices[v].pitch) ∉ list := by
  unfold State.unmatchedSlots State.heldSlots
  refine List.filter_congr fun v _ => ?_
  rw [leavesFor_eq, Bool.eq_iff_iff, decide_eq_true_iff, Bool.and_eq_true, Bool.and_eq_true, List.contains_iff_mem,
    Bool.not_eq_true', decide_eq_false_iff_not]

theorem orphanSlots_eq (s : State) (orphans : Bool) (x : Crosspoint) :
    s.orphanSlots orphans x = (List.finRange 48).filter fun v => x ∈ s.vtb.voices[v].holders
      ∧ s.vtb.voices[v].soundsOrphan = true ∧ orphans = true ∧ s.modeOf x = some .bisonoric := by
  unfold State.orphanSlots
  by_cases h : orphans = true ∧ s.modeOf x = some .bisonoric
  · have hc : (orphans && s.modeOf x == some .bisonoric) = true := by
      rw [Bool.and_eq_true, beq_iff_eq]
      exact h
    rw [if_pos hc]
    refine List.filter_congr fun v _ => ?_
    rw [Bool.eq_iff_iff, decide_eq_true_iff, Bool.and_eq_true, List.contains_iff_mem]
    exact and_congr_right fun _ => (and_iff_left h).symm
  · have hc : ¬ (orphans && s.modeOf x == some .bisonoric) = true := by
      rw [Bool.and_eq_true, beq_iff_eq]
      exact h
    rw [if_neg hc]
    symm
    rw [List.filter_eq_nil_iff]
    intro v _ hv
    obtain ⟨-, -, hv⟩ := of_decide_eq_true hv
    exact h hv

theorem modeOf_bisonoric_iff (s : State) (x : Crosspoint) : s.modeOf x = some .bisonoric ↔
    ((∃ k, s.bsc.roles[x] = .treble k) ∧ s.sst.live.settings.trebleMode = .bisonoric)
      ∨ ((∃ c r, s.bsc.roles[x] = .bass c r) ∧ s.sst.live.settings.bassMode = .bisonoric) := by
  unfold State.modeOf
  cases s.bsc.roles[x] <;> simp [Role.sect, Settings.mode]

theorem reversalReexpand_eq (s : State) :
    reversalReexpand s
      = reexpand true s.bfe.bd ((List.finRange 256).filter fun x => s.vtb.voicedAs[x] ≠ none) s := by
  have hvoiced : s.voiced = (List.finRange 256).filter fun x => s.vtb.voicedAs[x] ≠ none := by
    refine List.filter_congr fun x _ => ?_
    rw [Bool.eq_iff_iff, Option.isSome_iff_ne_none, decide_eq_true_iff]
  rw [reversalReexpand, hvoiced]

/-- Settles O36: the leave sets and the unmatched entries are those at the event, which the leaves of other crosspoints do
not change. -/
theorem matchedVoicesAreUntouched : Obligations.MatchedVoicesAreUntouched := by
  unfold Obligations.MatchedVoicesAreUntouched
  refine ⟨fun s d xs hstay hfound => ?_, fun s left joined orphans d xs leave _ hxs hleave hleft hjoined => ?_,
    fun s => ⟨modeOf_bisonoric_iff s, reversalReexpand_eq s⟩⟩
  · have hslots : ∀ x ∈ xs, s.unmatchedSlots x (s.expand x d) = [] := fun x hx => by
      rw [unmatchedSlots_eq, List.filter_eq_nil_iff]
      intro v _ hv
      obtain ⟨hh, hlive, hnot⟩ := of_decide_eq_true hv
      obtain ⟨hs, ho⟩ : s.vtb.voices[v].state = .sounding ∧ s.vtb.voices[v].origin = .live := by
        simpa [Voice.soundsLive] using hlive
      exact hnot (hstay x hx v hh hs ho)
    have hentries : ∀ x ∈ xs, s.unmatched x (s.expand x d) = [] := fun x hx => by
      rw [unmatched_eq, List.filter_eq_nil_iff]
      intro e he hv
      obtain ⟨v, hh, hs, ho, hl, hp⟩ := hfound x hx e he
      exact of_decide_eq_true hv v ⟨hh, by rw [Voice.soundsLive, hs, ho]; rfl, hl, hp⟩
    have hleaves : ∀ ys : List Crosspoint, (∀ y ∈ ys, y ∈ xs) →
        (ys.map fun x => (x, s.expand x d)).foldl (leavePhase false) s = s := fun ys hys => by
      induction ys with
      | nil => rfl
      | cons y ys ih =>
        rw [List.map_cons, List.foldl_cons, (HoldsAlike.refl y s).leavePhase, hslots y (hys y List.mem_cons_self)]
        exact ih fun z hz => hys z (List.mem_cons_of_mem y hz)
    have hjoins : ∀ ys : List Crosspoint, (∀ y ∈ ys, y ∈ xs) →
        ys.foldl (fun t x => (s.unmatched x (s.expand x d)).foldl (joinEntry x) t) s = s := fun ys hys => by
      induction ys with
      | nil => rfl
      | cons y ys ih =>
        rw [List.foldl_cons, hentries y (hys y List.mem_cons_self)]
        exact ih fun z hz => hys z (List.mem_cons_of_mem y hz)
    rw [reexpand_eq, hleaves xs fun _ h => h, hjoins xs fun _ h => h]
  · have hfun : ∀ x, leave x = leaveVoice x := fun x =>
      funext fun u => funext fun v => (hleave x u v).trans (leaveVoice_eq x u v).symm
    have hleaves : left = xs.foldl (fun t x => (s.orphanSlots orphans x).foldl (leaveVoice x)
        ((s.unmatchedSlots x (s.expand x d)).foldl (leaveVoice x) t)) s := by
      simp only [hleft, hfun, orphanSlots_eq, unmatchedSlots_eq]
    rw [reexpand_eq, leavePhases_eq (fun x _ => HoldsAlike.refl x s) hxs, ← hleaves]
    simp only [hjoined, unmatched_eq]

end Sys2Proof.Machine

/-! PROOF. The tier check and the transfers of scenes, as the statements spell them (R46 to R48, R80, R111, R112, R127). -/

namespace Sys2Proof.Machine

/-! ## The tier check -/

theorem replaceFirst_split {p : LaneRecord → Bool} {q : LaneRecord} (r : LaneRecord) {before : List LaneRecord}
    (after : List LaneRecord) (hb : ∀ a ∈ before, p a = false) (hq : p q = true) :
    replaceFirst p r (before ++ q :: after) = before ++ r :: after := by
  induction before with
  | nil => exact if_pos hq
  | cons a before ih =>
    have ha : ¬ p a = true := by rw [hb a List.mem_cons_self]; exact Bool.false_ne_true
    exact (if_neg ha).trans (congrArg (a :: ·) (ih fun b h => hb b (List.mem_cons_of_mem a h)))

/-- An update offered to a lane with an unsent record of its kind replaces the first in place (R148). -/
theorem Lane.takeUpdate_replaces {l : Lane} {p : LaneRecord → Bool} {q : LaneRecord} (r : LaneRecord)
    {before after : List LaneRecord} (hu : l.unsent = before ++ q :: after) (hq : p q = true)
    (hb : ∀ a ∈ before, p a = false) :
    l.takeUpdate p r = some { l with queue := l.sent ++ before ++ r :: after } := by
  have hany : l.unsent.any p = true := by
    rw [hu, List.any_eq_true]
    exact ⟨q, List.mem_append_right _ List.mem_cons_self, hq⟩
  rcases l.takeUpdate_cases p r with ⟨_, e⟩ | ⟨hno, _⟩ | ⟨hno, _⟩
  · rw [e, hu, replaceFirst_split r after hb hq, List.append_assoc]
  · rw [hno] at hany
    cases hany
  · rw [hno] at hany
    cases hany

/-- An update offered to a lane without an unsent record of its kind joins the tail, or is discarded (R148). -/
theorem Lane.takeUpdate_tail {l : Lane} {p : LaneRecord → Bool} (r : LaneRecord) (h : ∀ a ∈ l.unsent, p a = false) :
    l.takeUpdate p r = if 32 ≤ l.queue.length then none else some (l.append r) := by
  have hany : l.unsent.any p = false := by
    rw [List.any_eq_false]
    exact fun a ha => by rw [h a ha]; exact Bool.false_ne_true
  rcases l.takeUpdate_cases p r with ⟨hyes, _⟩ | ⟨_, hroom, e⟩ | ⟨_, hfull, e⟩
  · rw [hany] at hyes
    cases hyes
  · rw [e, if_neg (Nat.not_le.mpr hroom)]
  · rw [e, if_pos hfull]

theorem Lane.takeTier_none_iff (l : Lane) (c : TierCode) :
    l.takeTier c = none ↔ (∀ r ∈ l.unsent, r.isTier = false) ∧ 32 ≤ l.queue.length := by
  constructor
  · intro h
    rcases l.takeUpdate_cases LaneRecord.isTier (.tier c) with ⟨_, e⟩ | ⟨_, _, e⟩ | ⟨hno, hfull, _⟩
    · rw [Lane.takeTier, e] at h
      cases h
    · rw [Lane.takeTier, e] at h
      cases h
    · exact ⟨fun r hr => by simpa using List.any_eq_false.mp hno r hr, hfull⟩
  · rintro ⟨hno, hfull⟩
    exact (Lane.takeUpdate_tail _ hno).trans (if_pos hfull)

theorem Lane.tierOffered_take {l : Lane} (h : l.state = .live) (c : TierCode) :
    l.TierOffered ((l.takeTier c).getD l) c := by
  have htransmits : l.transmits = true := by rw [Lane.transmits, h]; rfl
  refine ⟨fun hno => absurd h hno, fun _ => ⟨fun before after q hu hq hb => ?_, fun hno => ?_⟩⟩
  · rw [Lane.takeTier, Lane.takeUpdate_replaces _ hu hq hb]
    rfl
  · rw [Lane.takeTier, Lane.takeUpdate_tail _ hno, Lane.append_eq_joined _ htransmits]
    split <;> rfl

theorem offerTiers_frame (code : TierCode) (ns : List LaneNo) (p : State × Bool) :
    (ns.foldl (offerTier code) p).1 = { p.1 with lanes := (ns.foldl (offerTier code) p).1.lanes } := by
  induction ns generalizing p with
  | nil => rfl
  | cons n ns ih =>
    rw [List.foldl_cons]
    refine (ih (offerTier code p n)).trans ?_
    have hone : (offerTier code p n).1 = { p.1 with lanes := (offerTier code p n).1.lanes } := by
      unfold offerTier
      split
      · split <;> rfl
      · rfl
    rw [hone]

theorem tierOffered_frame (s : State) :
    s.tierOffered.1 = { s.raise (.tier s.tierCode) with lanes := s.tierOffered.1.lanes } := by
  have h := offerTiers_frame s.tierCode allLanes (s.raise (.tier s.tierCode), true)
  unfold State.tierOffered
  generalize allLanes.foldl (offerTier s.tierCode) (s.raise (.tier s.tierCode), true) = q at h ⊢
  exact h

theorem tierPosted_of_frame {s : State} {code : TierCode} {p : State × Bool} {n : Notice}
    (h : p.1 = { s.raise n with lanes := p.1.lanes }) :
    tierPosted code p = { s.raise n with
      dyn := { s.dyn with lastCode := (tierPosted code p).dyn.lastCode }, lanes := (tierPosted code p).lanes } := by
  obtain ⟨t, b⟩ := p
  change t = _ at h
  rw [h]
  rfl

theorem tierCheck_frame_posts {s : State} (h : s.dyn.lastCode ≠ some s.tierCode) :
    tierCheck s = { s.raise (.tier s.tierCode) with
      dyn := { s.dyn with lastCode := (tierCheck s).dyn.lastCode }, lanes := (tierCheck s).lanes } := by
  have hcheck : tierCheck s = tierPosted s.tierCode s.tierOffered := by rw [tierCheck_eq, if_neg h]
  have hframe := tierPosted_of_frame (code := s.tierCode) (tierOffered_frame s)
  rwa [← hcheck] at hframe

/-- The tier check as R111 and R112 give it. -/
theorem tierCheck_tierChecked (u : State) : TierChecked u (tierCheck u) := by
  rintro c rfl
  refine ⟨fun h => tierCheck_same h, fun h => ?_⟩
  obtain ⟨hlanes, hcode⟩ := tierCheck_posts h
  have hdiscards : (tierCheck u).dyn.lastCode = none ↔ ∃ n : LaneNo, u.lanes[n].state = .live
      ∧ u.lanes[n].takeTier u.tierCode = none := by
    rw [hcode]
    constructor
    · intro hnone
      by_contra hno
      refine absurd hnone ?_
      rw [if_pos]
      · exact nofun
      · rw [List.all_eq_true]
        intro n _
        rw [Bool.not_eq_true', ← Bool.not_eq_true, Bool.and_eq_true, beq_iff_eq, Option.isNone_iff_eq_none]
        exact fun hn => hno ⟨n, hn⟩
    · rintro ⟨n, hlive, hnone⟩
      refine if_neg fun hall => ?_
      have hn := List.all_eq_true.mp hall n (mem_allLanes n)
      rw [hlive, hnone] at hn
      exact absurd hn (by decide)
  refine ⟨?_, hdiscards.trans (exists_congr fun n => and_congr_right fun _ => Lane.takeTier_none_iff _ _), fun n => ?_,
    tierCheck_frame_posts h⟩
  · rw [hcode]
    split
    · exact .inr rfl
    · exact .inl rfl
  · rw [hlanes n]
    by_cases hlive : u.lanes[n].state = .live
    · rw [if_pos hlive]
      exact Lane.tierOffered_take hlive _
    · rw [if_neg hlive]
      exact ⟨fun _ => rfl, fun h => absurd h hlive⟩

end Sys2Proof.Machine

/-! PROOF. The cue transfer of LAYERS and the transfers built on it (R46 to R48, R80, R127, R130). -/

namespace Sys2Proof.Machine

/-! ## What the Voice Table's work leaves of an expansion -/

theorem OnlyVoiceWork.expand {s t : State} (h : OnlyVoiceWork s t) (x : Crosspoint) (d : Dir) :
    t.expand x d = s.expand x d := by
  rw [h.1]
  rfl

theorem OnlyVoiceWork.carries {s t : State} (h : OnlyVoiceWork s t) (i : LayerPos) : t.carries i = s.carries i := by
  rw [h.1]
  rfl

theorem carries_eq (s : State) (i : LayerPos) : s.carries i = s.sst.live.carriesAt i := by
  unfold State.carries LiveCopy.carriesAt
  cases s.sst.live.layers[i] <;> rfl

/-- The entries of carry positions in the expansion of a crosspoint (R80). -/
def State.carriedEntries (s : State) (x : Crosspoint) : List (LayerPos × Pitch) :=
  (s.expand x s.bfe.bd).filter fun e => s.carries e.1

theorem joinCarried_eq (s : State) (x : Crosspoint) : joinCarried s x = (s.carriedEntries x).foldl (joinEntry x) s := rfl

theorem OnlyVoiceWork.carriedEntries {s t : State} (h : OnlyVoiceWork s t) (x : Crosspoint) :
    t.carriedEntries x = s.carriedEntries x := by
  have hbd : t.bfe.bd = s.bfe.bd := by rw [h.1]
  unfold State.carriedEntries
  rw [hbd, h.expand]
  exact List.filter_congr fun e _ => h.carries e.1

/-- The joins of a cue transfer, with the entries at its start. -/
theorem joinsCarried_eq {s u : State} (h : OnlyVoiceWork s u) (xs : List Crosspoint) :
    xs.foldl joinCarried u = xs.foldl (fun u x => (s.carriedEntries x).foldl (joinEntry x) u) u := by
  induction xs generalizing u with
  | nil => rfl
  | cons x xs ih =>
    rw [List.foldl_cons, List.foldl_cons, joinCarried_eq, h.carriedEntries]
    exact ih (h.trans (.foldl (joinEntry_voiceWork x) _ _))

/-! ## Orphans sound on while slots are FREE -/

/-- The number of FREE slots. -/
def State.freeSlots (s : State) : Nat := (List.finRange 48).countP fun v => s.vtb.voices[v].state == .free

theorem countP_le_of_one {α : Type} [DecidableEq α] {p q : α → Bool} {a : α} {l : List α} (hl : l.Nodup)
    (h : ∀ b, b ≠ a → p b = q b) : l.countP p ≤ l.countP q + 1 := by
  induction l with
  | nil => exact Nat.zero_le _
  | cons b l ih =>
    obtain ⟨hb, hl⟩ := List.nodup_cons.mp hl
    rw [List.countP_cons, List.countP_cons]
    by_cases hba : b = a
    · subst hba
      have hsame : l.countP p = l.countP q :=
        List.countP_congr fun c hc => by rw [h c fun e => hb (e ▸ hc)]
      rw [hsame]
      split <;> split <;> omega
    · rw [h b hba]
      have := ih hl
      omega

theorem joinEntry_freeSlots (x : Crosspoint) (s : State) (e : LayerPos × Pitch) :
    s.freeSlots ≤ (joinEntry x s e).freeSlots + 1 := by
  have hnone : (∀ v : Slot, s.vtb.voices[v].state ≠ .free) → s.freeSlots = 0 := fun h => by
    unfold State.freeSlots
    rw [List.countP_eq_zero]
    exact fun v _ hv => h v (beq_iff_eq.mp hv)
  rcases joinEntry_cases x s e with ⟨v, _, _, h⟩ | ⟨v, _, _, _, h⟩ | ⟨v, _, _, _, h⟩ | ⟨_, h⟩ <;> rw [h]
  · exact Nat.le_succ _
  · refine countP_le_of_one (a := v) (List.nodup_finRange 48) fun w hw => ?_
    rw [State.setVoice_get_ne _ _ hw]
  · exact Nat.le_succ _
  · rcases allocate_cases x s e with ⟨_, h⟩ | ⟨l, v, _, _, h⟩ | ⟨_, h⟩ | ⟨_, _, _, hfull, _⟩ | ⟨_, hfull, _⟩
    · rw [h]
      exact Nat.le_succ _
    · rw [h]
      refine countP_le_of_one (a := v) (List.nodup_finRange 48) fun w hw => ?_
      rw [fillSlot_voice_ne x e l s v hw]
    · rw [h]
      exact Nat.le_succ _
    · rw [hnone hfull]
      exact Nat.zero_le _
    · rw [hnone hfull]
      exact Nat.zero_le _

/-- With a FREE slot a join leaves an orphan that sounds alone. -/
theorem joinEntry_orphan (x : Crosspoint) {s : State} (e : LayerPos × Pitch) {v : Slot}
    (hs : s.vtb.voices[v].state = .sounding) (ho : s.vtb.voices[v].origin = .orphan) (hfree : 0 < s.freeSlots) :
    (joinEntry x s e).vtb.voices[v] = s.vtb.voices[v] := by
  obtain ⟨w, -, hw⟩ := List.countP_pos_iff.mp hfree
  have hw := beq_iff_eq.mp hw
  rcases joinEntry_cases x s e with ⟨u, _, _, h⟩ | ⟨u, hu, _, _, h⟩ | ⟨u, _, _, _, h⟩ | ⟨_, h⟩ <;> rw [h]
  · obtain ⟨-, hlive, -⟩ := State.findLive_some hu
    refine State.setVoice_get_ne _ _ ?_
    rintro rfl
    rw [hlive] at ho
    cases ho
  · rfl
  · rcases allocate_cases x s e with ⟨_, h⟩ | ⟨l, u, _, hu, h⟩ | ⟨_, h⟩ | ⟨_, _, _, hfull, _⟩ | ⟨_, hfull, _⟩
    · rw [h]
    · rw [h]
      refine fillSlot_voice_ne x e l s u ?_
      rintro rfl
      rw [hs] at hu
      cases hu
    · rw [h]
      rfl
    · exact absurd hw (hfull w)
    · exact absurd hw (hfull w)

theorem joins_orphan (x : Crosspoint) {es : List (LayerPos × Pitch)} {s : State} {v : Slot}
    (hs : s.vtb.voices[v].state = .sounding) (ho : s.vtb.voices[v].origin = .orphan) (hfree : es.length ≤ s.freeSlots) :
    (es.foldl (joinEntry x) s).vtb.voices[v] = s.vtb.voices[v]
      ∧ s.freeSlots ≤ (es.foldl (joinEntry x) s).freeSlots + es.length := by
  induction es generalizing s with
  | nil => exact ⟨rfl, Nat.le_refl _⟩
  | cons e es ih =>
    rw [List.length_cons] at hfree
    have hone := joinEntry_orphan x e hs ho (by omega)
    have hslots := joinEntry_freeSlots x s e
    obtain ⟨hrest, hcount⟩ := ih (s := joinEntry x s e) (by rw [hone]; exact hs) (by rw [hone]; exact ho) (by omega)
    rw [List.foldl_cons, List.length_cons]
    exact ⟨hrest.trans hone, by omega⟩

theorem joinRuns_orphan {entries : Crosspoint → List (LayerPos × Pitch)} {xs : List Crosspoint} {s : State} {v : Slot}
    (hs : s.vtb.voices[v].state = .sounding) (ho : s.vtb.voices[v].origin = .orphan)
    (hfree : (xs.flatMap entries).length ≤ s.freeSlots) :
    (xs.foldl (fun u x => (entries x).foldl (joinEntry x) u) s).vtb.voices[v] = s.vtb.voices[v] := by
  induction xs generalizing s with
  | nil => rfl
  | cons x xs ih =>
    rw [List.flatMap_cons, List.length_append] at hfree
    obtain ⟨hone, hcount⟩ := joins_orphan x (es := entries x) hs ho (by omega)
    rw [List.foldl_cons]
    exact (ih (by rw [hone]; exact hs) (by rw [hone]; exact ho) (by omega)).trans hone

/-! ## The cue transfer of LAYERS -/

/-- Every voice orphaned (R80, step 1). -/
def State.orphaned (s : State) : State := s.mapVoices fun _ y => y.orphaned

theorem State.orphaned_voice (s : State) (v : Slot) : s.orphaned.vtb.voices[v] = s.vtb.voices[v].orphaned :=
  State.mapVoices_get s _ v

theorem orphaned_soundsOrphan (y : Voice) : y.orphaned.soundsOrphan = (y.state == .sounding) := by
  unfold Voice.orphaned Voice.soundsOrphan
  cases h : y.state <;> simp [h]

theorem orphaned_layer (y : Voice) : y.orphaned.layer = y.layer := by
  unfold Voice.orphaned
  split <;> rfl

theorem ends_voice_not_mem (vs : List Slot) (s : State) {v : Slot} (h : v ∉ vs) :
    (vs.foldl endVoice s).vtb.voices[v] = s.vtb.voices[v] := by
  induction vs generalizing s with
  | nil => rfl
  | cons w vs ih =>
    obtain ⟨hne, hnot⟩ := not_or.mp (mt List.mem_cons.mpr h)
    rw [List.foldl_cons, ih _ hnot, endVoice_voice_ne s hne]

theorem ends_voicedAs (vs : List Slot) (s : State) : (vs.foldl endVoice s).vtb.voicedAs = s.vtb.voicedAs := by
  induction vs generalizing s with
  | nil => rfl
  | cons v vs ih => rw [List.foldl_cons, ih, endVoice_voicedAs]

/-- The voices that a cue transfer ends (R80, step 2). -/
def State.carriedSlots (s : State) : List Slot :=
  (List.finRange 48).filter fun v => s.vtb.voices[v].state == .sounding && s.sst.live.carriesAt s.vtb.voices[v].layer

theorem State.carriedEnded_eq (s : State) : s.orphaned.carriedEnded = s.carriedSlots.foldl endVoice s.orphaned := by
  have hslots : (allSlots.filter fun v =>
      s.orphaned.vtb.voices[v].soundsOrphan && s.orphaned.carries s.orphaned.vtb.voices[v].layer) = s.carriedSlots := by
    refine List.filter_congr fun v _ => ?_
    rw [State.orphaned_voice, orphaned_soundsOrphan, orphaned_layer, carries_eq]
    rfl
  exact congrArg (fun vs : List Slot => vs.foldl endVoice s.orphaned) hslots

theorem State.carriedEnded_voiced (s : State) :
    s.orphaned.carriedEnded.voiced = (List.finRange 256).filter fun x => s.vtb.voicedAs[x].isSome := by
  rw [State.carriedEnded_eq]
  unfold State.voiced
  rw [ends_voicedAs]
  rfl

theorem State.carriedEnded_voiceWork (s : State) : OnlyVoiceWork s s.orphaned.carriedEnded := by
  rw [State.carriedEnded_eq]
  exact (State.mapVoices_voiceWork s _).trans (.foldl endVoice_voiceWork _ _)

/-- The cue transfer as its three steps, with the entries at its start (R80). -/
theorem layersTransferred_spelled (s : State) :
    layersTransferred s = ((List.finRange 256).filter fun x => s.vtb.voicedAs[x].isSome).foldl
      (fun u x => (s.carriedEntries x).foldl (joinEntry x) u) (s.carriedSlots.foldl endVoice s.orphaned) := by
  have h : layersTransferred s = s.orphaned.carriedEnded.voiced.foldl joinCarried s.orphaned.carriedEnded :=
    layersTransferred_eq s
  rw [h, State.carriedEnded_voiced, joinsCarried_eq s.carriedEnded_voiceWork, State.carriedEnded_eq]

theorem layersTransferred_carried (s : State) : LayersCarried s (layersTransferred s) := by
  intro orphaned ended voiced entries horphaned hended hvoiced hentries
  have horphaned' : orphaned = s.orphaned := horphaned
  have hended' : ended = s.carriedSlots.foldl endVoice s.orphaned := by rw [hended, horphaned']; rfl
  have hentries' : entries = s.carriedEntries := funext fun x => by
    rw [hentries x]
    exact List.filter_congr fun e _ => (carries_eq s e.1).symm
  have hspelled : layersTransferred s = voiced.foldl (fun u x => (entries x).foldl (joinEntry x) u) ended := by
    rw [layersTransferred_spelled, hvoiced, hentries', hended']
  refine ⟨hspelled, fun hfree v hs hcarry => ?_⟩
  have hnot : v ∉ s.carriedSlots := fun hv => by
    rw [State.carriedSlots, List.mem_filter, hcarry, Bool.and_false] at hv
    exact Bool.false_ne_true hv.2
  have horphan : ended.vtb.voices[v] = { s.vtb.voices[v] with origin := .orphan } := by
    rw [hended', ends_voice_not_mem _ _ hnot, State.orphaned_voice, Voice.orphaned, if_neg (by rw [hs]; exact nofun)]
  rw [hspelled, joinRuns_orphan (by rw [horphan]; exact hs) (by rw [horphan]) hfree, horphan]

/-! ## Transfers -/

theorem transferWritten_eq (n : SceneNo) (items : BitVec 3) (s : State) :
    transferWritten n items s = if items.getLsbD 2 = true then
        tierCheck { s with sst := { s.sst with live := s.sst.live.transferred n s.sst.library[n] items } }
      else { s with sst := { s.sst with live := s.sst.live.transferred n s.sst.library[n] items } } := rfl

theorem transfer_transferred (n : SceneNo) (items : BitVec 3) (separate : Bool) (s : State) :
    Transferred n items separate s (transfer n items separate s) := by
  refine ⟨transferWritten n items s, ?_, ?_⟩
  · rintro w rfl
    rw [transferWritten_eq]
    by_cases h : items.getLsbD 2 = true
    · rw [if_pos h, if_pos h]
      exact tierCheck_tierChecked _
    · rw [if_neg h, if_neg h]
  · have hlayers : (hasLayers items = true) = (items.getLsbD 0 = true) := rfl
    have hsettings : (hasSettings items && separate) = true ↔ items.getLsbD 1 = true ∧ separate = true := Bool.and_eq_true_iff
    rw [transfer_eq]
    by_cases h : items.getLsbD 0 = true
    · have h' : hasLayers items = true := h
      rw [if_pos h, if_pos h']
      exact layersTransferred_carried _
    · have h' : ¬ hasLayers items = true := h
      rw [if_neg h, if_neg h']
      by_cases hs : items.getLsbD 1 = true ∧ separate = true
      · rw [if_pos hs, if_pos (hsettings.mpr hs), sectionReexpand_eq, Settings.differs_eq]
      · rw [if_neg hs, if_neg (mt hsettings.mp hs)]

/-! ## Settings applied, and a push -/

theorem withSettings_settings (a : Settings) (s : State) : (s.withSettings a).sst.live.settings = a := by
  rw [(withSettings_voiceWork a s).1]
  rfl

theorem settingsApplied_transpose {s : State} {a : Settings} {t : Int} (b : Settings)
    (hb : b = { a with transpose := s.sst.live.settings.transpose }) (ht : t = a.transpose) :
    s.SettingsApplied ((applySettings b s).setTransposeTo t) a := by
  rintro u rfl
  subst hb ht
  have hset := withSettings_settings { a with transpose := s.sst.live.settings.transpose } s
  rw [applySettings_eq]
  unfold State.setTransposeTo State.setSettings
  rw [hset]

theorem restoreSettings_applied (deepest : StackEntry) (s : State) :
    s.SettingsApplied (restoreSettings deepest s) deepest.saved :=
  settingsApplied_transpose { deepest.saved with transpose := s.sst.live.settings.transpose } rfl rfl

theorem OnlyVoiceWork.settings {s t : State} (h : OnlyVoiceWork s t) : t.sst.live.settings = s.sst.live.settings := by
  rw [h.1]

theorem OnlyVoiceAndTierWork.settings {s t : State} (h : OnlyVoiceAndTierWork s t) :
    t.sst.live.settings = s.sst.live.settings := by
  rw [h.1]

/-- LAYERS and TIERMAP leave the settings alone. -/
theorem targetTransferred_settings (d : OverrideDef) (s : State) :
    (targetTransferred d s).sst.live.settings = s.sst.live.settings := by
  unfold targetTransferred
  cases d.target with
  | none => rfl
  | some n => exact (transfer_frame n layersAndMap true s).settings

/-- The work of a change of settings is that of the part whose settings are changed. -/
theorem OnlyVoiceAndTierWork.setSettings {s t : State} (h : OnlyVoiceAndTierWork s t) (a : Settings) :
    OnlyVoiceAndTierWork (s.setSettings a) (t.setSettings a) := by
  obtain ⟨heq, hlanes⟩ := h
  refine ⟨?_, hlanes⟩
  conv => lhs; rw [heq]
  rfl

theorem applySettings_transposed_frame {a b : Settings} {t : Int} (s : State)
    (h : { b with transpose := t } = a) :
    OnlyVoiceWork (s.setSettings a) ((applySettings b s).setTransposeTo t) := by
  subst h
  obtain ⟨heq, hlanes⟩ := applySettings_voiceWork b s
  refine ⟨?_, hlanes⟩
  conv => lhs; rw [heq]
  rfl

theorem clampInt_eq (v : Int) : clampInt v (-24) 24 = max (-24) (min 24 v) := by
  unfold clampInt
  omega

/-- The settings that a definition leaves (R127). -/
def OverrideDef.applied (d : OverrideDef) (a : Settings) : Settings :=
  { trebleReg := d.trebleReg.getD a.trebleReg, bassReg := d.bassReg.getD a.bassReg,
    transpose := max (-24) (min 24 (a.transpose + d.delta)),
    trebleMode := d.trebleMode.getD a.trebleMode, bassMode := d.bassMode.getD a.bassMode }

theorem withPushed_settings (s : State) (h : Fin 8) (d : OverrideDef) :
    (s.withPushed h d).sst.live.settings = d.applied s.sst.live.settings := rfl

theorem definitionApplied_eq (d : OverrideDef) (s : State) :
    definitionApplied d s = (applySettings (d.over s.sst.live.settings) s).setTransposeTo
      (d.applied s.sst.live.settings).transpose := by
  have hset : (applySettings (d.over s.sst.live.settings) s).sst.live.settings = d.over s.sst.live.settings := by
    rw [applySettings_eq, withSettings_settings]
  unfold definitionApplied
  rw [hset, clampInt_eq]
  rfl

theorem pushEntry_pushed (h : Fin 8) (d : OverrideDef) (s : State) : s.Pushed (pushEntry h d s) h d := by
  rw [pushEntry_eq]
  refine ⟨targetTransferred d (contextSaved h d s), ?_, ?_⟩
  · rintro w rfl
    unfold targetTransferred contextSaved
    cases d.target with
    | none => rfl
    | some n => exact transfer_transferred n layersAndMap true _
  · have hsettings : (targetTransferred d (contextSaved h d s)).sst.live.settings = s.sst.live.settings :=
      targetTransferred_settings d (contextSaved h d s)
    rw [withPushed_settings, definitionApplied_eq, ← hsettings]
    exact settingsApplied_transpose _ rfl rfl

theorem pushEntry_frame (h : Fin 8) (d : OverrideDef) (s : State) :
    OnlyVoiceAndTierWork (s.withPushed h d) (pushEntry h d s) := by
  rw [pushEntry_eq, definitionApplied_eq]
  have hsettings : (targetTransferred d (contextSaved h d s)).sst.live.settings = s.sst.live.settings :=
    targetTransferred_settings d (contextSaved h d s)
  have happlied := (applySettings_transposed_frame (b := d.over (targetTransferred d (contextSaved h d s)).sst.live.settings)
    (t := (d.applied (targetTransferred d (contextSaved h d s)).sst.live.settings).transpose)
    (targetTransferred d (contextSaved h d s)) rfl).andTier
  refine OnlyVoiceAndTierWork.trans ?_ happlied
  have htransfer : OnlyVoiceAndTierWork ((s.withPushed h d).setSettings s.sst.live.settings)
      (targetTransferred d (contextSaved h d s)) := by
    unfold targetTransferred State.withPushed contextSaved
    cases d.target with
    | none => exact (OnlyVoiceWork.refl _).andTier
    | some n => exact transfer_frame n layersAndMap true _
  rw [hsettings]
  exact htransfer.setSettings (d.applied s.sst.live.settings)

end Sys2Proof.Machine

/-! PROOF. The four requests of the Dynamics Unit (R118 to R122). -/

namespace Sys2Proof.Machine

/-! ## Their payloads -/

/-- The eleven settings that Set Dynamics carries. -/
def DynSettings.levels (d : DynSettings) : LevelSettings :=
  { winShift := d.winShift, tu := d.tu, td := d.td, rise := d.rise, fall := d.fall, drift := d.drift,
    tsurge := d.tsurge, surge := d.surge, holdOff := d.holdOff, floor := d.floor, ceil := d.ceil }

theorem parseSetDynamics_fields {d : DynSettings} (hw : 1 ≤ d.winShift ∧ d.winShift ≤ 12) (htd : d.td ≤ d.tu)
    (htu : d.tu ≤ 32767) (hrise : d.rise ≤ 16383) (hfall : d.fall ≤ 16383) (hdrift : -8192 ≤ d.drift ∧ d.drift ≤ 8191)
    (htsurge : d.tsurge ≤ 32767) (hsurge : d.surge ≤ 16383) (hhold : d.holdOff ≤ 255) (hlevel : d.floor ≤ d.ceil) :
    parseSetDynamics (byte d.winShift :: bytes16 d.tu ++ bytes16 d.td ++ bytes16 d.rise ++ bytes16 d.fall
        ++ bytes16s d.drift ++ bytes16 d.tsurge ++ bytes16 d.surge ++ [byte d.holdOff] ++ bytes16 d.floor.val
        ++ bytes16 d.ceil.val)
      = .fields d.levels := by
  have hholdByte : (byte d.holdOff).toNat = d.holdOff := byte_toNat (by omega)
  have htest : d.td ≤ d.tu ∧ d.floor.val ≤ d.ceil.val := ⟨htd, hlevel⟩
  simp only [bytes16, bytes16s, List.cons_append, List.nil_append]
  rw [parseSetDynamics, fieldIn_byte (by decide) hw.1 hw.2, wordField_bytes16 (by decide) (Nat.zero_le _) htu,
    wordField_bytes16 (by decide) (Nat.zero_le _) (Nat.le_trans htd htu),
    wordField_bytes16 (by decide) (Nat.zero_le _) hrise, wordField_bytes16 (by decide) (Nat.zero_le _) hfall,
    signedWordField_bytes16s (by decide) (by decide) hdrift.1 hdrift.2,
    wordField_bytes16 (by decide) (Nat.zero_le _) htsurge, wordField_bytes16 (by decide) (Nat.zero_le _) hsurge,
    levelField_bytes16, levelField_bytes16, hholdByte]
  simp only [Option.bind_eq_bind, Option.bind_some, if_pos htest]
  rfl

theorem mem_of_signedWordField {lo hi : Int} {h l : Byte} {v : Int} (hv : signedWordField lo hi h l = some v) :
    lo ≤ word16s h l ∧ word16s h l ≤ hi := by
  by_contra hn
  rw [signedWordField_none (by omega)] at hv
  cases hv

theorem levelField_val (h l : Byte) : (levelField h l).val = word16 h l := by
  have hh := h.isLt
  have hl := l.isLt
  exact Nat.mod_eq_of_lt (by unfold word16; omega)

theorem parseSetDynamics_outOfRange {w tuHi tuLo tdHi tdLo riseHi riseLo fallHi fallLo driftHi driftLo tsurgeHi tsurgeLo
      surgeHi surgeLo floorHi floorLo ceilHi ceilLo : Byte} (holdOff : Byte)
    (hbad : w = 0 ∨ 12 < w.toNat ∨ 32767 < tuHi.toNat * 256 + tuLo.toNat ∨ 32767 < tdHi.toNat * 256 + tdLo.toNat
      ∨ 16383 < riseHi.toNat * 256 + riseLo.toNat ∨ 16383 < fallHi.toNat * 256 + fallLo.toNat
      ∨ (driftHi ++ driftLo).toInt < -8192 ∨ 8191 < (driftHi ++ driftLo).toInt
      ∨ 32767 < tsurgeHi.toNat * 256 + tsurgeLo.toNat ∨ 16383 < surgeHi.toNat * 256 + surgeLo.toNat
      ∨ tuHi.toNat * 256 + tuLo.toNat < tdHi.toNat * 256 + tdLo.toNat
      ∨ ceilHi.toNat * 256 + ceilLo.toNat < floorHi.toNat * 256 + floorLo.toNat) :
    parseSetDynamics [w, tuHi, tuLo, tdHi, tdLo, riseHi, riseLo, fallHi, fallLo, driftHi, driftLo, tsurgeHi, tsurgeLo,
      surgeHi, surgeLo, holdOff, floorHi, floorLo, ceilHi, ceilLo] = .outOfRange := by
  rw [parseSetDynamics]
  refine Parsed.outOfRange_of_none fun a ho => ?_
  obtain ⟨_, hw, ho⟩ := Option.bind_eq_some_iff.mp ho
  obtain ⟨_, htu, ho⟩ := Option.bind_eq_some_iff.mp ho
  obtain ⟨_, htd, ho⟩ := Option.bind_eq_some_iff.mp ho
  obtain ⟨_, hrise, ho⟩ := Option.bind_eq_some_iff.mp ho
  obtain ⟨_, hfall, ho⟩ := Option.bind_eq_some_iff.mp ho
  obtain ⟨_, hdrift, ho⟩ := Option.bind_eq_some_iff.mp ho
  obtain ⟨_, htsurge, ho⟩ := Option.bind_eq_some_iff.mp ho
  obtain ⟨_, hsurge, ho⟩ := Option.bind_eq_some_iff.mp ho
  obtain ⟨rfl, htuR⟩ := wordField_some htu
  obtain ⟨rfl, htdR⟩ := wordField_some htd
  replace hw := mem_of_fieldIn hw
  replace hrise := mem_of_wordField hrise
  replace hfall := mem_of_wordField hfall
  replace hdrift := mem_of_signedWordField hdrift
  replace htsurge := mem_of_wordField htsurge
  replace hsurge := mem_of_wordField hsurge
  simp only [levelField_val] at ho
  have htest : word16 tdHi tdLo ≤ word16 tuHi tuLo ∧ word16 floorHi floorLo ≤ word16 ceilHi ceilLo := by
    by_contra hn
    rw [if_neg hn] at ho
    cases ho
  rw [append_toInt] at hbad
  unfold word16 at *
  rcases hbad with rfl | h | h | h | h | h | h | h | h | h | h | h
  case inl => exact absurd hw.1 (by decide)
  all_goals omega

theorem parseSetExpression_fields {smooth step : Byte} (gHi gLo : Byte) (hsmooth : smooth.toNat ≤ 7)
    (hstep : 1 ≤ step.toNat) (hstep' : step.toNat ≤ 32) :
    parseSetExpression [smooth, gHi, gLo, step] = .fields (smooth.toNat, word16 gHi gLo, step.toNat) := by
  rw [parseSetExpression, fieldIn_of_mem ⟨Nat.zero_le _, hsmooth⟩, fieldIn_of_mem ⟨hstep, hstep'⟩]
  rfl

theorem parseSetExpression_outOfRange {smooth step : Byte} (gHi gLo : Byte)
    (hbad : 7 < smooth.toNat ∨ step = 0 ∨ 32 < step.toNat) :
    parseSetExpression [smooth, gHi, gLo, step] = .outOfRange := by
  rw [parseSetExpression]
  refine Parsed.outOfRange_of_none fun a ho => ?_
  obtain ⟨_, hsmooth, ho⟩ := Option.bind_eq_some_iff.mp ho
  obtain ⟨_, hstep, ho⟩ := Option.bind_eq_some_iff.mp ho
  replace hsmooth := mem_of_fieldIn hsmooth
  replace hstep := mem_of_fieldIn hstep
  rcases hbad with h | rfl | h
  case inr.inl => exact absurd hstep.1 (by decide)
  all_goals omega

theorem parseTierMap_fields (map : Vector TierCode 8) : parseTierMap (map.toList.map fun c => byte c.val) = .fields map := by
  have hlen : (map.toList.map fun c => byte c.val).length = 8 := by
    rw [List.length_map]
    exact map.size_toArray
  rw [parseTierMap, if_pos hlen, tierMapFields_map]
  rfl

theorem parseTierMap_outOfRange {codes : List Byte} (hl : codes.length = 8) (hbad : ∃ c ∈ codes, 15 < c.toNat) :
    parseTierMap codes = .outOfRange := by
  rw [parseTierMap, if_pos hl, tierMapFields_none hbad]
  rfl

/-! ## Set Level's reply -/

theorem tierCheck_level (s : State) : (tierCheck s).dyn.level = s.dyn.level := by
  obtain ⟨hframe, _⟩ := tierCheck_frame s
  rw [hframe]

theorem tierCheck_tierCode (s : State) : (tierCheck s).tierCode = s.tierCode := by
  obtain ⟨hframe, _⟩ := tierCheck_frame s
  rw [hframe]
  rfl

theorem tierCheck_rxDone (s : State) : tierCheck s.rxDone = (tierCheck s).rxDone :=
  State.rxDone_comm (f := tierCheck) (tierCheck_setMlk s ·)

/-- Settles O43: each owner writes its values, and three of them end in the tier check. -/
theorem dynamicsRequestsWrite : Obligations.DynamicsRequestsWrite := by
  unfold Obligations.DynamicsRequestsWrite
  rintro tag s ⟨hs, hplay⟩
  have hdyn : ∀ p, Takes (.setDynamics tag p) 0x23 tag false (parseSetDynamics p) setDynamicsOwner := fun _ _ => rfl
  have hexpr : ∀ p, Takes (.setExpression tag p) 0x24 tag false (parseSetExpression p) setExpressionOwner :=
    fun _ _ => rfl
  have hmap : ∀ p, Takes (.loadTierMap tag p) 0x25 tag false (parseTierMap p) loadTierMapOwner := fun _ _ => rfl
  have hlevel : ∀ p, Takes (.setLevel tag p) 0x26 tag false (parseSetLevel p) setLevelOwner := fun _ _ => rfl
  refine ⟨?_, ?_, ?_, fun map => ?_, ?_, ?_⟩
  · intro d p hw htd htu hrise hfall hdrift htsurge hsurge hhold hfloor hsmooth hgain hstep hp
    refine ⟨_, ?_, tierCheck_tierChecked _⟩
    rw [hp]
    refine (hdyn _).accepts hs (.inr hplay)
      (parseSetDynamics_fields hw htd htu hrise hfall hdrift htsurge hsurge hhold hfloor) ?_
    have hsettings : { s.dyn.settings with
        winShift := d.winShift, tu := d.tu, td := d.td, rise := d.rise, fall := d.fall, drift := d.drift,
        tsurge := d.tsurge, surge := d.surge, holdOff := d.holdOff, floor := d.floor, ceil := d.ceil } = d := by
      simp only [← hsmooth, ← hgain, ← hstep]
    rw [← tierCheck_rxDone]
    exact congrArg (fun t : DynSettings => Verdict.accept (tierCheck ({ s with dyn := { s.dyn with
      settings := t, winSum := 0, winPos := 0, holdOffLeft := 0
      level := clampLevel s.dyn.level.val d.floor d.ceil } } : State).rxDone) []) hsettings
  · intro w tuHi tuLo tdHi tdLo riseHi riseLo fallHi fallLo driftHi driftLo tsurgeHi tsurgeLo surgeHi surgeLo holdOff
      floorHi floorLo ceilHi ceilLo hbad
    exact (hdyn _).refuses_outOfRange hs (.inr hplay) (parseSetDynamics_outOfRange holdOff hbad)
  · intro smooth step gHi gLo
    refine ⟨fun ⟨hsmooth, hstep, hstep'⟩ => ?_, fun hbad => ?_⟩
    · exact (hexpr _).accepts hs (.inr hplay) (parseSetExpression_fields gHi gLo hsmooth hstep hstep') rfl
    · exact (hexpr _).refuses_outOfRange hs (.inr hplay) (parseSetExpression_outOfRange gHi gLo hbad)
  · refine ⟨_, ?_, tierCheck_tierChecked _⟩
    refine (hmap _).accepts hs (.inr hplay) (parseTierMap_fields map) ?_
    rw [← tierCheck_rxDone]
    rfl
  · intro codes hl hbad
    exact (hmap _).refuses_outOfRange hs (.inr hplay) (parseTierMap_outOfRange hl hbad)
  · intro v level hv
    refine ⟨_, ?_, tierCheck_tierChecked _⟩
    have hword : parseSetLevel (bytes16 v.val) = .fields v.val :=
      congrArg Parsed.fields (word16_bytes16 v.isLt)
    refine (hlevel _).accepts hs (.inr hplay) hword ?_
    unfold setLevelOwner
    have hwritten : s.rxDone.setDyn { s.rxDone.dyn with
        level := clampLevel v.val s.rxDone.dyn.settings.floor s.rxDone.dyn.settings.ceil }
        = ({ s with dyn := { s.dyn with level := level } } : State).rxDone := by
      rw [hv]
      rfl
    simp only [hwritten]
    rw [tierCheck_level, tierCheck_tierCode, tierCheck_rxDone]
    rfl

end Sys2Proof.Machine

/-! PROOF. Push Override and the switch push (R126, R127, R131). -/

namespace Sys2Proof.Machine

/-! ## Its payload -/

theorem hostTagField_byte {h : Fin 8} (hh : 4 ≤ h.val) : hostTagField (byte h.val) = some h := by
  have hb : (byte h.val).toNat = h.val := byte_toNat (by omega)
  rw [hostTagField, if_pos (by omega), field_byte (by decide)]

theorem hostTagField_none {b : Byte} (h : b.toNat < 4 ∨ 7 < b.toNat) : hostTagField b = none := by
  unfold hostTagField
  split
  · exact field_of_le (by omega)
  · rfl

theorem parsePushOverride_fields {h : Fin 8} {d : OverrideDef} (hh : 4 ≤ h.val) (hd : -24 ≤ d.delta) (hd' : d.delta ≤ 24) :
    parsePushOverride (byte h.val :: overrideBytes d) = .fields (h, d) := by
  rw [overrideBytes, parsePushOverride, hostTagField_byte hh, overrideFields_bytes hd hd']
  rfl

theorem parsePushOverride_outOfRange {h target treble bass delta tMode bMode : Byte}
    (hbad : h.toNat < 4 ∨ 7 < h.toNat ∨ DefinitionOutOfRange target treble bass delta tMode bMode) :
    parsePushOverride [h, target, treble, bass, delta, tMode, bMode] = .outOfRange := by
  rw [parsePushOverride]
  rcases or_assoc.mpr hbad with htag | hdef
  · rw [hostTagField_none htag]
    rfl
  · rw [overrideFields_none hdef]
    cases hostTagField h <;> rfl

/-! ## The stack's tests -/

theorem State.hasTag_iff (s : State) (tag : Fin 8) : s.hasTag tag = true ↔ ∃ e ∈ s.stack, e.tag = tag := by
  simp [State.hasTag]

theorem State.targetUsable_iff (s : State) (d : OverrideDef) :
    s.targetUsable d = true ↔ ∀ n ∈ d.target, s.sst.library[n].state = .valid := by
  unfold State.targetUsable
  cases d.target with
  | none => simp
  | some n => simp [State.sceneValid]

theorem pushEntry_length (tag : Fin 8) (d : OverrideDef) (s : State) :
    (pushEntry tag d s).stack.length = s.stack.length + 1 := by
  obtain ⟨hframe, _⟩ := pushEntry_frame tag d s
  rw [hframe]
  rfl

theorem not_hasTag {s : State} {tag : Fin 8} (h : ∀ e ∈ s.stack, e.tag ≠ tag) : ¬ s.hasTag tag = true := fun c =>
  let ⟨e, he, ht⟩ := (s.hasTag_iff tag).mp c
  h e he ht

theorem not_targetUsable {s : State} {d : OverrideDef} (h : ∃ n ∈ d.target, s.sst.library[n].state ≠ .valid) :
    ¬ s.targetUsable d = true := fun c =>
  let ⟨n, hn, hv⟩ := h
  hv ((s.targetUsable_iff d).mp c n hn)

theorem switchPush_pushes {n : Fin 4} {s : State}
    (hnew : ∀ e ∈ s.stack, e.tag ≠ ⟨n.val, Nat.lt_trans n.isLt (by decide)⟩) (hlen : s.stack.length < 4)
    (htarget : ∀ m ∈ s.sst.overrides[n].target, s.sst.library[m].state = .valid) :
    switchPush n s = pushEntry ⟨n.val, Nat.lt_trans n.isLt (by decide)⟩ s.sst.overrides[n] s :=
  (if_neg (not_hasTag hnew)).trans
    ((if_neg (Nat.not_le_of_lt hlen)).trans (if_pos ((s.targetUsable_iff s.sst.overrides[n]).mpr htarget)))

/-- Settles O44: both pushes make the stack's tests in order, and an accepted one is the push that `pushEntry_pushed`
gives. -/
theorem pushOverrideSavesAndApplies : Obligations.PushOverrideSavesAndApplies := by
  unfold Obligations.PushOverrideSavesAndApplies
  have htakes : ∀ tag p, Takes (.pushOverride tag p) 0x28 tag false (parsePushOverride p) pushOverrideOwner :=
    fun _ _ _ => rfl
  refine ⟨?_, ?_, ?_⟩
  · rintro tag h d s ⟨hs, hplay⟩ hh hd hd'
    have hparse := parsePushOverride_fields hh hd hd'
    refine ⟨fun hdup => ?_, fun hnew => ⟨fun hbad => ?_, fun hlen htarget => ?_⟩⟩
    · exact (htakes tag _).refuses hs (.inr hplay) hparse (if_pos ((s.hasTag_iff h).mpr hdup))
    · refine (htakes tag _).refuses hs (.inr hplay) hparse ((if_neg (not_hasTag (s := s.rxDone) hnew)).trans ?_)
      by_cases hlen : 4 ≤ s.rxDone.stack.length
      · exact if_pos hlen
      · exact (if_neg hlen).trans (if_neg (not_targetUsable (s := s.rxDone) (hbad.resolve_left hlen)))
    · refine ⟨pushEntry h d s, (htakes tag _).accepts hs (.inr hplay) hparse ?_, pushEntry_pushed h d s,
        pushEntry_frame h d s⟩
      refine (if_neg (not_hasTag (s := s.rxDone) hnew)).trans ((if_neg (Nat.not_le_of_lt hlen)).trans
        ((if_pos ((s.rxDone.targetUsable_iff d).mpr htarget)).trans ?_))
      show Verdict.accept (pushEntry h d s.rxDone) [byte (pushEntry h d s.rxDone).stack.length] = _
      rw [pushEntry_length, State.rxDone_comm (f := pushEntry h d) (pushEntry_setMlk s · h d)]
      rfl
  · rintro tag s ⟨hs, hplay⟩ h target treble bass delta tMode bMode hbad
    exact (htakes tag _).refuses_outOfRange hs (.inr hplay) (parsePushOverride_outOfRange hbad)
  · intro n k s hk
    obtain rfl : k = ⟨n.val, Nat.lt_trans n.isLt (by decide)⟩ := Fin.ext hk
    refine ⟨fun hdup => ?_, fun hnew hlen => ?_, fun hnew hlen htarget => ?_, fun hnew hlen htarget => ?_⟩
    · exact if_pos ((s.hasTag_iff _).mpr hdup)
    · exact (if_neg (not_hasTag hnew)).trans (if_pos hlen)
    · exact (if_neg (not_hasTag hnew)).trans
        ((if_neg (Nat.not_le_of_lt hlen)).trans (if_neg (not_targetUsable htarget)))
    · rw [switchPush_pushes hnew hlen htarget]
      exact ⟨pushEntry_pushed _ _ s, pushEntry_frame _ _ s⟩

end Sys2Proof.Machine

/-! PROOF. The armed cue and Take Scene (R46 to R54): which crosspoints stay voiced, and what a LIVE voice of the new
Live Copy stands for. -/

namespace Sys2Proof.Machine

/-! ## The voiced-as table -/

theorem leaveVoice_voicedAs (x : Crosspoint) (s : State) (v : Slot) : (leaveVoice x s v).vtb.voicedAs = s.vtb.voicedAs := by
  rw [leaveVoice_frame]

theorem leaveAll_voicedAs (x : Crosspoint) (p : Voice → Bool) (s : State) :
    (leaveAll x p s).vtb.voicedAs = s.vtb.voicedAs := by
  unfold leaveAll
  rw [leaves_frame]

theorem leavePhase_voicedAs (orphans : Bool) (s : State) (p : Crosspoint × List (LayerPos × Pitch)) :
    (leavePhase orphans s p).vtb.voicedAs = s.vtb.voicedAs := by
  unfold leavePhase
  simp only []
  split
  · rw [leaveAll_voicedAs, leaveAll_voicedAs]
  · rw [leaveAll_voicedAs]

theorem leavePhases_voicedAs (orphans : Bool) (plan : List (Crosspoint × List (LayerPos × Pitch))) (s : State) :
    (plan.foldl (leavePhase orphans) s).vtb.voicedAs = s.vtb.voicedAs := by
  induction plan generalizing s with
  | nil => rfl
  | cons p plan ih => exact (ih _).trans (leavePhase_voicedAs orphans s p)

theorem joinRuns_voicedAs (entries : Crosspoint → List (LayerPos × Pitch)) (xs : List Crosspoint) (s : State) :
    (xs.foldl (fun t x => (entries x).foldl (joinEntry x) t) s).vtb.voicedAs = s.vtb.voicedAs := by
  induction xs generalizing s with
  | nil => rfl
  | cons x xs ih => exact (ih _).trans (joins_voicedAs x (entries x) s)

theorem reexpand_voicedAs (orphans : Bool) (d : Dir) (xs : List Crosspoint) (s : State) (x : Crosspoint) :
    (reexpand orphans d xs s).vtb.voicedAs[x] = if x ∈ xs then some d else s.vtb.voicedAs[x] := by
  rw [reexpand_eq, State.setVoicedAs_get, joinRuns_voicedAs, leavePhases_voicedAs]

/-- A crosspoint that a section's re-expansion names was voiced already, so it is voiced after it as before. -/
theorem sectionReexpand_voiced (p : Sect → Bool) (s : State) (x : Crosspoint) :
    (sectionReexpand p s).vtb.voicedAs[x] = none ↔ s.vtb.voicedAs[x] = none := by
  rw [sectionReexpand_eq, reexpand_voicedAs]
  split
  case isTrue h =>
    have hvoiced := (List.mem_filter.mp h).2
    rw [Bool.and_eq_true] at hvoiced
    have hsome := Option.isSome_iff_ne_none.mp hvoiced.1
    exact ⟨nofun, fun hnone => absurd hnone hsome⟩
  case isFalse => exact Iff.rfl

theorem layersTransferred_voicedAs (s : State) : (layersTransferred s).vtb.voicedAs = s.vtb.voicedAs := by
  rw [layersTransferred_spelled, joinRuns_voicedAs, ends_voicedAs]
  rfl

theorem transferWritten_vtb (n : SceneNo) (items : BitVec 3) (s : State) :
    (transferWritten n items s).vtb = s.vtb := by
  rw [transferWritten_eq]
  split
  · exact tierCheck_vtb _
  · rfl

theorem transfer_voiced (n : SceneNo) (items : BitVec 3) (separate : Bool) (s : State) (x : Crosspoint) :
    (transfer n items separate s).vtb.voicedAs[x] = none ↔ s.vtb.voicedAs[x] = none := by
  by_cases hl : hasLayers items = true
  · rw [transfer_eq, if_pos hl, layersTransferred_voicedAs, transferWritten_vtb]
  · by_cases hm : (hasSettings items && separate) = true
    · rw [transfer_eq, if_neg hl, if_pos hm, sectionReexpand_voiced, transferWritten_vtb]
    · rw [transfer_eq, if_neg hl, if_neg hm, transferWritten_vtb]

/-- A cue of TIERMAP or SETTINGS alone, fired by a reversal, does no voice work of its own (R54). -/
theorem transfer_together_vtb {n : SceneNo} {items : BitVec 3} (s : State) (h : items.getLsbD 0 = false) :
    (transfer n items false s).vtb = s.vtb := by
  have hlayers : ¬ hasLayers items = true := by
    unfold hasLayers
    rw [h]
    nofun
  rw [transfer_eq, if_neg hlayers, Bool.and_false, if_neg nofun, transferWritten_vtb]

/-! ## The armed cue fires -/

theorem fireArmed_carries {s : State} {c : Cue} (t : Trigger) (h : s.sst.library[c.target].state = .valid) :
    fireArmed c t s = (transfer c.target c.items (t != .reversal) s.disarm).raise (.cue true c.target t) := by
  have hv : s.sceneValid c.target = true := beq_iff_eq.mpr h
  unfold fireArmed
  simp only [hv]
  rfl

theorem fireArmed_frame {s : State} {c : Cue} (t : Trigger) (h : s.sst.library[c.target].state = .valid) :
    OnlyVoiceAndTierWork
      { s with sst := { s.sst with
          armed := none
          live := s.sst.live.transferred c.target s.sst.library[c.target] c.items } } (fireArmed c t s) := by
  rw [fireArmed_carries t h]
  exact (transfer_frame c.target c.items _ s.disarm).trans (State.raise_voiceWork _ _).andTier

theorem fireArmed_voiced {s : State} {c : Cue} (t : Trigger) (h : s.sst.library[c.target].state = .valid)
    (x : Crosspoint) : (fireArmed c t s).vtb.voicedAs[x] = none ↔ s.vtb.voicedAs[x] = none := by
  rw [fireArmed_carries t h]
  exact transfer_voiced c.target c.items _ s.disarm x

theorem fireArmed_noticed {s : State} {c : Cue} (t : Trigger) (h : s.sst.library[c.target].state = .valid) :
    ∃ p ∈ (fireArmed c t s).ntu.slots[(5 : Fin 13)], p.notice = .cue true c.target t := by
  rw [fireArmed_carries t h]
  exact State.raise_noticed _ _ rfl

/-- Settles O27: the trigger finds the armed cue or not, and its target VALID or not. -/
theorem fireCueFiresOnce : Obligations.FireCueFiresOnce := by
  unfold Obligations.FireCueFiresOnce
  refine ⟨?_, ?_⟩
  · rintro tag s ⟨hs, hplay⟩
    have htakes : Takes (.fireCue tag []) 0x1B tag false (parseEmpty []) fireCueOwner := fun _ => rfl
    refine ⟨fun hnone => htakes.refuses hs (.inr hplay) rfl ?_, fun c hc => ⟨fun hno => ?_, fun ht hbad => ?_,
      fun ht hvalid => ?_⟩⟩
    · show fireCueOwner () s.rxDone = _
      unfold fireCueOwner
      rw [show s.rxDone.sst.armed = none from hnone]
    all_goals
      have hcue : s.rxDone.sst.armed = some c := hc
    · refine htakes.refuses hs (.inr hplay) (a := ()) rfl ?_
      unfold fireCueOwner
      rw [hcue]
      exact if_neg (Bool.not_eq_true _ ▸ hno)
    all_goals
      have howner : fireCueOwner () s.rxDone
          = .accept (fireArmed c .host s.rxDone) [byteOfBool (!s.rxDone.sceneValid c.target)] := by
        unfold fireCueOwner
        rw [hcue]
        exact if_pos ht
    · refine htakes.accepts hs (.inr hplay) (a := ()) rfl (howner.trans ?_)
      have hv : s.rxDone.sceneValid c.target = false := beq_eq_false_iff_ne.mpr hbad
      rw [hv, fireArmed_failed (s := s.rxDone) .host hbad]
      rfl
    · have hv : s.rxDone.sceneValid c.target = true := beq_iff_eq.mpr hvalid
      refine ⟨triggerCue .host s, htakes.accepts hs (.inr hplay) (a := ()) rfl (howner.trans ?_), rfl, ?_, ?_, ?_⟩
      · rw [hv, State.rxDone_comm (f := fireArmed c .host) (fireArmed_setMlk s · c .host), triggerCue_fires (t := .host) hc ht]
        rfl
      all_goals
        rw [triggerCue_fires (s := s) (t := .host) hc ht]
      · exact fireArmed_frame .host hvalid
      · exact fireArmed_noticed .host hvalid
      · exact fireArmed_voiced .host hvalid
  · intro trigger bit s hbit
    obtain rfl : bit = trigger.bit := hbit.trans (by cases trigger <;> rfl)
    refine ⟨triggerCue_no_trigger, fun c hc ht => ?_⟩
    rw [triggerCue_fires (s := s) hc ht]
    refine ⟨fireArmed_failed trigger, ?_⟩
    rintro hvalid t rfl
    refine ⟨⟨_, transfer_transferred c.target c.items (trigger != .reversal) s.disarm, fireArmed_carries trigger hvalid⟩,
      fireArmed_frame trigger hvalid, fireArmed_noticed trigger hvalid, fireArmed_voiced trigger hvalid, ?_⟩
    rintro rfl hitems
    rw [fireArmed_carries .reversal hvalid]
    exact transfer_together_vtb s.disarm hitems

/-! ## What a LIVE voice stands for after a take -/

/-- A LIVE voice that is not FREE stands at a position of the Live Copy that carries, with that layer's program and
priority. -/
def Voice.Carried (c : LiveCopy) (y : Voice) : Prop :=
  y.state ≠ .free → y.origin = .live →
    ∃ l : Layer, c.layers[y.layer] = some l ∧ l.carry = true ∧ y.program = l.program ∧ y.priority = l.priority

/-- Every LIVE voice stands for a carried layer. -/
def State.LiveCarried (c : LiveCopy) (s : State) : Prop := ∀ v : Slot, s.vtb.voices[v].Carried c

variable {c : LiveCopy} {s t : State}

theorem State.LiveCarried.endVoice (h : s.LiveCarried c) (v : Slot) : (endVoice s v).LiveCarried c := by
  by_cases hs : s.vtb.voices[v].state = .sounding
  · intro w
    by_cases hw : w = v
    · subst hw
      obtain ⟨owed, hvoice, -⟩ := endVoice_voice hs
      rw [hvoice]
      exact fun _ => h w fun hf => by rw [hs] at hf; cases hf
    · rw [endVoice_voice_ne s hw]
      exact h w
  · rw [endVoice_not_sounding hs]
    exact h

theorem State.LiveCarried.ends (h : s.LiveCarried c) (vs : List Slot) : (vs.foldl Machine.endVoice s).LiveCarried c := by
  induction vs generalizing s with
  | nil => exact h
  | cons v vs ih => exact ih (h.endVoice v)

theorem State.LiveCarried.fillSlot (h : s.LiveCarried c) {e : LayerPos × Pitch} {l : Layer} (x : Crosspoint) (v : Slot)
    (hl : c.layers[e.1] = some l) (hc : l.carry = true) : (fillSlot x e l s v).LiveCarried c := by
  intro w
  by_cases hw : w = v
  · subst hw
    obtain ⟨lanes, -, hvoice⟩ := fillSlot_voice x e l s w
    rw [hvoice]
    exact fun _ _ => ⟨l, hl, hc, rfl, rfl⟩
  · rw [fillSlot_voice_ne x e l s v hw]
    exact h w

theorem carries_layer {s : State} {i : LayerPos} {l : Layer} (hl : s.sst.live.layers[i] = some l)
    (hc : s.carries i = true) : l.carry = true := by
  unfold State.carries at hc
  rw [hl] at hc
  exact hc

theorem State.LiveCarried.joinEntry (h : s.LiveCarried s.sst.live) {e : LayerPos × Pitch} (x : Crosspoint)
    (hc : s.carries e.1 = true) : (joinEntry x s e).LiveCarried s.sst.live := by
  rcases joinEntry_cases x s e with ⟨v, _, _, hj⟩ | ⟨v, _, _, _, hj⟩ | ⟨v, _, _, _, hj⟩ | ⟨_, hj⟩ <;> rw [hj]
  · exact h
  · intro w
    by_cases hw : w = v
    · subst hw
      rw [State.setVoice_get_self]
      exact h w
    · rw [State.setVoice_get_ne _ _ hw]
      exact h w
  · exact h
  · rcases allocate_cases x s e with
      ⟨_, ha⟩ | ⟨l, v, hl, _, ha⟩ | ⟨_, ha⟩ | ⟨l, v, hl, _, _, _, ha⟩ | ⟨v, _, _, ha⟩ <;> rw [ha]
    · exact h
    · exact h.fillSlot x v hl (carries_layer hl hc)
    · exact h
    · exact State.LiveCarried.fillSlot (s := (Machine.endVoice s v).raise _) (h.endVoice v) x v hl (carries_layer hl hc)
    · exact h.endVoice v

/-- The joins of carried entries keep it: they leave the Live Copy as it is. -/
theorem State.LiveCarried.joins {u : State} (h : u.LiveCarried s.sst.live) (hu : OnlyVoiceWork s u) (x : Crosspoint)
    {es : List (LayerPos × Pitch)} (hes : ∀ e ∈ es, s.carries e.1 = true) :
    (es.foldl (Machine.joinEntry x) u).LiveCarried s.sst.live := by
  induction es generalizing u with
  | nil => exact h
  | cons e es ih =>
    have hlive : u.sst.live = s.sst.live := by rw [hu.1]
    have hc : u.carries e.1 = true := (hu.carries e.1).trans (hes e List.mem_cons_self)
    rw [← hlive] at h
    have hj := h.joinEntry x hc
    rw [hlive] at hj
    exact ih hj (hu.trans (joinEntry_voiceWork x u e)) fun e he => hes e (List.mem_cons_of_mem _ he)

theorem State.LiveCarried.joinRuns {u : State} (h : u.LiveCarried s.sst.live) (hu : OnlyVoiceWork s u)
    (xs : List Crosspoint) :
    (xs.foldl (fun u x => (s.carriedEntries x).foldl (Machine.joinEntry x) u) u).LiveCarried s.sst.live := by
  induction xs generalizing u with
  | nil => exact h
  | cons x xs ih =>
    exact ih (h.joins hu x fun e he => (List.mem_filter.mp he).2) (hu.trans (.foldl (joinEntry_voiceWork x) _ _))

theorem State.orphaned_liveCarried (s : State) : s.orphaned.LiveCarried c := by
  intro v
  rw [State.orphaned_voice]
  unfold Voice.orphaned
  split
  case isTrue hf => exact fun hfree => absurd hf hfree
  case isFalse => exact fun _ horigin => nomatch horigin

theorem layersTransferred_liveCarried (s : State) : (layersTransferred s).LiveCarried s.sst.live := by
  have hwork : OnlyVoiceWork s (s.carriedSlots.foldl endVoice s.orphaned) := by
    rw [← State.carriedEnded_eq]
    exact s.carriedEnded_voiceWork
  rw [layersTransferred_spelled]
  exact ((State.orphaned_liveCarried s).ends s.carriedSlots).joinRuns hwork _

/-- Settles O28: the transfer of all three items is that of `transfer_transferred`, and after it a LIVE voice stands for
a carried layer of the scene. -/
theorem takeSceneCopiesAllItems : Obligations.TakeSceneCopiesAllItems := by
  unfold Obligations.TakeSceneCopiesAllItems
  rintro tag n s ⟨hs, hplay⟩
  have htakes : ∀ p, Takes (.takeScene tag p) 0x1C tag false (parseOne (field 16) p) takeSceneOwner := fun _ _ => rfl
  have hone : parseOne (field 16) [byte n.val] = .fields n := parseOne_fields (field_byte (by decide) n)
  refine ⟨fun hbad => ?_, fun hvalid => ⟨transfer n allItems true s, ?_, transfer_transferred n 7 true s,
    transfer_frame n 7 true s, ?_, ?_⟩, fun b hb => ?_⟩
  · have hv : ¬ s.rxDone.sceneValid n = true := fun h => hbad (beq_iff_eq.mp h)
    exact (htakes _).refuses hs (.inr hplay) hone (if_neg hv)
  · have hv : s.rxDone.sceneValid n = true := beq_iff_eq.mpr hvalid
    refine (htakes _).accepts hs (.inr hplay) hone ((if_pos hv).trans ?_)
    exact congrArg (Verdict.accept · [])
      (State.rxDone_comm (f := transfer n allItems true) (transfer_setMlk s · n allItems true))
  · have hall : transfer n allItems true s = layersTransferred (transferWritten n allItems s) :=
      (transfer_eq s n allItems true).trans (if_pos rfl)
    rw [hall, layersTransferred_voicedAs, transferWritten_vtb]
  · have hall : transfer n allItems true s = layersTransferred (transferWritten n allItems s) :=
      (transfer_eq s n allItems true).trans (if_pos rfl)
    have hlayers : (transferWritten n allItems s).sst.live.layers = s.sst.library[n].layers := by
      obtain ⟨hframe, _⟩ := tierCheck_frame
        { s with sst := { s.sst with live := s.sst.live.transferred n s.sst.library[n] allItems } }
      rw [transferWritten_eq, if_pos (by rfl), hframe]
      rfl
    rw [hall, ← hlayers]
    exact layersTransferred_liveCarried _
  · exact (htakes _).refuses_outOfRange hs (.inr hplay) (parseOne_outOfRange (field_of_le hb))

end Sys2Proof.Machine

/-! PROOF. A Silence queued on several lanes, and the ends of a fall of E (R82, R150, R68): lane by lane, voice by
voice, and as `State.silencedOn` and `State.voicesFallen` spell them. -/

namespace Sys2Proof.Machine

/-! ## One lane -/

/-- What a Silence leaves of lane n (R150, R116). -/
def State.silenceOf (s : State) (n : LaneNo) : Lane :=
  s.lanes[n].silenced (if s.lanes[n].state = .live then [.tier s.tierCode, .swell s.dyn.expr] else [])

theorem State.silenceLane_lane {s : State} {n : LaneNo} (h : s.lanes[n].transmits = true) (k : LaneNo) :
    (s.silenceLane n).lanes[k] = if k = n then s.silenceOf n else s.lanes[k] := by
  by_cases hk : k = n
  · subst hk
    rw [if_pos rfl]
    unfold State.silenceOf
    by_cases hl : s.lanes[k].state = .live
    · rw [State.silenceLane_live hl, State.resyncLane_lane, if_pos rfl, State.clearLane_lanes, State.setLane_get_self,
        if_pos hl]
      exact Lane.silence_resync_eq_silenced _ _ h
    · rw [State.silenceLane_not_live hl, State.clearLane_lanes, State.setLane_get_self, if_neg hl]
      exact Lane.queueSilence_eq_silenced h
  · rw [if_neg hk, State.silenceLane_lane_ne s hk]

theorem State.silenceLane_lastSwell (s : State) (n k : LaneNo) :
    (s.silenceLane n).dyn.lastSwell[k]
      = if k = n ∧ s.lanes[n].state = .live then s.dyn.expr else s.dyn.lastSwell[k] := by
  by_cases hl : s.lanes[n].state = .live
  · rw [State.silenceLane_live hl]
    by_cases hk : k = n
    · subst hk
      rw [if_pos ⟨rfl, hl⟩]
      exact get_put_self _ _ _
    · rw [if_neg fun c => hk c.1]
      exact get_put_ne _ _ hk
  · rw [State.silenceLane_not_live hl, if_neg fun c => hl c.2]
    rfl

theorem State.silenceLane_tierCode (s : State) (n : LaneNo) : (s.silenceLane n).tierCode = s.tierCode := by
  rw [State.silenceLane_frame]
  rfl

theorem State.silenceLane_expr (s : State) (n : LaneNo) : (s.silenceLane n).dyn.expr = s.dyn.expr := by
  rw [State.silenceLane_frame]

theorem State.silenceOf_silenceLane (s : State) {n k : LaneNo} (h : k ≠ n) :
    (s.silenceLane n).silenceOf k = s.silenceOf k := by
  unfold State.silenceOf
  rw [State.silenceLane_lane_ne s h, State.silenceLane_tierCode, State.silenceLane_expr]

/-! ## Several lanes -/

theorem silenceLanes_lane {ns : List LaneNo} (hns : ns.Nodup) {s : State}
    (h : ∀ n ∈ ns, s.lanes[n].transmits = true) (k : LaneNo) :
    (ns.foldl State.silenceLane s).lanes[k] = if k ∈ ns then s.silenceOf k else s.lanes[k] := by
  induction ns generalizing s with
  | nil => rfl
  | cons n ns ih =>
    obtain ⟨hn, hns⟩ := List.nodup_cons.mp hns
    have hne : ∀ m ∈ ns, m ≠ n := fun m hm c => hn (c ▸ hm)
    have hs : ∀ m ∈ ns, (s.silenceLane n).lanes[m].transmits = true := fun m hm => by
      rw [State.silenceLane_lane_ne s (hne m hm)]
      exact h m (List.mem_cons_of_mem _ hm)
    rw [List.foldl_cons, ih hns hs]
    by_cases hk : k ∈ ns
    · rw [if_pos hk, if_pos (List.mem_cons_of_mem _ hk), State.silenceOf_silenceLane s (hne k hk)]
    · rw [if_neg hk, State.silenceLane_lane (h n List.mem_cons_self)]
      by_cases hkn : k = n
      · subst hkn
        rw [if_pos rfl, if_pos List.mem_cons_self]
      · rw [if_neg hkn, if_neg (List.not_mem_cons_of_ne_of_not_mem hkn hk)]

theorem silenceLanes_lastSwell (ns : List LaneNo) (s : State) (k : LaneNo) :
    (ns.foldl State.silenceLane s).dyn.lastSwell[k]
      = if k ∈ ns ∧ s.lanes[k].state = .live then s.dyn.expr else s.dyn.lastSwell[k] := by
  induction ns generalizing s with
  | nil => simp
  | cons n ns ih =>
    have hstate : (s.silenceLane n).lanes[k].state = s.lanes[k].state := by
      by_cases hk : k = n
      · subst hk
        exact (State.silenceLane_keeps s k).1
      · rw [State.silenceLane_lane_ne s hk]
    rw [List.foldl_cons, ih, hstate, State.silenceLane_expr, State.silenceLane_lastSwell]
    by_cases hk : k = n
    · subst hk
      by_cases hl : s.lanes[k].state = .live
      · simp only [hl, and_true, List.mem_cons, true_or, if_true, ite_self]
      · simp only [hl, and_false, if_false]
    · simp [hk]

theorem silenceLanes_voice (ns : List LaneNo) (s : State) (v : Slot) :
    (ns.foldl State.silenceLane s).vtb.voices[v] = ns.foldl Voice.cleared s.vtb.voices[v] := by
  induction ns generalizing s with
  | nil => rfl
  | cons n ns ih => rw [List.foldl_cons, ih, State.silenceLane_voice, List.foldl_cons]

theorem silenceLanes_frame (ns : List LaneNo) (s : State) :
    ns.foldl State.silenceLane s = { s with
      lanes := (ns.foldl State.silenceLane s).lanes
      vtb := { s.vtb with voices := (ns.foldl State.silenceLane s).vtb.voices }
      dyn := { s.dyn with lastSwell := (ns.foldl State.silenceLane s).dyn.lastSwell } } := by
  induction ns generalizing s with
  | nil => rfl
  | cons n ns ih =>
    rw [List.foldl_cons]
    have hframe := ih (s.silenceLane n)
    rw [State.silenceLane_frame s n] at hframe ⊢
    exact hframe

theorem silenceLanes_keeps (ns : List LaneNo) (s : State) : KeepsLaneStates s (ns.foldl State.silenceLane s) := by
  induction ns generalizing s with
  | nil => exact fun _ => ⟨rfl, rfl, rfl⟩
  | cons n ns ih =>
    intro k
    obtain ⟨hstate, htimeout, hready⟩ := ih (s.silenceLane n) k
    rw [List.foldl_cons, hstate, htimeout, hready]
    by_cases hk : k = n
    · subst hk
      obtain ⟨h₁, h₂, h₃, -⟩ := State.silenceLane_keeps s k
      exact ⟨h₁, h₂, h₃⟩
    · rw [State.silenceLane_lane_ne s hk]
      exact ⟨rfl, rfl, rfl⟩

/-! ## A voice cleared of several lanes -/

theorem cleareds_free {y : Voice} (h : y.state = .free) (ns : List LaneNo) : ns.foldl Voice.cleared y = y := by
  induction ns with
  | nil => rfl
  | cons n ns ih => rw [List.foldl_cons, Voice.cleared_free n h, ih]

theorem cleareds_sounding (y : Voice) (ns : List LaneNo) :
    (ns.foldl Voice.cleared y).state = .sounding ↔ y.state = .sounding := by
  induction ns generalizing y with
  | nil => exact Iff.rfl
  | cons n ns ih => rw [List.foldl_cons, ih, Voice.cleared_sounding]

theorem Voice.cleared_has (y : Voice) (n k : LaneNo) :
    (LaneSet.has (y.cleared n).lanes k = true → LaneSet.has y.lanes k = true)
      ∧ (LaneSet.has (y.cleared n).owed k = true → LaneSet.has y.owed k = true) := by
  by_cases h : y.state = .free
  · rw [Voice.cleared_free n h]
    exact ⟨id, id⟩
  · rw [Voice.cleared_not_free n h]
    simp only [LaneSet.has_remove, Bool.and_eq_true]
    exact ⟨And.left, And.left⟩

theorem cleareds_has (y : Voice) (ns : List LaneNo) (k : LaneNo) :
    (LaneSet.has (ns.foldl Voice.cleared y).lanes k = true → LaneSet.has y.lanes k = true)
      ∧ (LaneSet.has (ns.foldl Voice.cleared y).owed k = true → LaneSet.has y.owed k = true) := by
  induction ns generalizing y with
  | nil => exact ⟨id, id⟩
  | cons n ns ih =>
    obtain ⟨hlanes, howed⟩ := ih (y.cleared n)
    obtain ⟨hl, ho⟩ := y.cleared_has n k
    exact ⟨fun h => hl (hlanes h), fun h => ho (howed h)⟩

/-- A voice that is not FREE after it has no lane left of those it was cleared of. -/
theorem cleareds_gone {y : Voice} {ns : List LaneNo} {k : LaneNo} (hk : k ∈ ns)
    (h : (ns.foldl Voice.cleared y).state ≠ .free) :
    LaneSet.has (ns.foldl Voice.cleared y).lanes k = false ∧ LaneSet.has (ns.foldl Voice.cleared y).owed k = false := by
  induction ns generalizing y with
  | nil => cases hk
  | cons n ns ih =>
    rcases List.mem_cons.mp hk with rfl | hk
    · rw [List.foldl_cons] at h ⊢
      have hy : y.state ≠ .free := fun hf => h (by rw [Voice.cleared_free k hf, cleareds_free hf, hf])
      obtain ⟨hlanes, howed⟩ := cleareds_has (y.cleared k) ns k
      have hgone : LaneSet.has (y.cleared k).lanes k = false ∧ LaneSet.has (y.cleared k).owed k = false := by
        rw [Voice.cleared_not_free k hy]
        simp only [LaneSet.has_remove, decide_true, Bool.not_true, Bool.and_false, and_self]
      rw [hgone.1] at hlanes
      rw [hgone.2] at howed
      exact ⟨Bool.eq_false_iff.mpr fun c => Bool.false_ne_true (hlanes c),
        Bool.eq_false_iff.mpr fun c => Bool.false_ne_true (howed c)⟩
    · exact ih hk h

theorem LaneSet.and_not_add (b g : LaneSet) (n : LaneNo) :
    LaneSet.remove (b &&& ~~~g) n = b &&& ~~~(LaneSet.add g n) := by
  revert b g n; decide

/-- Of a voice whose sets are those of its state, clearing one lane more. -/
theorem Voice.clearedOf_cleared {y : Voice} (h : y.Coherent) (g : LaneSet) (n : LaneNo) :
    (y.clearedOf g).cleared n = y.clearedOf (LaneSet.add g n) := by
  obtain ⟨-, -, howed⟩ := h
  unfold Voice.clearedOf
  by_cases hf : y.state = .free
  · rw [if_pos hf, if_pos hf, Voice.cleared_free n hf]
  · rw [if_neg hf, if_neg hf]
    by_cases hgone : y.state = .owed ∧ y.owed &&& ~~~g = 0
    · obtain ⟨-, hlanes, -⟩ := howed hgone.1
      have hadd : y.owed &&& ~~~(LaneSet.add g n) = 0 := by
        rw [← LaneSet.and_not_add, hgone.2]
        revert n; decide
      rw [Voice.cleared_free n (by simp only [if_pos hgone]), hgone.2, hadd, hlanes]
      simp [hgone.1]
    · rw [Voice.cleared_not_free n (by simp only [if_neg hgone]; exact hf)]
      simp only [if_neg hgone, LaneSet.and_not_add]

theorem Voice.clearedOf_zero {y : Voice} (h : y.Coherent) : y.clearedOf 0 = y := by
  obtain ⟨-, -, howed⟩ := h
  have hall : ∀ b : LaneSet, b &&& ~~~(0 : LaneSet) = b := by decide
  unfold Voice.clearedOf
  rw [hall, hall, if_neg fun c : y.state = .owed ∧ y.owed = 0 => (howed c.1).2.2 c.2, ite_self]

theorem cleareds_eq_clearedOf {y : Voice} (h : y.Coherent) (ns : List LaneNo) (g : LaneSet) :
    ns.foldl Voice.cleared (y.clearedOf g) = y.clearedOf (ns.foldl LaneSet.add g) := by
  induction ns generalizing g with
  | nil => rfl
  | cons n ns ih => rw [List.foldl_cons, List.foldl_cons, Voice.clearedOf_cleared h, ih]

theorem LaneSet.has_adds (ns : List LaneNo) (g : LaneSet) (k : LaneNo) :
    LaneSet.has (ns.foldl LaneSet.add g) k = (LaneSet.has g k || decide (k ∈ ns)) := by
  induction ns generalizing g with
  | nil => simp
  | cons n ns ih => rw [List.foldl_cons, ih, LaneSet.has_add]; simp [Bool.or_assoc]

/-- A Silence on each lane of a set that transmits, as the statements spell it. -/
theorem silenceLanes_eq_silencedOn {s : State} (hc : s.vtb.Coherent) {ns : List LaneNo} (hns : ns.Nodup)
    (h : ∀ n ∈ ns, s.lanes[n].transmits = true) {chosen : LaneSet} (hchosen : ∀ n, LaneSet.has chosen n = decide (n ∈ ns)) :
    ns.foldl State.silenceLane s = s.silencedOn chosen := by
  have hset : ns.foldl LaneSet.add 0 = chosen := LaneSet.ext fun k => by
    have hzero : LaneSet.has 0 k = false := (LaneSet.eq_zero_iff 0).mp rfl k
    rw [LaneSet.has_adds, hchosen, hzero, Bool.false_or]
  have hlanes : (ns.foldl State.silenceLane s).lanes = (s.silencedOn chosen).lanes := table_ext fun k => by
    refine (silenceLanes_lane hns h k).trans (Eq.trans ?_ (get_tabulate _ k).symm)
    have hk : chosen.getLsbD k.val = decide (k ∈ ns) := hchosen k
    by_cases hm : k ∈ ns
    · rw [if_pos hm, if_pos (by rw [hk]; exact decide_eq_true hm)]
      rfl
    · rw [if_neg hm, if_neg (by rw [hk]; exact fun c => hm (of_decide_eq_true c))]
  have hswell : (ns.foldl State.silenceLane s).dyn.lastSwell = (s.silencedOn chosen).dyn.lastSwell :=
    table_ext fun k => by
      refine (silenceLanes_lastSwell ns s k).trans (Eq.trans ?_ (get_tabulate _ k).symm)
      have hk : chosen.getLsbD k.val = decide (k ∈ ns) := hchosen k
      rw [hk]
      simp only [decide_eq_true_eq]
  have hvoices : (ns.foldl State.silenceLane s).vtb.voices = (s.silencedOn chosen).vtb.voices := table_ext fun v => by
    refine (silenceLanes_voice ns s v).trans (Eq.trans ?_ (get_tabulate _ v).symm)
    have hfold := cleareds_eq_clearedOf (hc v) ns 0
    rw [Voice.clearedOf_zero (hc v), hset] at hfold
    exact hfold
  rw [silenceLanes_frame, hlanes, hswell, hvoices]
  rfl

/-! ## The ends of a fall of E -/

theorem ends_lane {s : State} {k : LaneNo}
    (h : ∀ v : Slot, s.vtb.voices[v].state = .sounding → LaneSet.has s.vtb.voices[v].lanes k = false) (vs : List Slot) :
    (vs.foldl endVoice s).lanes[k] = s.lanes[k] := by
  induction vs generalizing s with
  | nil => rfl
  | cons v vs ih =>
    by_cases hs : s.vtb.voices[v].state = .sounding
    · rw [List.foldl_cons, ih, endVoice_lane hs, h v hs, if_neg nofun]
      intro w hw
      have hne : w ≠ v := fun c => endVoice_state_ne s v (c ▸ hw)
      rw [endVoice_voice_ne s hne] at hw ⊢
      exact h w hw
    · rw [List.foldl_cons, endVoice_not_sounding hs, ih h]

theorem ends_not_sounding {s : State} {v : Slot} (h : s.vtb.voices[v].state ≠ .sounding) (vs : List Slot) :
    (vs.foldl endVoice s).vtb.voices[v] = s.vtb.voices[v] := by
  induction vs generalizing s with
  | nil => rfl
  | cons w vs ih =>
    have hv : (endVoice s w).vtb.voices[v] = s.vtb.voices[v] := by
      by_cases hw : v = w
      · subst hw
        rw [endVoice_not_sounding h]
      · exact endVoice_voice_ne s hw
    rw [List.foldl_cons, ih (hv ▸ h), hv]

/-- A voice of the list that sounds is ended once, and no lane owes it a Stop that was not owed and did not serve it. -/
theorem ends_voice {s : State} {v : Slot} (vs : List Slot) :
    (vs.foldl endVoice s).vtb.voices[v] = s.vtb.voices[v] ∧ (v ∈ vs → s.vtb.voices[v].state ≠ .sounding)
      ∨ s.vtb.voices[v].state = .sounding
        ∧ ∃ owed : LaneSet, (vs.foldl endVoice s).vtb.voices[v] = s.vtb.voices[v].ended owed
        ∧ ∀ k, LaneSet.has owed k = true →
          LaneSet.has s.vtb.voices[v].owed k = true ∨ LaneSet.has s.vtb.voices[v].lanes k = true := by
  induction vs generalizing s with
  | nil => exact .inl ⟨rfl, nofun⟩
  | cons w vs ih =>
    rw [List.foldl_cons]
    by_cases hw : v = w
    · subst hw
      by_cases hs : s.vtb.voices[v].state = .sounding
      · have hrest : (vs.foldl endVoice (endVoice s v)).vtb.voices[v] = (endVoice s v).vtb.voices[v] :=
          ends_not_sounding (endVoice_state_ne s v) vs
        obtain ⟨owed, hvoice, howed⟩ := endVoice_voice hs
        refine .inr ⟨hs, owed, hrest.trans hvoice, fun k hk => ?_⟩
        rw [howed, Bool.or_eq_true, Bool.and_eq_true] at hk
        exact hk.imp_right And.left
      · rw [endVoice_not_sounding hs]
        rcases ih (s := s) with ⟨h, -⟩ | h
        · exact .inl ⟨h, fun _ => hs⟩
        · exact .inr h
    · have hv := endVoice_voice_ne s hw
      rcases ih (s := endVoice s w) with ⟨h, hns⟩ | ⟨hs, owed, h, howed⟩
      · rw [hv] at h hns
        exact .inl ⟨h, fun hm => hns ((List.mem_cons.mp hm).resolve_left hw)⟩
      · rw [hv] at hs h howed
        exact .inr ⟨hs, owed, h, howed⟩

end Sys2Proof.Machine

/-! PROOF. Lanes silenced and E lowered, as Panic and the entry to HALTED do it (R136, R138), and Panic itself. -/

namespace Sys2Proof.Machine

/-! ## The fall of E -/

theorem voicesFallen_frame (s : State) :
    s.voicesFallen = { s with
      vtb := { s.vtb with
        voices := s.voicesFallen.vtb.voices, voicedAs := Vector.replicate 256 none }
      lanes := s.voicesFallen.lanes } := by
  have hends : ∀ vs : List Slot, vs.foldl endVoice s = { s with
      vtb := { s.vtb with voices := (vs.foldl endVoice s).vtb.voices }, lanes := (vs.foldl endVoice s).lanes } := by
    intro vs
    induction vs generalizing s with
    | nil => rfl
    | cons v vs ih =>
      have hv := ih (endVoice s v)
      rw [List.foldl_cons]
      rw [endVoice_frame s v] at hv ⊢
      exact hv
  unfold State.voicesFallen
  generalize (List.finRange 48).filter (fun v => s.vtb.voices[v].state == .sounding) = vs
  rw [hends vs]

theorem voicesFallen_lane {s : State} {k : LaneNo}
    (h : ∀ v : Slot, s.vtb.voices[v].state = .sounding → LaneSet.has s.vtb.voices[v].lanes k = false) :
    s.voicesFallen.lanes[k] = s.lanes[k] :=
  ends_lane h _

theorem voicesFallen_voice (s : State) (v : Slot) :
    s.voicesFallen.vtb.voices[v] = s.vtb.voices[v] ∧ s.vtb.voices[v].state ≠ .sounding
      ∨ s.vtb.voices[v].state = .sounding
        ∧ ∃ owed : LaneSet, s.voicesFallen.vtb.voices[v] = s.vtb.voices[v].ended owed
        ∧ ∀ k, LaneSet.has owed k = true →
          LaneSet.has s.vtb.voices[v].owed k = true ∨ LaneSet.has s.vtb.voices[v].lanes k = true := by
  rcases ends_voice (s := s) (v := v) ((List.finRange 48).filter fun v => s.vtb.voices[v].state == .sounding)
    with ⟨h, hns⟩ | h
  · refine .inl ⟨h, fun hs => hns (List.mem_filter.mpr ⟨List.mem_finRange v, beq_iff_eq.mpr hs⟩) hs⟩
  · exact .inr h

theorem voicesFallen_not_sounding (s : State) (v : Slot) : s.voicesFallen.vtb.voices[v].state ≠ .sounding := by
  rcases voicesFallen_voice s v with ⟨h, hns⟩ | ⟨-, owed, h, -⟩
  · rw [h]
    exact hns
  · rw [h]
    unfold Voice.ended
    simp only []
    split <;> nofun

theorem voicesFallen_unvoiced (s : State) (x : Crosspoint) : s.voicesFallen.vtb.voicedAs[x] = none :=
  get_replicate _ _

theorem voicesFallen_keeps (s : State) : KeepsLaneStates s s.voicesFallen := (enableFell_voiceWork s).2

theorem writeEnable_lowers (s : State) :
    writeEnable false false s
      = if s.slc.enable = true then (s.setSlc { s.slc with enable := false, shadow := false }).voicesFallen
        else s.setSlc { s.slc with enable := false, shadow := false } := by
  unfold writeEnable
  cases s.slc.enable <;> rfl

/-! ## Lanes silenced, then E lowered -/

/-- The part with lanes silenced, Silencing Control written, and the voice work of a fall if E was 1. -/
def State.quieted (s : State) (ns : List LaneNo) (c : Silencing) : State :=
  if s.slc.enable = true then ((ns.foldl State.silenceLane s).setSlc c).voicesFallen
  else (ns.foldl State.silenceLane s).setSlc c

section
variable {s : State} {ns : List LaneNo} (c : Silencing)

theorem quieted_frame (ns : List LaneNo) :
    s.quieted ns c = { s with
      slc := c, lanes := (s.quieted ns c).lanes
      vtb := { (s.quieted ns c).vtb with seqCounter := s.vtb.seqCounter }
      dyn := { s.dyn with lastSwell := (ns.foldl State.silenceLane s).dyn.lastSwell } } := by
  have hframe := silenceLanes_frame ns s
  unfold State.quieted
  generalize ns.foldl State.silenceLane s = w at hframe ⊢
  split
  · have hfall := voicesFallen_frame (w.setSlc c)
    generalize (w.setSlc c).voicesFallen = t at hfall ⊢
    rw [hfall, hframe]
    rfl
  · rw [hframe]
    rfl

theorem quieted_keeps (ns : List LaneNo) : KeepsLaneStates s (s.quieted ns c) := by
  have hsilence := silenceLanes_keeps ns s
  unfold State.quieted
  split
  · intro k
    obtain ⟨h₁, h₂, h₃⟩ := voicesFallen_keeps ((ns.foldl State.silenceLane s).setSlc c) k
    obtain ⟨g₁, g₂, g₃⟩ := hsilence k
    exact ⟨h₁.trans g₁, h₂.trans g₂, h₃.trans g₃⟩
  · exact hsilence

theorem quieted_lastSwell (ns : List LaneNo) (k : LaneNo) :
    (s.quieted ns c).dyn.lastSwell[k]
      = if k ∈ ns ∧ s.lanes[k].state = .live then s.dyn.expr else s.dyn.lastSwell[k] := by
  rw [quieted_frame]
  exact silenceLanes_lastSwell ns s k

/-- A lane that serves no SOUNDING voice once the lanes are silenced is as the Silences left it. -/
theorem quieted_lane {k : LaneNo}
    (h : ∀ v : Slot, (ns.foldl State.silenceLane s).vtb.voices[v].state = .sounding →
      LaneSet.has (ns.foldl State.silenceLane s).vtb.voices[v].lanes k = false) :
    (s.quieted ns c).lanes[k] = (ns.foldl State.silenceLane s).lanes[k] := by
  unfold State.quieted
  split
  · exact voicesFallen_lane (s := (ns.foldl State.silenceLane s).setSlc c) h
  · rfl

theorem quieted_lane_silenced (hns : ns.Nodup) (h : ∀ n ∈ ns, s.lanes[n].transmits = true) {k : LaneNo} (hk : k ∈ ns) :
    (s.quieted ns c).lanes[k] = s.silenceOf k := by
  rw [quieted_lane c fun v hv => ?_, silenceLanes_lane hns h, if_pos hk]
  rw [silenceLanes_voice] at hv ⊢
  exact (cleareds_gone hk fun hf => by rw [hf] at hv; cases hv).1

theorem quieted_lane_other (hns : ns.Nodup) (h : ∀ n ∈ ns, s.lanes[n].transmits = true) (hagree : s.VoicesAndLanesAgree)
    {k : LaneNo} (hk : k ∉ ns) (hlive : s.lanes[k].state ≠ .live) : (s.quieted ns c).lanes[k] = s.lanes[k] := by
  rw [quieted_lane c fun v _ => ?_, silenceLanes_lane hns h, if_neg hk]
  obtain ⟨-, hv⟩ := hagree k
  obtain ⟨hlanes, -⟩ := hv v
  rw [silenceLanes_voice]
  exact Bool.eq_false_iff.mpr fun hhas => hlive (hlanes ((cleareds_has _ ns k).1 hhas))

theorem quieted_voice (ns : List LaneNo) (v : Slot) :
    (s.quieted ns c).vtb.voices[v] = ns.foldl Voice.cleared s.vtb.voices[v]
        ∧ ¬ (s.slc.enable = true ∧ s.vtb.voices[v].state = .sounding)
      ∨ s.vtb.voices[v].state = .sounding
        ∧ ∃ owed : LaneSet, (s.quieted ns c).vtb.voices[v] = (ns.foldl Voice.cleared s.vtb.voices[v]).ended owed
        ∧ ∀ k, LaneSet.has owed k = true → LaneSet.has (ns.foldl Voice.cleared s.vtb.voices[v]).owed k = true
          ∨ LaneSet.has (ns.foldl Voice.cleared s.vtb.voices[v]).lanes k = true := by
  unfold State.quieted
  split
  · have hfall := voicesFallen_voice ((ns.foldl State.silenceLane s).setSlc c) v
    have hvoice : ((ns.foldl State.silenceLane s).setSlc c).vtb.voices[v] = ns.foldl Voice.cleared s.vtb.voices[v] :=
      silenceLanes_voice ns s v
    rw [hvoice, ne_eq, cleareds_sounding s.vtb.voices[v]] at hfall
    exact hfall.imp_left fun ⟨h, hs⟩ => ⟨h, fun hc => hs hc.2⟩
  · next he => exact .inl ⟨silenceLanes_voice ns s v, fun hc => he hc.1⟩

theorem quieted_not_sounding (he : s.slc.enable = true) (ns : List LaneNo) (v : Slot) :
    (s.quieted ns c).vtb.voices[v].state ≠ .sounding := by
  unfold State.quieted
  rw [if_pos he]
  exact voicesFallen_not_sounding _ v

theorem quieted_unvoiced (he : s.slc.enable = true) (ns : List LaneNo) (x : Crosspoint) :
    (s.quieted ns c).vtb.voicedAs[x] = none := by
  unfold State.quieted
  rw [if_pos he]
  exact voicesFallen_unvoiced _ x

theorem quieted_gone {k : LaneNo} (hk : k ∈ ns) {v : Slot} (h : (s.quieted ns c).vtb.voices[v].state ≠ .free) :
    LaneSet.has (s.quieted ns c).vtb.voices[v].lanes k = false
      ∧ LaneSet.has (s.quieted ns c).vtb.voices[v].owed k = false := by
  rcases quieted_voice (s := s) c ns v with ⟨hv, -⟩ | ⟨hs, owed, hv, howed⟩
  · rw [hv] at h ⊢
    exact cleareds_gone hk h
  · rw [hv] at h ⊢
    have hf : (ns.foldl Voice.cleared s.vtb.voices[v]).state ≠ .free := fun hf => by
      rw [← cleareds_sounding s.vtb.voices[v] ns, hf] at hs
      cases hs
    obtain ⟨hlanes, howed'⟩ := cleareds_gone hk hf
    refine ⟨(LaneSet.eq_zero_iff 0).mp rfl k, Bool.eq_false_iff.mpr fun hhas => ?_⟩
    rcases howed k hhas with ho | hl
    · rw [howed'] at ho
      cases ho
    · rw [hlanes] at hl
      cases hl

theorem cleareds_coherent {y : Voice} (h : y.Coherent) (ns : List LaneNo) : (ns.foldl Voice.cleared y).Coherent := by
  induction ns generalizing y with
  | nil => exact h
  | cons n ns ih => exact ih (h.cleared n)

theorem LaneSet.exists_has {b : LaneSet} (h : b ≠ 0) : ∃ k : LaneNo, LaneSet.has b k = true := by
  by_contra hn
  exact h ((LaneSet.eq_zero_iff b).mpr fun k => Bool.eq_false_iff.mpr fun hk => hn ⟨k, hk⟩)

/-- With voices and lanes in agreement, the Silences leave an OWED voice no lane to owe it, and the fall of E ends each
SOUNDING one at once. -/
theorem quieted_freed (hagree : s.VoicesAndLanesAgree) (hc : s.vtb.Coherent)
    (hlive : ∀ k : LaneNo, s.lanes[k].state = .live → k ∈ ns) {v : Slot}
    (h : s.slc.enable = true ∨ s.vtb.voices[v].state ≠ .sounding) : (s.quieted ns c).vtb.voices[v].state = .free := by
  have hserved : ∀ k, LaneSet.has s.vtb.voices[v].lanes k = true ∨ LaneSet.has s.vtb.voices[v].owed k = true → k ∈ ns :=
    fun k hk => by
      obtain ⟨-, hv⟩ := hagree k
      obtain ⟨hlanes, howed, -⟩ := hv v
      exact hlive k (hk.elim hlanes howed)
  by_contra hfree
  have hbit : ∃ k, LaneSet.has (s.quieted ns c).vtb.voices[v].owed k = true ∧ k ∈ ns := by
    rcases quieted_voice (s := s) c ns v with ⟨hv, hkeeps⟩ | ⟨-, owed, hv, howed⟩
    · rw [hv] at hfree ⊢
      have hns : (ns.foldl Voice.cleared s.vtb.voices[v]).state ≠ .sounding := fun hs => by
        have hsounds := (cleareds_sounding s.vtb.voices[v] ns).mp hs
        exact h.elim (fun he => hkeeps ⟨he, hsounds⟩) fun hn => hn hsounds
      obtain ⟨-, -, howed⟩ := cleareds_coherent (hc v) ns
      have hstate : (ns.foldl Voice.cleared s.vtb.voices[v]).state = .owed := by
        generalize (ns.foldl Voice.cleared s.vtb.voices[v]).state = st at hfree hns
        cases st with
        | free => exact absurd rfl hfree
        | sounding => exact absurd rfl hns
        | owed => rfl
      obtain ⟨k, hk⟩ := LaneSet.exists_has (howed hstate).2.2
      exact ⟨k, hk, hserved k (.inr ((cleareds_has _ ns k).2 hk))⟩
    · rw [hv] at hfree ⊢
      have hne : owed ≠ 0 := fun hz => hfree (if_pos hz)
      obtain ⟨k, hk⟩ := LaneSet.exists_has hne
      exact ⟨k, hk, hserved k ((howed k hk).elim (fun ho => .inr ((cleareds_has _ ns k).2 ho))
        fun hl => .inl ((cleareds_has _ ns k).1 hl))⟩
  obtain ⟨k, hk, hmem⟩ := hbit
  rw [(quieted_gone c hmem hfree).2] at hk
  cases hk

/-- The part so silenced, as the statements spell it. -/
theorem quieted_eq (hc : s.vtb.Coherent) (hns : ns.Nodup) (h : ∀ n ∈ ns, s.lanes[n].transmits = true)
    {chosen : LaneSet} (hchosen : ∀ n, LaneSet.has chosen n = decide (n ∈ ns)) :
    s.quieted ns c = if s.slc.enable = true then ({ s.silencedOn chosen with slc := c } : State).voicesFallen
      else { s.silencedOn chosen with slc := c } := by
  unfold State.quieted
  rw [silenceLanes_eq_silencedOn hc hns h hchosen]
  rfl

end

/-! ## Panic -/

theorem has_laneSetOf (p : LaneNo → Bool) (n : LaneNo) : LaneSet.has (laneSetOf p) n = p n := by
  have hall : ∀ a b c d : Bool, ∀ n : LaneNo,
      LaneSet.has (laneSetOf fun k => if k = 0 then a else if k = 1 then b else if k = 2 then c else d) n
        = if n = 0 then a else if n = 1 then b else if n = 2 then c else d := by decide
  have hp : p = fun k => if k = 0 then p 0 else if k = 1 then p 1 else if k = 2 then p 2 else p 3 := by
    funext k
    fin_cases k <;> rfl
  rw [hp]
  exact hall (p 0) (p 1) (p 2) (p 3) n

/-- What Silencing Control holds after a Panic (R136, R137). -/
def State.panicSilencing (s : State) : Silencing :=
  { s.slc with
    enable := false, shadow := false, pending := s.slc.pending ||| s.joining
    stale := (s.slc.stale &&& ~~~s.joining) ||| s.joiningStale }

theorem silenceLanes_slc (ns : List LaneNo) (s : State) : (ns.foldl State.silenceLane s).slc = s.slc := by
  rw [silenceLanes_frame]

theorem panicked_eq (s : State) : s.panicked = s.quieted (LaneSet.members s.joining) s.panicSilencing := by
  have hslc := silenceLanes_slc (LaneSet.members s.joining) s
  unfold State.panicked State.quieted
  generalize (LaneSet.members s.joining).foldl State.silenceLane s = w at hslc ⊢
  rw [writeEnable_lowers]
  unfold State.joined State.panicSilencing
  simp only [State.setSlc_slc, hslc]
  rfl

theorem panicPart_quieted (s : State) :
    panicPart s = if s.panicSilencing.pending = 0
      then (s.quieted (LaneSet.members s.joining) s.panicSilencing).raise .silenceDone
      else s.quieted (LaneSet.members s.joining) s.panicSilencing := by
  rw [panicPart_eq, panicked_eq, silenceLanes_slc]
  rfl

theorem mem_joining (s : State) (n : LaneNo) :
    n ∈ LaneSet.members s.joining ↔ s.lanes[n].state = .live ∨ s.lanes[n].state = .closing := by
  rw [LaneSet.mem_members, State.joining, has_laneSetOf, Lane.transmits_iff]

end Sys2Proof.Machine

/-! PROOF. Panic settles O47 (R136, R137). -/

namespace Sys2Proof.Machine

/-! ## The part after a Panic, before the notice -/

/-- The part with the lanes silenced, the pair written and the voices fallen, without SILENCE_DONE. -/
def State.panicQuiet (s : State) : State := s.quieted (LaneSet.members s.joining) s.panicSilencing

section
variable (s : State)

theorem panicPart_quiet :
    panicPart s = if s.panicSilencing.pending = 0 then s.panicQuiet.raise .silenceDone else s.panicQuiet :=
  panicPart_quieted s

theorem panicPart_blocks :
    (panicPart s).vtb = s.panicQuiet.vtb ∧ (panicPart s).lanes = s.panicQuiet.lanes
      ∧ (panicPart s).dyn = s.panicQuiet.dyn ∧ (panicPart s).slc = s.panicSilencing := by
  have hslc : s.panicQuiet.slc = s.panicSilencing := by
    unfold State.panicQuiet
    rw [quieted_frame]
  rw [panicPart_quiet]
  split
  · exact ⟨rfl, rfl, rfl, hslc⟩
  · exact ⟨rfl, rfl, rfl, hslc⟩

theorem panicQuiet_frame :
    s.panicQuiet = { s with
      slc := s.panicSilencing, lanes := s.panicQuiet.lanes
      vtb := { s.panicQuiet.vtb with seqCounter := s.vtb.seqCounter }
      dyn := { s.dyn with lastSwell := s.panicQuiet.dyn.lastSwell } } := by
  unfold State.panicQuiet
  have hframe := quieted_frame (s := s) s.panicSilencing (LaneSet.members s.joining)
  have hdyn : (s.quieted (LaneSet.members s.joining) s.panicSilencing).dyn.lastSwell
      = ((LaneSet.members s.joining).foldl State.silenceLane s).dyn.lastSwell := congrArg (·.dyn.lastSwell) hframe
  rw [hdyn]
  exact hframe

theorem panicPart_frame :
    panicPart s = { s with
      slc := (panicPart s).slc, lanes := (panicPart s).lanes, vtb := (panicPart s).vtb
      dyn := { s.dyn with lastSwell := (panicPart s).dyn.lastSwell }
      ntu := { s.ntu with slots := (panicPart s).ntu.slots } } := by
  obtain ⟨hvtb, hlanes, hdyn, hslc⟩ := panicPart_blocks s
  have hframe := panicQuiet_frame s
  have hseq : ({ s.panicQuiet.vtb with seqCounter := s.vtb.seqCounter } : VoiceTable) = s.panicQuiet.vtb :=
    (congrArg (·.vtb) hframe).symm
  rw [hseq] at hframe
  rw [hvtb, hlanes, hdyn, hslc, panicPart_quiet]
  generalize s.panicQuiet = q at hframe ⊢
  split
  · rw [hframe]
    rfl
  · rw [hframe]

theorem joining_transmits : ∀ n ∈ LaneSet.members s.joining, s.lanes[n].transmits = true := fun n hn =>
  (Lane.transmits_iff _).mpr ((mem_joining s n).mp hn)

theorem joining_has (n : LaneNo) :
    LaneSet.has s.joining n = (s.lanes[n].state == .live || s.lanes[n].state == .closing) := by
  rw [State.joining, has_laneSetOf]
  rfl

end

theorem panic_pending (s : State) (n : LaneNo) :
    s.panicSilencing.pending.getLsbD n.val
      = (s.slc.pending.getLsbD n.val || s.lanes[n].state == .live || s.lanes[n].state == .closing) := by
  have hj : s.joining.getLsbD n.val = (s.lanes[n].state == .live || s.lanes[n].state == .closing) := joining_has s n
  unfold State.panicSilencing
  simp only []
  rw [BitVec.getLsbD_or, hj, Bool.or_assoc]

theorem has_stale (a b c : LaneSet) (n : LaneNo) :
    ((a &&& ~~~b) ||| c).getLsbD n.val = ((a.getLsbD n.val && !b.getLsbD n.val) || c.getLsbD n.val) := by
  revert a b c n; decide

theorem panic_stale (s : State) (n : LaneNo) :
    s.panicSilencing.stale.getLsbD n.val =
      if s.lanes[n].state = .live ∨ s.lanes[n].state = .closing then
        s.lanes[n].sending && s.lanes[n].queue.head? == some .silence
      else s.slc.stale.getLsbD n.val := by
  have hj : s.joining.getLsbD n.val = s.lanes[n].transmits := has_laneSetOf _ n
  have hst : s.joiningStale.getLsbD n.val = (s.lanes[n].transmits && s.lanes[n].sendsSilence) := has_laneSetOf _ n
  unfold State.panicSilencing
  simp only []
  rw [has_stale, hj, hst]
  by_cases ht : s.lanes[n].transmits = true
  · rw [if_pos ((Lane.transmits_iff _).mp ht), ht, Bool.not_true, Bool.and_false, Bool.false_or, Bool.true_and]
    rfl
  · rw [if_neg fun c => ht ((Lane.transmits_iff _).mpr c), Bool.eq_false_iff.mpr ht, Bool.not_false, Bool.and_true,
      Bool.false_and, Bool.or_false]

theorem silenceOf_live {s : State} {n : LaneNo} (h : s.lanes[n].state = .live) :
    s.silenceOf n = s.lanes[n].silenced [.tier s.tierCode, .swell s.dyn.expr] := by
  rw [State.silenceOf, if_pos h]

theorem silenceOf_not_live {s : State} {n : LaneNo} (h : s.lanes[n].state ≠ .live) :
    s.silenceOf n = s.lanes[n].silenced [] := by
  rw [State.silenceOf, if_neg h]

theorem Lane.silenced_owed (l : Lane) (behind : List LaneRecord) : (l.silenced behind).owed = [] := by
  unfold Lane.silenced
  split
  · split <;> rfl
  · rfl

theorem panic_takes (tag : Byte) (s : State) (h : s.Taking) :
    Accepts (.panic tag []) s (panicPart s) 0x2E tag [0, 0, byte (panicPart s).slc.pending.toNat] := by
  obtain ⟨hs, hplay⟩ := h
  have htakes : Takes (.panic tag []) 0x2E tag false (parseEmpty []) fun _ s =>
    .accept (panicPart s) ((panicPart s).enableData ++ [byte (panicPart s).slc.pending.toNat]) := fun _ => rfl
  obtain ⟨-, -, -, hslc⟩ := panicPart_blocks s
  refine htakes.accepts hs (.inr hplay) (a := ()) rfl ?_
  have hcomm : panicPart s.rxDone = (panicPart s).rxDone := State.rxDone_comm (f := panicPart) (panicPart_setMlk s ·)
  have hlink : (panicPart s).rxDone.slc = (panicPart s).slc := rfl
  unfold State.enableData
  rw [hcomm, hlink, hslc]
  rfl

/-- Settles O47: the lanes that transmit are silenced, the pair is lowered, and the set that then waits decides the
notice. -/
theorem panicSilencesEveryLane : Obligations.PanicSilencesEveryLane := by
  unfold Obligations.PanicSilencesEveryLane
  intro tag s h
  obtain ⟨hvtb, hlanes, hdyn, hslc⟩ := panicPart_blocks s
  have hnodup := LaneSet.members_nodup s.joining
  have hjoin := joining_transmits s
  refine ⟨panicPart s, panic_takes tag s h, ?_⟩
  rw [hslc]
  refine ⟨panic_pending s, rfl, panic_stale s, fun n hn => ⟨?_, ?_⟩, fun n hn => ?_, fun n hn => ?_,
    fun hagree n hn => ?_, fun hagree hc v hv => ?_, ?_, fun n hn => ⟨?_, fun v hv => ?_⟩,
    fun he => ⟨fun v => ?_, fun x => ?_⟩, fun hz => ?_, ?_, ?_, ?_⟩
  · rw [hlanes, ← silenceOf_live hn]
    exact quieted_lane_silenced _ hnodup hjoin ((mem_joining s n).mpr (.inl hn))
  · rw [hdyn]
    exact (quieted_lastSwell _ _ n).trans (if_pos ⟨(mem_joining s n).mpr (.inl hn), hn⟩)
  · have hne : s.lanes[n].state ≠ .live := by rw [hn]; nofun
    rw [hlanes, ← silenceOf_not_live hne]
    exact quieted_lane_silenced _ hnodup hjoin ((mem_joining s n).mpr (.inr hn))
  · rw [hdyn]
    exact (quieted_lastSwell _ _ n).trans (if_neg fun c => hn c.2)
  · have hne : ¬ (s.lanes[n].state = .live ∨ s.lanes[n].state = .closing) := by
      rcases hn with hn | hn <;> rw [hn] <;> simp
    rw [hlanes]
    exact quieted_lane_other _ hnodup hjoin hagree (fun c => hne ((mem_joining s n).mp c)) fun c => hne (.inl c)
  · rw [hvtb]
    exact quieted_freed _ hagree hc (fun k hk => (mem_joining s k).mpr (.inl hk)) hv
  · rintro hc joining u w hset rfl rfl
    have hchosen : ∀ n, LaneSet.has joining n = decide (n ∈ LaneSet.members s.joining) := fun n => by
      have hn : LaneSet.has joining n = LaneSet.has s.joining n := (hset n).trans (joining_has s n).symm
      rw [hn]
      simp only [LaneSet.mem_members, Bool.decide_eq_true]
    have hquiet : s.panicQuiet = _ := quieted_eq s.panicSilencing hc hnodup hjoin hchosen
    rw [panicPart_quiet, hquiet]
  · rw [hlanes]
    refine (congrArg Lane.owed (quieted_lane_silenced _ hnodup hjoin ((mem_joining s n).mpr hn))).trans ?_
    exact Lane.silenced_owed _ _
  · rw [hvtb] at hv ⊢
    exact quieted_gone _ ((mem_joining s n).mpr hn) hv
  · rw [hvtb]
    exact quieted_not_sounding _ he _ v
  · rw [hvtb]
    exact quieted_unvoiced _ he _ x
  · rw [panicPart_quiet, if_pos hz]
    exact State.raise_noticed _ _ rfl
  · rw [hvtb, panicQuiet_frame]
  · have hframe := panicPart_frame s
    rw [hslc] at hframe
    exact hframe
  · intro n
    rw [hlanes]
    exact quieted_keeps _ _ n

end Sys2Proof.Machine

/-! PROOF. The requests that write the enable pair (R82, R83, R134, R135). -/

namespace Sys2Proof.Machine

/-- The presses of a list voice its crosspoints under BD, and no other. -/
theorem presses_voicedAs {s : State} (hp : s.slc.part = .playing) (he : s.slc.enable = true) (xs : List Crosspoint)
    (x : Crosspoint) :
    (xs.foldl pressKey s).vtb.voicedAs[x] = if x ∈ xs then some s.bfe.bd else s.vtb.voicedAs[x] := by
  induction xs generalizing s with
  | nil => rfl
  | cons y ys ih =>
    have hframe := (pressKey_voiceWork s y).1
    have hslc : (pressKey s y).slc = s.slc := by rw [hframe]
    have hbd : (pressKey s y).bfe = s.bfe := by rw [hframe]
    have hvoiced : (pressKey s y).vtb.voicedAs[x] = if x = y then some s.bfe.bd else s.vtb.voicedAs[x] := by
      rw [pressKey_enabled hp he, State.setVoicedAs_get, joins_voicedAs]
      simp only [List.mem_singleton]
    rw [List.foldl_cons, ih (hslc ▸ hp) (hslc ▸ he), hbd, hvoiced]
    by_cases hx : x = y
    · rw [if_pos hx, if_pos (List.mem_cons.mpr (.inl hx)), ite_self]
    · rw [if_neg hx]
      simp only [List.mem_cons, hx, false_or]

/-- The part with the enable pair written and no voice work done. -/
def State.withPair (s : State) (e sh : Bool) : State := { s with slc := { s.slc with enable := e, shadow := sh } }

section
variable {s : State} {e sh : Bool}

theorem writeEnable_same (h : e = s.slc.enable) : writeEnable e sh s = s.withPair e sh := by
  subst h
  unfold writeEnable State.withPair
  cases s.slc.enable <;> rfl

theorem writeEnable_fell (hs : s.slc.enable = true) (he : e = false) :
    writeEnable e sh s = (s.withPair e sh).voicesFallen := by
  subst he
  unfold writeEnable
  rw [hs]
  rfl

theorem writeEnable_rose (hs : s.slc.enable = false) (he : e = true) :
    writeEnable e sh s = (allCrosspoints.filter s.holdsKey).foldl pressKey (s.withPair e sh) := by
  subst he
  unfold writeEnable
  rw [hs]
  rfl

theorem writeEnable_data (e sh : Bool) (s : State) : (writeEnable e sh s).enableData = [byteOfBool e, byteOfBool sh] := by
  unfold State.enableData
  rw [(writeEnable_voiceWork e sh s).1]

theorem holdsKey_eq (s : State) (x : Crosspoint) :
    s.holdsKey x = (s.bsc.buttons[x].pressed
      && (s.bsc.roles[x].sect == some .treble || s.bsc.roles[x].sect == some .bass)) := by
  unfold State.holdsKey Role.plays
  cases s.bsc.roles[x] <;> rfl

/-- What every write of the pair does to the part. -/
theorem writeEnable_writes (hp : s.slc.part = .playing) (e sh : Bool) :
    OnlyVoiceWork { s with slc := { s.slc with enable := e, shadow := sh } } (writeEnable e sh s)
      ∧ (e = s.slc.enable → writeEnable e sh s = { s with slc := { s.slc with enable := e, shadow := sh } })
      ∧ (s.slc.enable = true → e = false →
          (∀ v : Slot, (writeEnable e sh s).vtb.voices[v].state ≠ .sounding)
            ∧ ∀ x : Crosspoint, (writeEnable e sh s).vtb.voicedAs[x] = none)
      ∧ (∀ u : State, s.slc.enable = true → e = false →
          u = ((List.finRange 48).filter fun v => s.vtb.voices[v].state == .sounding).foldl endVoice
            { s with slc := { s.slc with enable := e, shadow := sh } } →
          writeEnable e sh s = { u with vtb := { u.vtb with voicedAs := Vector.replicate 256 none } })
      ∧ (s.slc.enable = false → e = true →
          writeEnable e sh s = ((List.finRange 256).filter fun x =>
              s.bsc.buttons[x].pressed && (s.bsc.roles[x].sect == some .treble || s.bsc.roles[x].sect == some .bass)).foldl
            pressKey { s with slc := { s.slc with enable := e, shadow := sh } })
      ∧ (s.slc.enable = false → e = true →
          ∀ x : Crosspoint, (writeEnable e sh s).vtb.voicedAs[x] =
            if s.bsc.buttons[x].pressed = true ∧ s.bsc.roles[x].plays = true then some s.bfe.bd
            else s.vtb.voicedAs[x]) := by
  refine ⟨writeEnable_voiceWork e sh s, writeEnable_same, fun hs he => ⟨fun v => ?_, fun x => ?_⟩, ?_, fun hs he => ?_,
    fun hs he x => ?_⟩
  · rw [writeEnable_fell hs he]
    exact voicesFallen_not_sounding _ v
  · rw [writeEnable_fell hs he]
    exact voicesFallen_unvoiced _ x
  · rintro u hs he rfl
    exact writeEnable_fell hs he
  · rw [writeEnable_rose hs he]
    exact congrArg (fun p => ((List.finRange 256).filter p).foldl pressKey (s.withPair e sh)) (funext (holdsKey_eq s))
  · have hvoiced := presses_voicedAs (s := s.withPair e sh) hp he (allCrosspoints.filter s.holdsKey) x
    rw [writeEnable_rose hs he, hvoiced]
    have hmem : x ∈ allCrosspoints.filter s.holdsKey
        ↔ s.bsc.buttons[x].pressed = true ∧ s.bsc.roles[x].plays = true := by
      rw [List.mem_filter, State.holdsKey, Bool.and_eq_true]
      exact and_iff_right (List.mem_finRange x)
    simp only [hmem]
    rfl

end

/-- The request that writes the pair is answered with it. -/
theorem enable_accepts {i : Instr} {kind tag : Byte} {s : State} {e sh : Bool} {owner : Unit → State → Verdict}
    (htakes : Takes i kind tag false (parseEmpty []) owner) (hs : s.Taking)
    (ho : owner () s.rxDone = .accept (writeEnable e sh s.rxDone) (writeEnable e sh s.rxDone).enableData) :
    Accepts i s (writeEnable e sh s) kind tag [byteOfBool e, byteOfBool sh] := by
  obtain ⟨hreply, hplay⟩ := hs
  refine htakes.accepts hreply (.inr hplay) (a := ()) rfl (ho.trans ?_)
  rw [writeEnable_data, State.rxDone_comm (f := writeEnable e sh) (writeEnable_setMlk s · e sh)]

/-- Settles O46: the four requests write the pair, each with its own two values. -/
theorem enablePairIsWritten : Obligations.EnablePairIsWritten := by
  unfold Obligations.EnablePairIsWritten
  intro tag s i kind e sh hs hi
  refine ⟨writeEnable e sh s, ?_, writeEnable_writes hs.2 e sh⟩
  simp only [List.mem_cons, List.not_mem_nil, or_false, Prod.mk.injEq] at hi
  rcases hi with ⟨rfl, rfl, rfl, rfl⟩ | ⟨rfl, rfl, rfl, rfl⟩ | ⟨rfl, rfl, rfl, rfl⟩ | ⟨rfl, rfl, rfl, rfl⟩
  · exact enable_accepts (owner := fun _ s => .accept (writeEnable false false s) (writeEnable false false s).enableData)
      (fun _ => rfl) hs rfl
  · exact enable_accepts (owner := fun _ s => .accept (writeEnable true true s) (writeEnable true true s).enableData)
      (fun _ => rfl) hs rfl
  · exact enable_accepts (owner := fun _ s => .accept (hushPart s) (hushPart s).enableData) (fun _ => rfl) hs rfl
  · exact enable_accepts (owner := fun _ s => .accept (unhushPart s) (unhushPart s).enableData) (fun _ => rfl) hs rfl

end Sys2Proof.Machine

/-! PROOF. Pop Override and the switch release (R128 to R130, R132, R138). -/

namespace Sys2Proof.Machine

/-! ## The voices' work reads voices and lanes alone -/

/-- The part s with the voices and the lanes of t. -/
def State.withWork (s t : State) : State := { s with vtb := t.vtb, lanes := t.lanes }

section
variable (s t : State)

theorem settleLane_withWork (v : Slot) (n : LaneNo) : settleLane v (s.withWork t) n = s.withWork (settleLane v t n) := by
  rw [settleLane_eq, settleLane_eq]
  rfl

theorem foldl_withWork {α : Type} {f : State → α → State} (hf : ∀ t a, f (s.withWork t) a = s.withWork (f t a))
    (l : List α) (t : State) : l.foldl f (s.withWork t) = s.withWork (l.foldl f t) := by
  induction l generalizing t with
  | nil => rfl
  | cons a l ih => rw [List.foldl_cons, List.foldl_cons, hf, ih]

theorem endVoice_withWork (v : Slot) : endVoice (s.withWork t) v = s.withWork (endVoice t v) := by
  by_cases h : t.vtb.voices[v].state = .sounding
  · have hfold := foldl_withWork s (fun t n => settleLane_withWork s t v n) (LaneSet.members t.vtb.voices[v].lanes)
      (t.setVoice v { t.vtb.voices[v] with holders := [] })
    rw [endVoice_sounding h, endVoice_sounding (s := s.withWork t) h]
    exact congrArg (fun u : State => u.setVoice v (settledVoice u.vtb.voices[v])) hfold
  · rw [endVoice_not_sounding h, endVoice_not_sounding (s := s.withWork t) h]

theorem voicesFallen_withWork : (s.withWork t).voicesFallen = s.withWork t.voicesFallen := by
  have hfold := foldl_withWork s (fun t v => endVoice_withWork s t v)
    ((List.finRange 48).filter fun v => t.vtb.voices[v].state == .sounding) t
  exact congrArg State.unvoiceAll hfold

end

/-! ## The popped run -/

theorem popTop_run {top deepest : StackEntry} {run rest : List StackEntry} (hhead : run.head? = some top)
    (hlast : run.getLast? = some deepest) (hrun : ∀ e ∈ run.tail, e.released = true)
    (hrest : ∀ e ∈ rest.head?, e.released = false) (s : State) :
    run ++ rest = top :: (run.tail ++ rest)
      ∧ popTop top (run.tail ++ rest) s
        = ((restoreContext top deepest (run.any fun e => e.sceneReplaced) (s.setStack rest)).1, run.length,
            (restoreContext top deepest (run.any fun e => e.sceneReplaced) (s.setStack rest)).2) := by
  obtain ⟨tl, rfl⟩ : ∃ tl, run = top :: tl := by
    cases run with
    | nil => cases hhead
    | cons a tl => exact ⟨tl, by rw [Option.some.inj hhead]⟩
  have hstop : rest.takeWhile (fun e => e.released) = [] ∧ rest.dropWhile (fun e => e.released) = rest := by
    cases rest with
    | nil => exact ⟨rfl, rfl⟩
    | cons e rest =>
      have he : ¬ e.released = true := Bool.eq_false_iff.mp (hrest e rfl)
      exact ⟨List.takeWhile_cons_of_neg he, List.dropWhile_cons_of_neg he⟩
  have htl : ∀ e ∈ tl, (fun e : StackEntry => e.released) e = true := hrun
  have htake : (tl ++ rest).takeWhile (fun e => e.released) = tl := by
    rw [List.takeWhile_append_of_pos htl, hstop.1, List.append_nil]
  have hdrop : (tl ++ rest).dropWhile (fun e => e.released) = rest := by
    rw [List.dropWhile_append_of_pos htl, hstop.2]
  have hdeep : ∀ h, (top :: tl).getLast h = deepest := fun h => Option.some.inj ((List.getLast?_eq_some_getLast h).symm.trans hlast)
  refine ⟨rfl, ?_⟩
  unfold popTop
  simp only [List.tail_cons, htake, hdrop, hdeep]

/-! ## The restore -/

theorem restoreSettings_frame {d : StackEntry} {w t : State} (h : OnlyVoiceAndTierWork w t) :
    OnlyVoiceAndTierWork (w.setSettings d.saved) (restoreSettings d t) :=
  (h.setSettings d.saved).trans (applySettings_transposed_frame t rfl).andTier

theorem usableOrigin_some {s : State} {d : StackEntry} {n : SceneNo} (h : d.origin = some n)
    (hv : s.sst.library[n].state = .valid) : s.usableOrigin d = some n := by
  have hvalid : s.sceneValid n = true := beq_iff_eq.mpr hv
  unfold State.usableOrigin
  rw [h]
  exact if_pos hvalid

theorem usableOrigin_none {s : State} {d : StackEntry} (h : ∀ n ∈ d.origin, s.sst.library[n].state ≠ .valid) :
    s.usableOrigin d = none := by
  unfold State.usableOrigin
  cases ho : d.origin with
  | none => rfl
  | some n =>
    have hvalid : ¬ s.sceneValid n = true := fun c => h n ho (beq_iff_eq.mp c)
    exact if_neg hvalid

section
variable {first deepest : StackEntry} {s : State}

theorem restoreContext_settings :
    restoreContext first deepest false s = (restoreSettings deepest s, .restored) := rfl

theorem restoreContext_origin {n : SceneNo} (h : deepest.origin = some n) (hv : s.sst.library[n].state = .valid) :
    restoreContext first deepest true s = (restoreSettings deepest (transfer n layersAndMap true s), .restored) := by
  unfold restoreContext
  rw [usableOrigin_some h hv]
  rfl

theorem restoreContext_fallback (h : ∀ n ∈ deepest.origin, s.sst.library[n].state ≠ .valid)
    (hv : s.sst.library[(0 : SceneNo)].state = .valid) :
    restoreContext first deepest true s
      = (restoreSettings deepest (transfer 0 layersAndMap true (s.raise (.override .fallback first.tag))), .fellBack) := by
  have hvalid : (s.raise (.override .fallback first.tag)).sceneValid 0 = true := beq_iff_eq.mpr hv
  unfold restoreContext
  rw [usableOrigin_none h]
  exact if_pos hvalid

theorem restoreContext_halts (h : ∀ n ∈ deepest.origin, s.sst.library[n].state ≠ .valid)
    (hv : s.sst.library[(0 : SceneNo)].state ≠ .valid) :
    restoreContext first deepest true s = (haltPart (s.raise (.override .fallback first.tag)), .halted) := by
  have hvalid : ¬ (s.raise (.override .fallback first.tag)).sceneValid 0 = true := fun c => hv (beq_iff_eq.mp c)
  unfold restoreContext
  rw [usableOrigin_none h]
  exact if_neg hvalid

end

/-! ## The entry to HALTED -/

/-- What Silencing Control holds in HALTED (R138). -/
def State.haltSilencing (s : State) : Silencing := { s.slc with enable := false, shadow := false, part := .halted }

/-- The part HALTED, with its lanes silenced and the voices fallen, before the stack and the cue are cleared. -/
def State.haltQuiet (s : State) : State :=
  (s.setSlc { s.slc with part := .halted }).quieted s.liveLanes s.haltSilencing

theorem haltPart_quiet (s : State) : haltPart s = s.haltQuiet.halts := by
  have hslc := silenceLanes_slc s.liveLanes (s.setSlc { s.slc with part := .halted })
  rw [haltPart_eq]
  refine congrArg State.halts ?_
  unfold State.hushedLive State.haltQuiet State.quieted
  rw [writeEnable_lowers]
  generalize s.liveLanes.foldl State.silenceLane (s.setSlc { s.slc with part := .halted }) = w at hslc ⊢
  rw [hslc]
  rfl

theorem mem_liveLanes (s : State) (n : LaneNo) : n ∈ s.liveLanes ↔ s.lanes[n].state = .live := by
  unfold State.liveLanes
  rw [List.mem_filter, beq_iff_eq]
  exact and_iff_right (mem_allLanes n)

theorem liveLanes_nodup (s : State) : s.liveLanes.Nodup :=
  List.Nodup.filter _ (by decide)

theorem liveLanes_transmits (s : State) : ∀ n ∈ s.liveLanes, s.lanes[n].transmits = true := fun n hn =>
  (Lane.transmits_iff _).mpr (.inl ((mem_liveLanes s n).mp hn))

theorem haltQuiet_frame (s : State) :
    s.haltQuiet = { s with
      slc := s.haltSilencing, lanes := s.haltQuiet.lanes
      vtb := { s.haltQuiet.vtb with seqCounter := s.vtb.seqCounter }
      dyn := { s.dyn with lastSwell := s.haltQuiet.dyn.lastSwell } } := by
  have hframe := quieted_frame (s := s.setSlc { s.slc with part := .halted }) s.haltSilencing s.liveLanes
  have hdyn : s.haltQuiet.dyn.lastSwell
      = (s.liveLanes.foldl State.silenceLane (s.setSlc { s.slc with part := .halted })).dyn.lastSwell :=
    congrArg (·.dyn.lastSwell) hframe
  rw [hdyn]
  exact hframe

theorem halts_frame (w : State) :
    w.halts = { w with
      stack := [], sst := { w.sst with armed := none }, ntu := { w.ntu with slots := w.halts.ntu.slots } } := rfl

/-- HALTED as the statements spell it, for a part that is `s` but for its stack and its notices. -/
theorem haltPart_spelled {s p u : State} {stack : List StackEntry} {ntu : NoticeUnit} {liveLanes : LaneSet}
    (hc : s.vtb.Coherent) (hlive : ∀ n : LaneNo, liveLanes.getLsbD n.val = (s.lanes[n].state == .live))
    (hp : p = { s with stack := stack, ntu := ntu })
    (hu : u = { s.silencedOn liveLanes with stack := [], sst := { s.sst with armed := none }, slc := s.haltSilencing }) :
    haltPart p = ({ (if s.slc.enable = true then u.voicesFallen else u) with ntu := ntu } : State).raise .halted := by
  subst hp
  have hchosen : ∀ n, LaneSet.has liveLanes n
      = decide (n ∈ ({ s with stack := stack, ntu := ntu } : State).liveLanes) := fun n => by
    simp only [mem_liveLanes]
    exact (hlive n).trans (by rw [Bool.eq_iff_iff, beq_iff_eq, decide_eq_true_eq])
  have hquiet := quieted_eq (s := ({ s with stack := stack, ntu := ntu } : State).setSlc { s.slc with part := .halted })
    s.haltSilencing hc (liveLanes_nodup _) (liveLanes_transmits _) hchosen
  rw [haltPart_quiet]
  refine (congrArg State.halts hquiet).trans ?_
  generalize hq : ({ (({ s with stack := stack, ntu := ntu } : State).setSlc { s.slc with part := .halted }).silencedOn
    liveLanes with slc := s.haltSilencing } : State) = q
  have hwork : u = u.withWork q := by
    rw [hu, ← hq]
    rfl
  by_cases he : s.slc.enable = true
  · have hfallen : u.voicesFallen = u.withWork q.voicesFallen := by
      conv => lhs; rw [hwork]
      exact voicesFallen_withWork u q
    have hself : q.voicesFallen = q.withWork q.voicesFallen := voicesFallen_withWork q q
    rw [if_pos he, hfallen]
    refine (congrArg State.halts ((if_pos he).trans hself)).trans ?_
    generalize q.voicesFallen = w
    rw [hu, ← hq]
    rfl
  · rw [if_neg he]
    refine (congrArg State.halts (if_neg he)).trans ?_
    rw [hu, ← hq]
    rfl

end Sys2Proof.Machine

/-! PROOF. Which notices the voices' work raises: LANE_OVERRUN, VOICE_LOSS and TIER, and so no slot of another kind
changes (R182, R183). -/

namespace Sys2Proof.Machine

/-- Every pending slot but those of LANE_OVERRUN, VOICE_LOSS and TIER is as it was. -/
def KeepsNotices (s t : State) : Prop :=
  ∀ k : Fin 13, k ≠ 7 → k ≠ 8 → k ≠ 10 → t.ntu.slots[k] = s.ntu.slots[k]

theorem KeepsNotices.refl (s : State) : KeepsNotices s s := fun _ _ _ _ => rfl

theorem KeepsNotices.of_ntu {s t : State} (h : t.ntu = s.ntu) : KeepsNotices s t := fun k _ _ _ => by rw [h]

theorem KeepsNotices.trans {s t u : State} (h : KeepsNotices s t) (h' : KeepsNotices t u) : KeepsNotices s u :=
  fun k h7 h8 h10 => (h' k h7 h8 h10).trans (h k h7 h8 h10)

theorem KeepsNotices.foldl {α : Type} {f : State → α → State} (hf : ∀ t a, KeepsNotices t (f t a)) (l : List α)
    (s : State) : KeepsNotices s (l.foldl f s) := by
  induction l generalizing s with
  | nil => exact .refl s
  | cons a l ih => exact (hf s a).trans (ih (f s a))

theorem State.raise_keepsNotices (s : State) {n : Notice} (hn : n.kindIndex = 7 ∨ n.kindIndex = 8 ∨ n.kindIndex = 10) :
    KeepsNotices s (s.raise n) := fun k h7 h8 h10 => by
  refine State.raise_get_ne s n fun hk => ?_
  rcases hn with hn | hn | hn <;> rw [hn] at hk
  · exact h7 hk
  · exact h8 hk
  · exact h10 hk

theorem endVoice_keepsNotices (s : State) (v : Slot) : KeepsNotices s (endVoice s v) := .of_ntu (endVoice_keeps s v).1

theorem leaveVoice_keepsNotices (x : Crosspoint) (s : State) (v : Slot) : KeepsNotices s (leaveVoice x s v) :=
  .of_ntu (leaveVoice_ntu x s v)

theorem leavePhase_keepsNotices (orphans : Bool) (s : State) (p : Crosspoint × List (LayerPos × Pitch)) :
    KeepsNotices s (leavePhase orphans s p) := by
  have hall (q : Voice → Bool) (t : State) : KeepsNotices t (leaveAll p.1 q t) := .foldl (leaveVoice_keepsNotices p.1) _ t
  unfold leavePhase
  simp only []
  split
  · exact (hall _ s).trans (hall _ _)
  · exact hall _ s

theorem offerStart_keepsNotices (v : Slot) (s : State) (n : LaneNo) : KeepsNotices s (offerStart v s n) := by
  rcases offerStart_cases v s n with ⟨_, _, e⟩ | ⟨_, _, e⟩ | ⟨_, e⟩ <;> rw [e]
  · exact .refl s
  · exact s.raise_keepsNotices (.inl rfl)
  · exact .refl s

theorem fillSlot_keepsNotices (x : Crosspoint) (e : LayerPos × Pitch) (l : Layer) (s : State) (v : Slot) :
    KeepsNotices s (fillSlot x e l s v) := by
  have hstart : KeepsNotices s (startVoice x e l s v) :=
    .foldl (offerStart_keepsNotices v) _ (s.setVoice v (newVoice x e l s.vtb.seqCounter)).countStart
  unfold fillSlot
  simp only []
  split
  · exact hstart.trans (State.raise_keepsNotices _ (.inr (.inl rfl)))
  · exact hstart

theorem allocate_keepsNotices (x : Crosspoint) (s : State) (e : LayerPos × Pitch) : KeepsNotices s (allocate x s e) := by
  have hloss (t : State) (c : LossCause) (v : Option Slot) : KeepsNotices t (t.raise (.voiceLoss c v x)) :=
    t.raise_keepsNotices (.inr (.inl rfl))
  rcases allocate_cases x s e with
    ⟨_, h⟩ | ⟨l, v, _, _, h⟩ | ⟨_, h⟩ | ⟨l, v, _, _, _, _, h⟩ | ⟨v, _, _, h⟩ <;> rw [h]
  · exact .refl s
  · exact fillSlot_keepsNotices x e l s v
  · exact hloss s _ _
  · exact ((endVoice_keepsNotices s v).trans (hloss _ _ _)).trans (fillSlot_keepsNotices x e l _ v)
  · exact (endVoice_keepsNotices s v).trans (hloss _ _ _)

theorem joinEntry_keepsNotices (x : Crosspoint) (s : State) (e : LayerPos × Pitch) :
    KeepsNotices s (joinEntry x s e) := by
  rcases joinEntry_cases x s e with ⟨_, _, _, h⟩ | ⟨_, _, _, _, h⟩ | ⟨_, _, _, _, h⟩ | ⟨_, h⟩ <;> rw [h]
  · exact .refl s
  · exact .refl s
  · exact s.raise_keepsNotices (.inr (.inl rfl))
  · exact allocate_keepsNotices x s e

theorem reexpand_keepsNotices (orphans : Bool) (d : Dir) (xs : List Crosspoint) (s : State) :
    KeepsNotices s (reexpand orphans d xs s) :=
  (KeepsNotices.foldl (leavePhase_keepsNotices orphans) _ s).trans
    (.foldl (fun t (p : Crosspoint × List (LayerPos × Pitch)) => .foldl (joinEntry_keepsNotices p.1) p.2 t) _ _)

theorem layersTransferred_keepsNotices (s : State) : KeepsNotices s (layersTransferred s) :=
  (KeepsNotices.foldl endVoice_keepsNotices _ (s.mapVoices fun _ y => y.orphaned)).trans
    (.foldl (fun t x => .foldl (joinEntry_keepsNotices x) _ t) _ _)

theorem tierCheck_keepsNotices (s : State) : KeepsNotices s (tierCheck s) := by
  by_cases h : s.dyn.lastCode = some s.tierCode
  · rw [tierCheck_same h]
    exact .refl s
  · rw [tierCheck_frame_posts h]
    exact s.raise_keepsNotices (.inr (.inr rfl))

theorem transferWritten_keepsNotices (n : SceneNo) (items : BitVec 3) (s : State) :
    KeepsNotices s (transferWritten n items s) := by
  rw [transferWritten_eq]
  split
  · exact tierCheck_keepsNotices _
  · exact .refl _

theorem transfer_keepsNotices (n : SceneNo) (items : BitVec 3) (separate : Bool) (s : State) :
    KeepsNotices s (transfer n items separate s) := by
  have hwritten := transferWritten_keepsNotices n items s
  rw [transfer_eq]
  split
  · exact hwritten.trans (layersTransferred_keepsNotices _)
  · split
    · exact hwritten.trans (reexpand_keepsNotices _ _ _ _)
    · exact hwritten

theorem applySettings_keepsNotices (t : Settings) (s : State) : KeepsNotices s (applySettings t s) :=
  reexpand_keepsNotices _ _ _ (s.setSettings t)

theorem restoreSettings_keepsNotices (deepest : StackEntry) (s : State) : KeepsNotices s (restoreSettings deepest s) :=
  applySettings_keepsNotices _ s

end Sys2Proof.Machine

/-! PROOF. Pop Override and the switch release settle O45. -/

namespace Sys2Proof.Machine

/-! ## What HALTED leaves -/

section
variable {s p : State} {stack : List StackEntry} {n : Notice}

theorem haltPart_blocks (p : State) :
    (haltPart p).vtb = p.haltQuiet.vtb ∧ (haltPart p).lanes = p.haltQuiet.lanes ∧ (haltPart p).dyn = p.haltQuiet.dyn
      ∧ (haltPart p).slc = p.haltSilencing ∧ (haltPart p).sst = { p.sst with armed := none }
      ∧ (haltPart p).ntu = (p.raise .halted).ntu := by
  rw [haltPart_quiet]
  refine ⟨rfl, rfl, rfl, congrArg (·.slc) (haltQuiet_frame p), ?_, ?_⟩
  · exact congrArg (fun u : State => { u.sst with armed := none }) (haltQuiet_frame p)
  · have hraised : (p.haltQuiet.raise .halted).ntu = _ :=
      congrArg (fun u : State => (u.raise .halted).ntu) (haltQuiet_frame p)
    exact hraised

theorem haltPart_frame (p : State) :
    haltPart p = { p with
      slc := (haltPart p).slc, stack := [], sst := (haltPart p).sst, lanes := (haltPart p).lanes, vtb := (haltPart p).vtb
      dyn := { p.dyn with lastSwell := (haltPart p).dyn.lastSwell }
      ntu := { p.ntu with slots := (haltPart p).ntu.slots } } := by
  have hframe := haltQuiet_frame p
  have hseq : ({ p.haltQuiet.vtb with seqCounter := p.vtb.seqCounter } : VoiceTable) = p.haltQuiet.vtb :=
    (congrArg (·.vtb) hframe).symm
  rw [hseq] at hframe
  rw [haltPart_quiet, halts_frame]
  generalize p.haltQuiet = q at hframe ⊢
  rw [hframe]

/-- HALTED, reached by a pop that falls back to nothing: each claim of O45 about it. -/
theorem haltPart_halts (hp : p = ({ s with stack := stack } : State).raise n) (hn : n.kindIndex = 6) :
    (haltPart p).slc = { s.slc with enable := false, shadow := false, part := .halted }
      ∧ (haltPart p).stack = [] ∧ (haltPart p).sst = { s.sst with armed := none }
      ∧ (∃ q ∈ (haltPart p).ntu.slots[(1 : Fin 13)], q.notice = .halted)
      ∧ (∃ q ∈ (haltPart p).ntu.slots[(6 : Fin 13)], q.notice = n)
      ∧ (s.slc.enable = true → (∀ v : Slot, (haltPart p).vtb.voices[v].state ≠ .sounding)
          ∧ ∀ x : Crosspoint, (haltPart p).vtb.voicedAs[x] = none)
      ∧ (∀ k : LaneNo, s.lanes[k].state = .live →
          (haltPart p).lanes[k] = s.lanes[k].silenced [.tier s.tierCode, .swell s.dyn.expr]
            ∧ (haltPart p).dyn.lastSwell[k] = s.dyn.expr)
      ∧ (∀ k : LaneNo, s.lanes[k].state ≠ .live → (haltPart p).dyn.lastSwell[k] = s.dyn.lastSwell[k])
      ∧ (s.VoicesAndLanesAgree → ∀ k : LaneNo, s.lanes[k].state ≠ .live → (haltPart p).lanes[k] = s.lanes[k])
      ∧ (s.VoicesAndLanesAgree → s.vtb.Coherent → ∀ v : Slot,
          s.slc.enable = true ∨ s.vtb.voices[v].state ≠ .sounding → (haltPart p).vtb.voices[v].state = .free)
      ∧ (s.vtb.Coherent → ∀ (liveLanes : LaneSet) (u : State),
          (∀ k : LaneNo, liveLanes.getLsbD k.val = (s.lanes[k].state == .live)) →
          u = { s.silencedOn liveLanes with stack := [], sst := (haltPart p).sst, slc := (haltPart p).slc } →
          haltPart p = ((if s.slc.enable = true then u.voicesFallen else u).raise n).raise .halted)
      ∧ KeepsLaneStates s (haltPart p) ∧ (haltPart p).vtb.seqCounter = s.vtb.seqCounter
      ∧ haltPart p = { s with
          slc := (haltPart p).slc, stack := [], sst := (haltPart p).sst, lanes := (haltPart p).lanes
          vtb := (haltPart p).vtb, dyn := { s.dyn with lastSwell := (haltPart p).dyn.lastSwell }
          ntu := { s.ntu with slots := (haltPart p).ntu.slots } } := by
  obtain ⟨hvtb, hlanes, hdyn, hslc, hsst, hntu⟩ := haltPart_blocks p
  have hnodup := liveLanes_nodup p
  have htransmits := liveLanes_transmits p
  have hframe := haltPart_frame p
  have hspelled : s.vtb.Coherent → ∀ (liveLanes : LaneSet) (u : State),
      (∀ k : LaneNo, liveLanes.getLsbD k.val = (s.lanes[k].state == .live)) →
      u = { s.silencedOn liveLanes with stack := [], sst := { s.sst with armed := none }, slc := s.haltSilencing } →
      haltPart p = ({ (if s.slc.enable = true then u.voicesFallen else u) with ntu := p.ntu } : State).raise .halted :=
    fun hc liveLanes u hlive hu => haltPart_spelled (stack := stack) (ntu := p.ntu) hc hlive (by rw [hp]; rfl) hu
  refine ⟨?_, ?_, ?_, ?_, ?_, fun he => ⟨fun v => ?_, fun x => ?_⟩, fun k hk => ⟨?_, ?_⟩, fun k hk => ?_,
    fun hagree k hk => ?_, fun hagree hc v hv => ?_, ?_, ?_, ?_, ?_⟩
  · rw [hslc, hp]
    rfl
  · rw [hframe]
  · rw [hsst, hp]
    rfl
  · rw [hntu]
    exact State.raise_noticed _ _ rfl
  · have hslot : (p.raise .halted).ntu.slots[(6 : Fin 13)] = p.ntu.slots[(6 : Fin 13)] :=
      State.raise_get_ne p .halted (by decide)
    rw [hntu, hslot, hp]
    exact State.raise_noticed _ _ hn
  · rw [hvtb]
    exact quieted_not_sounding _ (by rw [hp]; exact he) _ v
  · rw [hvtb]
    exact quieted_unvoiced _ (by rw [hp]; exact he) _ x
  · have hlive : p.lanes[k].state = .live := by rw [hp]; exact hk
    rw [hlanes]
    refine (quieted_lane_silenced (s := p.setSlc { p.slc with part := .halted }) _ hnodup htransmits
      ((mem_liveLanes p k).mpr hlive)).trans ((silenceOf_live (s := p.setSlc _) hlive).trans ?_)
    rw [hp]
    rfl
  · have hlive : p.lanes[k].state = .live := by rw [hp]; exact hk
    rw [hdyn]
    refine (quieted_lastSwell (s := p.setSlc { p.slc with part := .halted }) _ _ k).trans
      ((if_pos ⟨(mem_liveLanes p k).mpr hlive, hlive⟩).trans ?_)
    rw [hp]
    rfl
  · have hlive : p.lanes[k].state ≠ .live := by rw [hp]; exact hk
    rw [hdyn]
    refine (quieted_lastSwell (s := p.setSlc { p.slc with part := .halted }) _ _ k).trans
      ((if_neg fun c => hlive c.2).trans ?_)
    rw [hp]
    rfl
  · have hlive : p.lanes[k].state ≠ .live := by rw [hp]; exact hk
    rw [hlanes]
    refine (quieted_lane_other (s := p.setSlc { p.slc with part := .halted }) _ hnodup htransmits
      (by rw [hp]; exact hagree) (fun c => hlive ((mem_liveLanes p k).mp c)) hlive).trans ?_
    rw [hp]
    rfl
  · rw [hvtb]
    exact quieted_freed (s := p.setSlc { p.slc with part := .halted }) _ (by rw [hp]; exact hagree)
      (by rw [hp]; exact hc) (fun k hk => (mem_liveLanes p k).mpr hk) (by rw [hp]; exact hv)
  · rintro hc liveLanes u hlive hu
    have hsst' : (haltPart p).sst = { s.sst with armed := none } := by rw [hsst, hp]; rfl
    have hslc' : (haltPart p).slc = s.haltSilencing := by rw [hslc, hp]; rfl
    rw [hsst', hslc'] at hu
    rw [hspelled hc liveLanes u hlive hu]
    have hu' : (if s.slc.enable = true then u.voicesFallen else u).ntu = s.ntu := by
      split
      · rw [voicesFallen_frame, hu]
        rfl
      · rw [hu]
        rfl
    generalize (if s.slc.enable = true then u.voicesFallen else u) = w at hu' ⊢
    have hraised : w.raise n = { w with ntu := p.ntu } := by
      unfold State.raise
      rw [hu', hp]
      rfl
    rw [hraised]
  · intro k
    have hkeeps := quieted_keeps (s := p.setSlc { p.slc with part := .halted }) p.haltSilencing p.liveLanes k
    rw [hlanes]
    rw [hp] at hkeeps ⊢
    exact hkeeps
  · rw [hvtb, haltQuiet_frame, hp]
    rfl
  · conv => lhs; rw [hframe]
    rw [hp]
    rfl

end

/-! ## Pop Override -/

theorem popOverride_accepts {tag : Byte} {h : Fin 8} {s : State} (hs : s.Taking) {top : StackEntry}
    {below : List StackEntry} (hstack : s.stack = top :: below) (ht : top.tag = h) :
    Accepts (.popOverride tag [byte h.val]) s (popTop top below s).1 0x29 tag
      [byte (popTop top below s).2.1, byte (popTop top below s).2.2.code] := by
  obtain ⟨hreply, hplay⟩ := hs
  have htakes : Takes (.popOverride tag [byte h.val]) 0x29 tag false (parseOne (field 8) [byte h.val]) popOverrideOwner :=
    fun _ => rfl
  refine htakes.accepts hreply (.inr hplay) (parseOne_fields (field_byte (by decide) h)) ?_
  have hstack' : s.rxDone.stack = top :: below := hstack
  have hpop : popTop top below s.rxDone = ((popTop top below s).1.rxDone, (popTop top below s).2) := by
    have hlink := popTop_setMlk s { s.mlk with rx := .hunt, buffer := [], gapTimer := none } top below
    have hmlk : (popTop top below s).1.rxDone
        = (popTop top below s).1.setMlk { s.mlk with rx := .hunt, buffer := [], gapTimer := none } := by
      have hkept : (popTop top below s).1.mlk = s.mlk :=
        (congrArg (fun r : State × Nat × RestoreOutcome => r.1.mlk) (popTop_setMlk s s.mlk top below) :)
      unfold State.rxDone State.setMlk
      rw [hkept]
    rw [hmlk]
    exact hlink
  unfold popOverrideOwner
  rw [hstack']
  refine (if_pos ht).trans ?_
  simp only [hpop]

theorem any_replaced {run : List StackEntry} (h : ∃ e ∈ run, e.sceneReplaced = true) :
    (run.any fun e => e.sceneReplaced) = true :=
  List.any_eq_true.mpr h

theorem none_replaced {run : List StackEntry} (h : ∀ e ∈ run, e.sceneReplaced = false) :
    (run.any fun e => e.sceneReplaced) = false :=
  List.any_eq_false.mpr fun e he => Bool.eq_false_iff.mp (h e he)

/-- The popped run of a stack and the restore behind it. -/
theorem popOverride_run {tag : Byte} {h : Fin 8} {s : State} (hs : s.Taking) {top deepest : StackEntry}
    {run rest : List StackEntry} (hstack : s.stack = run ++ rest) (hhead : run.head? = some top)
    (hlast : run.getLast? = some deepest) (ht : top.tag = h) (hrun : ∀ e ∈ run.tail, e.released = true)
    (hrest : ∀ e ∈ rest.head?, e.released = false) (t : State) (o : RestoreOutcome)
    (hr : restoreContext top deepest (run.any fun e => e.sceneReplaced) (s.setStack rest) = (t, o)) :
    Accepts (.popOverride tag [byte h.val]) s t 0x29 tag [byte run.length, byte o.code] := by
  obtain ⟨hsplit, hpop⟩ := popTop_run hhead hlast hrun hrest s
  have haccepts := popOverride_accepts (tag := tag) hs (hstack.trans hsplit) ht
  rw [hpop, hr] at haccepts
  exact haccepts

theorem switchRelease_absent {n : Fin 4} {s : State}
    (h : ∀ e ∈ s.stack, e.tag ≠ ⟨n.val, Nat.lt_trans n.isLt (by decide)⟩) : switchRelease n s = s := by
  have htag := not_hasTag h
  unfold switchRelease
  cases hs : s.stack with
  | nil => rfl
  | cons top below =>
    rw [hs] at h
    exact (if_neg (h top List.mem_cons_self)).trans (if_neg htag)

theorem switchRelease_marks {n : Fin 4} {s : State}
    (h : ∃ e ∈ s.stack, e.tag = ⟨n.val, Nat.lt_trans n.isLt (by decide)⟩)
    (htop : ∀ e ∈ s.stack.head?, e.tag ≠ ⟨n.val, Nat.lt_trans n.isLt (by decide)⟩) :
    switchRelease n s = s.markReleased ⟨n.val, Nat.lt_trans n.isLt (by decide)⟩ true := by
  have htag := (s.hasTag_iff _).mpr h
  unfold switchRelease
  cases hs : s.stack with
  | nil =>
    rw [hs] at h
    obtain ⟨e, he, -⟩ := h
    cases he
  | cons top below =>
    rw [hs] at htop
    exact (if_neg (htop top rfl)).trans (if_pos htag)

theorem switchRelease_pops {n : Fin 4} {s : State} {top : StackEntry} {below : List StackEntry}
    (hs : s.stack = top :: below) (ht : top.tag = ⟨n.val, Nat.lt_trans n.isLt (by decide)⟩) :
    switchRelease n s = (popTop top below s).1 := by
  unfold switchRelease
  rw [hs]
  exact if_pos ht

/-- Settles O45: a pop takes its run off the stack, and the four outcomes of the restore are those of
`restoreContext`. -/
theorem popOverrideRestores : Obligations.PopOverrideRestores := by
  unfold Obligations.PopOverrideRestores
  have htakes : ∀ tag p, Takes (.popOverride tag p) 0x29 tag false (parseOne (field 8) p) popOverrideOwner :=
    fun _ _ _ => rfl
  refine ⟨?_, ?_⟩
  · intro tag h s hs
    refine ⟨fun hno => ?_, fun b hb => (htakes tag _).refuses_outOfRange hs.1 (.inr hs.2)
      (parseOne_outOfRange (field_of_le hb)), ?_⟩
    · refine (htakes tag _).refuses hs.1 (.inr hs.2) (parseOne_fields (field_byte (by decide) h)) ?_
      have hstack : s.rxDone.stack = s.stack := rfl
      unfold popOverrideOwner
      rw [hstack]
      cases hcons : s.stack with
      | nil => rfl
      | cons top below =>
        rw [hcons] at hno
        exact if_neg (hno top rfl)
    · intro top deepest run rest hstack hhead hlast ht hrun hrest
      have hpop := popOverride_run (tag := tag) hs hstack hhead hlast ht hrun hrest
      refine ⟨fun hnone => ?_, fun n hsome ho hv => ?_, fun hsome ho hv => ?_, fun hsome ho hv => ?_⟩
      · rw [none_replaced hnone] at hpop
        refine ⟨_, hpop _ _ restoreContext_settings, restoreSettings_applied deepest _, ?_⟩
        exact applySettings_transposed_frame (s.setStack rest) rfl
      · rw [any_replaced hsome] at hpop
        refine ⟨_, hpop _ _ (restoreContext_origin (s := s.setStack rest) ho hv),
          ⟨_, transfer_transferred n layersAndMap true (s.setStack rest), restoreSettings_applied deepest _⟩, ?_⟩
        exact restoreSettings_frame (transfer_frame n layersAndMap true (s.setStack rest))
      · subst ht
        rw [any_replaced hsome] at hpop
        have hframe := restoreSettings_frame (d := deepest) (transfer_frame 0 layersAndMap true
          ((s.setStack rest).raise (.override .fallback top.tag)))
        refine ⟨_, hpop _ _ (restoreContext_fallback (s := s.setStack rest) ho hv), ?_,
          ⟨_, transfer_transferred 0 layersAndMap true ((s.setStack rest).raise (.override .fallback top.tag)),
            restoreSettings_applied deepest _⟩, ?_⟩
        · have hkept := ((transfer_keepsNotices 0 layersAndMap true
            ((s.setStack rest).raise (.override .fallback top.tag))).trans (restoreSettings_keepsNotices deepest _)) 6
            (by decide) (by decide) (by decide)
          rw [hkept]
          exact State.raise_noticed _ _ rfl
        · refine OnlyVoiceAndTierWork.trans ?_ hframe
          exact (State.raise_voiceWork _ (.override .fallback top.tag)).andTier
      · subst ht
        rw [any_replaced hsome] at hpop
        exact ⟨_, hpop _ _ (restoreContext_halts (s := s.setStack rest) ho hv), haltPart_halts rfl rfl⟩
  · intro n k s hk
    obtain rfl : k = ⟨n.val, Nat.lt_trans n.isLt (by decide)⟩ := Fin.ext hk
    refine ⟨switchRelease_absent, switchRelease_marks, fun tag hs hhas => ?_⟩
    obtain ⟨top, hmem, ht⟩ := hhas
    obtain ⟨below, hcons⟩ : ∃ below, s.stack = top :: below := by
      cases hcons : s.stack with
      | nil =>
        rw [hcons] at hmem
        cases hmem
      | cons a below =>
        rw [hcons] at hmem
        exact ⟨below, by rw [Option.some.inj hmem]⟩
    rw [switchRelease_pops hcons ht]
    exact ⟨_, popOverride_accepts hs hcons ht⟩

end Sys2Proof.Machine

/-! PROOF. Set Lane, Reset Lane and Read Lanes (R157 to R160). -/

namespace Sys2Proof.Machine

/-! ## A lane under a new timeout, and silenced -/

theorem Lane.setTimeout_eq (l : Lane) (t : Nat) :
    l.setTimeout t = { l with
      timeout := t, stall := if l.waiting = true then (if t = 0 then none else some 0) else l.stall } := by
  unfold Lane.setTimeout
  by_cases hw : l.waiting = true
  · have hwork : l.hasWork = true ∧ l.ready = false := by
      unfold Lane.waiting at hw
      rw [Bool.and_eq_true] at hw
      exact ⟨hw.1, Bool.eq_false_iff.mpr fun hr => by rw [hr] at hw; exact Bool.false_ne_true hw.2⟩
    have hwork' : ({ l with timeout := t } : Lane).hasWork = true := hwork.1
    refine (if_pos hw).trans ?_
    rw [Lane.beginOrWait_work hwork', if_pos hw, hwork.2]
    rfl
  · rw [if_neg hw]
    exact if_neg hw

/-- The bare lane with nothing being sent: what it does with a Silence turns on its ready line. -/
theorem Lane.silenced_eq (l : Lane) (behind : List LaneRecord) :
    l.silenced behind = { l with
      queue := l.sent ++ .silence :: behind, owed := []
      sending := if l.queue = [] ∧ l.sending = false then l.ready else l.sending
      stall := if l.queue = [] ∧ l.sending = false then
          (if l.ready = true then none else if l.timeout = 0 then none else some 0)
        else l.stall } := by
  unfold Lane.silenced
  by_cases h : l.queue = [] ∧ l.sending = false
  · have hsent : l.sent = [] := by
      unfold Lane.sent
      rw [h.2]
      rfl
    rw [if_pos h, if_pos h, if_pos h, hsent]
    by_cases hr : l.ready = true
    · rw [if_pos hr, if_pos hr, hr]
      rfl
    · rw [if_neg hr, if_neg hr, Bool.eq_false_iff.mpr hr, ← h.2]
      rfl
  · rw [if_neg h, if_neg h, if_neg h]

section
variable {s : State} {n : LaneNo} {l : Lane}

/-- Lane n written and then silenced. -/
theorem silenceOn_lane (h : l.transmits = true) :
    ((s.setLane n l).silenceLane n).lanes[n]
      = l.silenced (if l.state = .live then [.tier s.tierCode, .swell s.dyn.expr] else []) := by
  have hn : (s.setLane n l).lanes[n] = l := State.setLane_get_self _ _ _
  rw [State.silenceLane_lane (by rw [hn]; exact h), if_pos rfl, State.silenceOf, hn]
  rfl

theorem silenceOn_lane_ne {k : LaneNo} (hk : k ≠ n) : ((s.setLane n l).silenceLane n).lanes[k] = s.lanes[k] := by
  rw [State.silenceLane_lane_ne _ hk, State.setLane_get_ne _ _ hk]

theorem silenceOn_lastSwell (k : LaneNo) :
    ((s.setLane n l).silenceLane n).dyn.lastSwell[k]
      = if k = n ∧ l.state = .live then s.dyn.expr else s.dyn.lastSwell[k] := by
  rw [State.silenceLane_lastSwell, State.setLane_get_self]
  rfl

theorem silenceOn_voice (v : Slot) :
    ((s.setLane n l).silenceLane n).vtb.voices[v] = s.vtb.voices[v].cleared n :=
  State.silenceLane_voice (s.setLane n l) n v

theorem silenceOn_frame :
    (s.setLane n l).silenceLane n = { s with
      lanes := ((s.setLane n l).silenceLane n).lanes
      vtb := { s.vtb with voices := ((s.setLane n l).silenceLane n).vtb.voices }
      dyn := { s.dyn with lastSwell := ((s.setLane n l).silenceLane n).dyn.lastSwell } } :=
  State.silenceLane_frame (s.setLane n l) n

/-- The same frame with room for the silence-pending set and the notices, which a Silence leaves as they are. -/
theorem silenceOn_writes :
    (s.setLane n l).silenceLane n = { s with
      lanes := ((s.setLane n l).silenceLane n).lanes
      vtb := { s.vtb with voices := ((s.setLane n l).silenceLane n).vtb.voices }
      dyn := { s.dyn with lastSwell := ((s.setLane n l).silenceLane n).dyn.lastSwell }
      slc := { s.slc with
        pending := ((s.setLane n l).silenceLane n).slc.pending, stale := ((s.setLane n l).silenceLane n).slc.stale }
      ntu := { s.ntu with slots := ((s.setLane n l).silenceLane n).ntu.slots } } := by
  have hframe := silenceOn_frame (s := s) (n := n) (l := l)
  generalize (s.setLane n l).silenceLane n = t at hframe ⊢
  rw [hframe]

end

/-! ## Set Lane -/

/-- The lane state that the table of Set Lane gives (R158). -/
def LaneState.enabled : LaneState → Bool → LaneState
  | .off, false => .off
  | .off, true => .live
  | .live, false => .closing
  | .live, true => .live
  | .closing, false => .closing
  | .closing, true => .live
  | .dead, _ => .off

theorem parseSetLane_fields (n : LaneNo) (enable : Bool) (timeout : Byte) :
    parseSetLane [byte n.val, byteOfBool enable, timeout] = .fields (n, enable, timeout.toNat) := by
  rw [parseSetLane, field_byte (by decide), flagField_byteOfBool]
  rfl

theorem parseSetLane_outOfRange {lane enabled : Byte} (timeout : Byte) (h : 3 < lane.toNat ∨ 1 < enabled.toNat) :
    parseSetLane [lane, enabled, timeout] = .outOfRange := by
  rw [parseSetLane]
  refine Parsed.outOfRange_of_none fun a ho => ?_
  obtain ⟨_, hlane, ho⟩ := Option.bind_eq_some_iff.mp ho
  obtain ⟨_, henabled, ho⟩ := Option.bind_eq_some_iff.mp ho
  replace hlane := lt_of_field hlane
  replace henabled := le_of_flagField henabled
  omega

/-- The part after an accepted Set Lane (R157, R158). -/
def State.laneSet (s : State) (n : LaneNo) (enable : Bool) (timeout : Nat) : State :=
  applyLaneEnable n enable (s.setLane n (s.lanes[n].setTimeout timeout))

section
variable {s : State} {n : LaneNo} {enable : Bool}

theorem setTimeout_state (l : Lane) (t : Nat) : (l.setTimeout t).state = l.state := by
  rw [Lane.setTimeout_eq]

/-- The table's three kinds of rows: the state stays, a Silence is queued, a DEAD lane goes OFF. -/
theorem laneSet_cases (timeout : Nat) (h : ¬ (s.lanes[n].state = .dead ∧ enable = true)) :
    (s.lanes[n].state.enabled enable = s.lanes[n].state
        ∧ s.laneSet n enable timeout = s.setLane n (s.lanes[n].setTimeout timeout))
      ∨ (s.lanes[n].state.enabled enable ≠ s.lanes[n].state ∧ s.lanes[n].state ≠ .dead
        ∧ (s.lanes[n].state.enabled enable = .live ∨ s.lanes[n].state.enabled enable = .closing)
        ∧ s.laneSet n enable timeout
          = (s.setLane n { s.lanes[n].setTimeout timeout with state := s.lanes[n].state.enabled enable }).silenceLane n)
      ∨ (s.lanes[n].state = .dead
        ∧ s.laneSet n enable timeout
          = (s.setLane n { s.lanes[n].setTimeout timeout with state := .off }).leavePending n) := by
  have hstate : (s.setLane n (s.lanes[n].setTimeout timeout)).lanes[n].state = s.lanes[n].state := by
    rw [State.setLane_get_self, setTimeout_state]
  unfold State.laneSet applyLaneEnable
  simp only []
  rw [hstate]
  simp only [State.setLane_get_self, State.setLane_setLane]
  cases hs : s.lanes[n].state <;> cases enable <;> simp_all [LaneState.enabled]

theorem laneSet_rxDone (timeout : Nat) : s.rxDone.laneSet n enable timeout = (s.laneSet n enable timeout).rxDone :=
  State.rxDone_comm (f := fun s => s.laneSet n enable timeout)
    fun m => applyLaneEnable_setMlk (s.setLane n (s.lanes[n].setTimeout timeout)) m n enable

theorem leavePending_lanes (s : State) (n : LaneNo) : (s.leavePending n).lanes = s.lanes := by
  rw [State.leavePending_frame]

theorem enabled_transmits {st : LaneState} (l : Lane) (h : st = .live ∨ st = .closing) :
    ({ l with state := st } : Lane).transmits = true :=
  (Lane.transmits_iff _).mpr h

theorem laneSet_state (timeout : Nat) (h : ¬ (s.lanes[n].state = .dead ∧ enable = true)) :
    (s.laneSet n enable timeout).lanes[n].state = s.lanes[n].state.enabled enable := by
  rcases laneSet_cases timeout h with ⟨hsame, ht⟩ | ⟨-, -, hafter, ht⟩ | ⟨hdead, ht⟩ <;> rw [ht]
  · rw [State.setLane_get_self, setTimeout_state, hsame]
  · rw [silenceOn_lane (enabled_transmits _ hafter), Lane.silenced_eq]
  · rw [leavePending_lanes, State.setLane_get_self, hdead]
    rfl

/-- Set Lane is answered with the lane's state. -/
theorem setLane_accepts {tag timeout : Byte} (hs : s.Taking) (h : ¬ (s.lanes[n].state = .dead ∧ enable = true)) :
    Accepts (.setLane tag [byte n.val, byteOfBool enable, timeout]) s (s.laneSet n enable timeout.toNat) 0x30 tag
      [byte (s.lanes[n].state.enabled enable).code] := by
  have htakes : Takes (.setLane tag [byte n.val, byteOfBool enable, timeout]) 0x30 tag false
    (parseSetLane [byte n.val, byteOfBool enable, timeout]) setLaneOwner := fun _ => rfl
  refine htakes.accepts hs.1 (.inr hs.2) (parseSetLane_fields n enable timeout) ((if_neg h).trans ?_)
  show Verdict.accept (s.rxDone.laneSet n enable timeout.toNat)
    [byte (s.rxDone.laneSet n enable timeout.toNat).lanes[n].state.code] = _
  have hstate : (s.rxDone.laneSet n enable timeout.toNat).lanes[n].state = s.lanes[n].state.enabled enable :=
    laneSet_state (s := s.rxDone) timeout.toNat h
  rw [hstate, laneSet_rxDone]

end

/-- Settles O51: the three kinds of rows of the table (`laneSet_cases`), each with the lane it leaves. -/
theorem setLaneMovesTheLane : Obligations.SetLaneMovesTheLane := by
  unfold Obligations.SetLaneMovesTheLane
  intro tag timeout n enable s l after hs hl hafter
  subst hl
  obtain rfl : after = s.lanes[n].state.enabled enable :=
    hafter.trans (by cases s.lanes[n].state <;> cases enable <;> rfl)
  have htakes : ∀ p, Takes (.setLane tag p) 0x30 tag false (parseSetLane p) setLaneOwner := fun _ _ => rfl
  refine ⟨fun lane enabled hbad => (htakes _).refuses_outOfRange hs.1 (.inr hs.2) (parseSetLane_outOfRange timeout hbad),
    fun hdead he => (htakes _).refuses hs.1 (.inr hs.2) (parseSetLane_fields n enable timeout) (if_pos ⟨hdead, he⟩),
    fun h => ⟨s.laneSet n enable timeout.toNat, ?_, laneSet_state timeout.toNat h, ?_⟩⟩
  · have hcode : byte (s.lanes[n].state.enabled enable).code
        = match s.lanes[n].state.enabled enable with | .off => 0 | .live => 1 | .closing => 2 | .dead => 3 := by
      cases s.lanes[n].state.enabled enable <;> rfl
    have haccepts := setLane_accepts (tag := tag) (timeout := timeout) hs h
    rw [hcode] at haccepts
    exact haccepts
  have hzero : (if timeout.toNat = 0 then (none : Timer) else some 0) = if timeout = 0 then none else some 0 := by
    congr 1
    exact propext ⟨fun h0 => BitVec.eq_of_toNat_eq h0, fun h0 => by rw [h0]; rfl⟩
  have hwaits : s.lanes[n].waiting = true → s.lanes[n].sending = false ∧ s.lanes[n].queue ≠ [] := fun hw => by
    unfold Lane.waiting at hw
    rw [Bool.and_eq_true] at hw
    obtain ⟨-, hq, hsend⟩ := (Lane.hasWork_iff _).mp hw.1
    exact ⟨hsend, hq⟩
  have hidle : s.lanes[n].sending = true → ¬ s.lanes[n].waiting = true := fun hsend hw => by
    rw [(hwaits hw).1] at hsend
    cases hsend
  have htimeout := s.lanes[n].setTimeout_eq timeout.toNat
  rw [hzero] at htimeout
  rcases laneSet_cases timeout.toNat h with ⟨hsame, ht⟩ | ⟨hmoves, hdead, hafter, ht⟩ | ⟨hdead, ht⟩ <;> rw [ht]
  · rw [State.setLane_get_self, htimeout]
    refine ⟨rfl, rfl, fun _ => ⟨rfl, rfl, rfl⟩, fun hd => ?_, fun hc hlive => ?_, fun hlive hne => ?_,
      fun hw => ⟨(hwaits hw).1, if_pos hw⟩, fun hsend => ⟨hsend, if_neg (hidle hsend)⟩, fun hne => absurd hsame hne,
      fun hne => absurd hsame hne, fun _ => ⟨rfl, rfl⟩, fun k hk => ⟨State.setLane_get_ne _ _ hk, rfl⟩, rfl⟩
    · rw [hd] at hsame
      cases enable <;> cases hsame
    · rw [hsame, hlive] at hc
      cases hc
    · exact absurd (hsame.symm.trans hlive) hne
  · have htransmits := enabled_transmits (s.lanes[n].setTimeout timeout.toNat) hafter
    rw [silenceOn_lane htransmits, Lane.silenced_eq, htimeout]
    refine ⟨rfl, rfl, fun hs => absurd hs hmoves, fun hd => absurd hd hdead, fun hc hlive => ⟨?_, rfl⟩,
      fun hlive hne => ⟨?_, rfl, ?_⟩, fun hw => ?_, fun hsend => ?_, fun _ _ hq hsend => ?_, fun _ _ v => ?_,
      fun _ => ?_, fun k hk => ⟨silenceOn_lane_ne hk, ?_⟩, ?_⟩
    · simp only [hc]
      rfl
    · simp only [hlive]
      rfl
    · exact (silenceOn_lastSwell n).trans (if_pos ⟨rfl, hlive⟩)
    · obtain ⟨hsend, hq⟩ := hwaits hw
      have hno : ¬ (s.lanes[n].queue = [] ∧ s.lanes[n].sending = false) := fun c => hq c.1
      exact ⟨(if_neg hno).trans hsend, (if_neg hno).trans (if_pos hw)⟩
    · have hno : ¬ (s.lanes[n].queue = [] ∧ s.lanes[n].sending = false) := fun c => by
        rw [c.2] at hsend
        cases hsend
      exact ⟨(if_neg hno).trans hsend, (if_neg hno).trans (if_neg (hidle hsend))⟩
    · have hyes : s.lanes[n].queue = [] ∧ s.lanes[n].sending = false := ⟨hq, hsend⟩
      refine ⟨if_pos hyes, (if_pos hyes).trans ?_⟩
      rw [← hzero]
    · rw [silenceOn_voice]
      exact ⟨Voice.cleared_free n, Voice.cleared_spelled _ n⟩
    · rw [silenceOn_frame]
      exact ⟨rfl, rfl⟩
    · exact (silenceOn_lastSwell k).trans (if_neg fun c => hk c.1)
    · exact silenceOn_writes
  · have hframe := State.leavePending_frame (s.setLane n { s.lanes[n].setTimeout timeout.toNat with state := .off }) n
    have hidle : ¬ s.lanes[n].waiting = true := fun hw => by
      unfold Lane.waiting Lane.hasWork Lane.transmits at hw
      rw [hdead] at hw
      cases hw
    have hlane : { s.lanes[n].setTimeout timeout.toNat with state := LaneState.off }
        = { s.lanes[n] with state := .off, timeout := timeout.toNat } := by
      rw [htimeout, if_neg hidle]
    have hoff : s.lanes[n].state.enabled enable = .off := by rw [hdead]; rfl
    rw [leavePending_lanes, State.setLane_get_self, hlane, hoff]
    refine ⟨rfl, rfl, fun _ => ⟨rfl, rfl, ?_⟩, fun _ => ⟨rfl, ?_⟩, nofun, nofun, fun hw => absurd hw hidle,
      fun hsend => ⟨hsend, rfl⟩, fun _ hd => absurd hdead hd, fun _ hd => absurd hdead hd, fun hd => absurd hdead hd,
      fun k hk => ⟨State.setLane_get_ne _ _ hk, ?_⟩, ?_⟩
    · rw [State.leavePending_frame]
      rfl
    · rw [State.leavePending_frame]
      rfl
    · rw [State.leavePending_frame]
      rfl
    · rw [hlane] at hframe
      generalize (s.setLane n _).leavePending n = t at hframe ⊢
      rw [hframe]
      rfl

/-! ## Reset Lane and Read Lanes -/

/-- The lane after its revival, whatever state it was in (R159). -/
theorem reviveLane_lane (s : State) (n : LaneNo) :
    (reviveLane s n).lanes[n] = { s.lanes[n] with
      state := .live, owed := [], queue := s.lanes[n].sent ++ [.silence, .tier s.tierCode, .swell s.dyn.expr]
      sending := s.lanes[n].sending || s.lanes[n].ready
      stall := if s.lanes[n].sending = true then s.lanes[n].stall
        else if s.lanes[n].ready = true ∨ s.lanes[n].timeout = 0 then none else some 0 } := by
  have hlive : ({ s.lanes[n] with state := .live } : Lane).transmits = true := rfl
  unfold reviveLane
  simp only []
  rw [State.setLane_get_self, silenceOn_lane hlive, Lane.silenced_eq]
  generalize s.lanes[n] = l
  have hsent : ({ l with state := .live } : Lane).sent = l.sent := rfl
  simp only [if_true, hsent]
  by_cases hsend : l.sending = true
  · have hno : ¬ (l.queue = [] ∧ l.sending = false) := fun c => by
      rw [c.2] at hsend
      cases hsend
    rw [if_neg hno, if_neg hno, if_pos hsend, hsend, Bool.true_or]
    exact Lane.beginOrWait_idle (by simp [Lane.hasWork])
  · have hidle : l.sending = false := Bool.eq_false_iff.mpr hsend
    rw [if_neg hsend, hidle, Bool.false_or]
    by_cases hq : l.queue = []
    case pos =>
      cases hr : l.ready with
      | true => simp [Lane.beginOrWait, Lane.hasWork, hq]
      | false => simp [Lane.beginOrWait, Lane.hasWork, Lane.transmits, hq]
    case neg =>
      cases hr : l.ready with
      | true => simp [Lane.beginOrWait, Lane.hasWork, Lane.transmits, hq]
      | false => simp [Lane.beginOrWait, Lane.hasWork, Lane.transmits, hq]

theorem reviveLane_lane_ne (s : State) {n k : LaneNo} (h : k ≠ n) : (reviveLane s n).lanes[k] = s.lanes[k] := by
  unfold reviveLane
  simp only []
  rw [State.setLane_get_ne _ _ h, silenceOn_lane_ne h]

theorem reviveLane_lastSwell (s : State) (n k : LaneNo) :
    (reviveLane s n).dyn.lastSwell[k] = if k = n then s.dyn.expr else s.dyn.lastSwell[k] := by
  have hswell := silenceOn_lastSwell (s := s) (n := n) (l := { s.lanes[n] with state := .live }) k
  refine Eq.trans hswell ?_
  simp only [and_true]

theorem reviveLane_voice (s : State) (n : LaneNo) (v : Slot) :
    (reviveLane s n).vtb.voices[v] = s.vtb.voices[v].cleared n :=
  silenceOn_voice (s := s) (l := { s.lanes[n] with state := .live }) v

theorem reviveLane_frame (s : State) (n : LaneNo) :
    reviveLane s n = { s with
      lanes := (reviveLane s n).lanes, vtb := { s.vtb with voices := (reviveLane s n).vtb.voices }
      dyn := { s.dyn with lastSwell := (reviveLane s n).dyn.lastSwell } } := by
  have hframe := silenceOn_frame (s := s) (n := n) (l := { s.lanes[n] with state := .live })
  unfold reviveLane
  simp only []
  generalize (s.setLane n { s.lanes[n] with state := .live }).silenceLane n = t at hframe ⊢
  rw [hframe]
  rfl

theorem Lane.report_eq (l : Lane) :
    l.report = [match l.state with | .off => 0 | .live => 1 | .closing => 2 | .dead => 3,
      byte l.queue.length, if l.ready = true then 1 else 0, if l.sending = true then 1 else 0, byte l.timeout,
      byte l.owed.length] ++ l.owed.map fun v => byte v.val := by
  have hcode : byte l.state.code = match l.state with | .off => 0 | .live => 1 | .closing => 2 | .dead => 3 := by
    cases l.state <;> rfl
  unfold Lane.report
  rw [hcode]
  rfl

/-- Settles O52: Reset Lane is `reviveLane`, and Read Lanes the four reports. -/
theorem resetLaneRevivesAndReadLanesReports : Obligations.ResetLaneRevivesAndReadLanesReports := by
  unfold Obligations.ResetLaneRevivesAndReadLanesReports
  intro tag n s l hs hl
  subst hl
  have hreset : ∀ p, Takes (.resetLane tag p) 0x31 tag false (parseOne (field 4) p) resetLaneOwner := fun _ _ => rfl
  have hone : parseOne (field 4) [byte n.val] = .fields n := parseOne_fields (field_byte (by decide) n)
  refine ⟨fun hplay hoff => (hreset _).refuses hs (.inr hplay) hone (if_pos hoff),
    fun hplay b hb => (hreset _).refuses_outOfRange hs (.inr hplay) (parseOne_outOfRange (field_of_le hb)),
    fun hplay hoff => ⟨reviveLane s n, ?_, reviveLane_lane s n, fun v => ?_, ?_, fun k hk => ⟨reviveLane_lane_ne s hk, ?_⟩,
      reviveLane_frame s n⟩, ?_⟩
  · refine (hreset _).accepts hs (.inr hplay) hone ((if_neg hoff).trans ?_)
    exact congrArg (Verdict.accept · []) (State.rxDone_comm (f := (reviveLane · n)) (reviveLane_setMlk s · n))
  · rw [reviveLane_voice]
    exact ⟨Voice.cleared_free n, Voice.cleared_spelled _ n⟩
  · exact (reviveLane_lastSwell s n n).trans (if_pos rfl)
  · exact (reviveLane_lastSwell s n k).trans (if_neg hk)
  · have hread : Takes (.readLanes tag []) 0x32 tag true (parseEmpty []) fun _ s =>
      .accept s (allLanes.flatMap fun n => s.lanes[n].report) := fun _ => rfl
    refine hread.accepts hs (.inl rfl) (a := ()) rfl ?_
    have hreports : (fun n : LaneNo => s.lanes[n].report) = _ := funext fun n => s.lanes[n].report_eq
    exact congrArg (fun f : LaneNo → List Byte => Verdict.accept s.rxDone (allLanes.flatMap f)) hreports

end Sys2Proof.Machine

/-! PROOF. Restart: what every block holds once its steps are carried out (R179, R180). -/

namespace Sys2Proof.Machine

/-! ## One lane at Restart, and all four -/

theorem restartLane_off {s : State} {n : LaneNo} (h : s.lanes[n].state = .off) : restartLane s n = s := if_pos h

theorem restartLane_on {s : State} {n : LaneNo} (h : s.lanes[n].state ≠ .off) : restartLane s n = reviveLane s n :=
  if_neg h

theorem restartLane_frame (s : State) (n : LaneNo) :
    restartLane s n = { s with
      lanes := (restartLane s n).lanes, vtb := { s.vtb with voices := (restartLane s n).vtb.voices }
      dyn := { s.dyn with lastSwell := (restartLane s n).dyn.lastSwell } } := by
  by_cases h : s.lanes[n].state = .off
  · rw [restartLane_off h]
  · rw [restartLane_on h]
    exact reviveLane_frame s n

theorem restartLane_ne (s : State) {n k : LaneNo} (h : k ≠ n) : (restartLane s n).lanes[k] = s.lanes[k] := by
  by_cases ho : s.lanes[n].state = .off
  · rw [restartLane_off ho]
  · rw [restartLane_on ho, reviveLane_lane_ne s h]

theorem restartLanes_frame (ns : List LaneNo) (s : State) :
    ns.foldl restartLane s = { s with
      lanes := (ns.foldl restartLane s).lanes, vtb := { s.vtb with voices := (ns.foldl restartLane s).vtb.voices }
      dyn := { s.dyn with lastSwell := (ns.foldl restartLane s).dyn.lastSwell } } := by
  induction ns generalizing s with
  | nil => rfl
  | cons n ns ih =>
    have hframe := ih (restartLane s n)
    rw [List.foldl_cons]
    rw [restartLane_frame s n] at hframe ⊢
    exact hframe

/-- A lane after its own restart is left alone by the others', which do not change the tier code or X. -/
theorem restartLanes_lane {ns : List LaneNo} (hns : ns.Nodup) (s : State) (k : LaneNo) :
    (ns.foldl restartLane s).lanes[k] = if k ∈ ns then (restartLane s k).lanes[k] else s.lanes[k] := by
  induction ns generalizing s with
  | nil => rfl
  | cons n ns ih =>
    obtain ⟨hn, hns⟩ := List.nodup_cons.mp hns
    rw [List.foldl_cons, ih hns]
    by_cases hk : k = n
    · subst hk
      rw [if_neg hn, if_pos List.mem_cons_self]
    · have hsame : (restartLane (restartLane s n) k).lanes[k] = (restartLane s k).lanes[k] := by
        have hlane := restartLane_ne s hk
        by_cases ho : s.lanes[k].state = .off
        · rw [restartLane_off ho, restartLane_off (by rw [hlane]; exact ho), hlane]
        · have hcode : (restartLane s n).tierCode = s.tierCode := by
            rw [restartLane_frame]
            rfl
          have hexpr : (restartLane s n).dyn.expr = s.dyn.expr := by rw [restartLane_frame]
          rw [restartLane_on ho, restartLane_on (by rw [hlane]; exact ho), reviveLane_lane, reviveLane_lane, hlane,
            hcode, hexpr]
      rw [hsame, restartLane_ne s hk]
      simp only [List.mem_cons, hk, false_or]

theorem restartLanes_voice {s : State} {v : Slot} (h : s.vtb.voices[v].state = .free) (ns : List LaneNo) :
    (ns.foldl restartLane s).vtb.voices[v] = s.vtb.voices[v] := by
  induction ns generalizing s with
  | nil => rfl
  | cons n ns ih =>
    have hone : (restartLane s n).vtb.voices[v] = s.vtb.voices[v] := by
      by_cases ho : s.lanes[n].state = .off
      · rw [restartLane_off ho]
      · rw [restartLane_on ho, reviveLane_voice, Voice.cleared_free n h]
    rw [List.foldl_cons, ih (by rw [hone]; exact h), hone]

theorem restartLanes_lastSwell {s : State} {k : LaneNo} (h : s.dyn.lastSwell[k] = s.dyn.expr) (ns : List LaneNo) :
    (ns.foldl restartLane s).dyn.lastSwell[k] = s.dyn.expr := by
  induction ns generalizing s with
  | nil => exact h
  | cons n ns ih =>
    have hexpr : (restartLane s n).dyn.expr = s.dyn.expr := by rw [restartLane_frame]
    have hone : (restartLane s n).dyn.lastSwell[k] = (restartLane s n).dyn.expr := by
      rw [hexpr]
      by_cases ho : s.lanes[n].state = .off
      · rw [restartLane_off ho, h]
      · rw [restartLane_on ho, reviveLane_lastSwell, h, ite_self]
    rw [List.foldl_cons, ih hone, hexpr]

/-! ## Restart -/

/-- The part after an accepted Restart, before the reply. -/
def State.restarted (s : State) : State := (allLanes.foldl restartLane s.restartCleared).restartNoticed

theorem restartLane_setMlk (s : State) (m : Link) (n : LaneNo) :
    restartLane (s.setMlk m) n = (restartLane s n).setMlk m := by
  by_cases h : s.lanes[n].state = .off
  · rw [restartLane_off h, restartLane_off (s := s.setMlk m) h]
  · rw [restartLane_on h, restartLane_on (s := s.setMlk m) h, reviveLane_setMlk]

theorem restarted_rxDone (s : State) : s.rxDone.restarted = s.restarted.rxDone := by
  have hlanes : allLanes.foldl restartLane s.rxDone.restartCleared
      = (allLanes.foldl restartLane s.restartCleared).setMlk s.rxDone.mlk :=
    foldl_setMlk s.rxDone.mlk (fun t n => restartLane_setMlk t s.rxDone.mlk n) allLanes s.restartCleared
  have hmlk : (allLanes.foldl restartLane s.restartCleared).mlk = s.mlk := by
    rw [restartLanes_frame]
    rfl
  unfold State.restarted
  rw [hlanes]
  generalize allLanes.foldl restartLane s.restartCleared = w at hmlk ⊢
  unfold State.rxDone State.restartNoticed State.clearLinkCounts
  simp only [State.setMlk, State.setNtu, State.raise, hmlk]

theorem restarted_frame (s : State) :
    s.restarted = { s.restartCleared with
      lanes := s.restarted.lanes, vtb := { s.restartCleared.vtb with voices := s.restarted.vtb.voices }
      dyn := { s.restartCleared.dyn with lastSwell := s.restarted.dyn.lastSwell }
      ntu := s.restarted.ntu, mlk := { s.mlk with badFrames := 0, discards := 0, cause := .restart } } := by
  have hframe := restartLanes_frame allLanes s.restartCleared
  unfold State.restarted
  generalize allLanes.foldl restartLane s.restartCleared = w at hframe ⊢
  rw [hframe]
  rfl

theorem restarted_ntu (s : State) :
    s.restarted.ntu = ({ s.ntu with
      slots := Vector.replicate 13 none, meterTimer := meterStart s.ntu.interval } : NoticeUnit).withNotice
        (.identity .restart) := by
  have hntu : (allLanes.foldl restartLane s.restartCleared).ntu = s.ntu := by
    rw [restartLanes_frame]
    rfl
  unfold State.restarted
  generalize allLanes.foldl restartLane s.restartCleared = w at hntu ⊢
  rw [← hntu]
  rfl

theorem restarted_slot (s : State) (k : Fin 13) :
    s.restarted.ntu.slots[k] = if k = 0 then some { notice := .identity .restart, repeats := 0 } else none := by
  rw [restarted_ntu]
  by_cases hk : k = 0
  · subst hk
    rw [if_pos rfl]
    refine (get_put_self _ _ _).trans ?_
    rw [get_replicate]
    rfl
  · rw [if_neg hk]
    exact (get_put_ne _ _ hk).trans (get_replicate _ _)

theorem restarted_lane (s : State) (n : LaneNo) : s.restarted.lanes[n] = (restartLane s.restartCleared n).lanes[n] := by
  have hnodup : allLanes.Nodup := by decide
  have hlane := restartLanes_lane hnodup s.restartCleared n
  rw [if_pos (mem_allLanes n)] at hlane
  unfold State.restarted
  generalize allLanes.foldl restartLane s.restartCleared = w at hlane ⊢
  exact hlane

theorem restarted_voice (s : State) (v : Slot) :
    s.restarted.vtb.voices[v] = { s.vtb.voices[v] with state := .free, holders := [], lanes := 0, owed := 0 } := by
  have hfree : s.restartCleared.vtb.voices[v]
      = { s.vtb.voices[v] with state := .free, holders := [], lanes := 0, owed := 0 } := get_tabulate _ v
  have hvoice := restartLanes_voice (s := s.restartCleared) (v := v) (by rw [hfree]) allLanes
  unfold State.restarted
  generalize allLanes.foldl restartLane s.restartCleared = w at hvoice ⊢
  exact hvoice.trans hfree

theorem restarted_lastSwell (s : State) (n : LaneNo) : s.restarted.dyn.lastSwell[n] = 0 := by
  have hzero : s.restartCleared.dyn.lastSwell[n] = s.restartCleared.dyn.expr := get_replicate _ n
  have hswell := restartLanes_lastSwell hzero allLanes
  unfold State.restarted
  generalize allLanes.foldl restartLane s.restartCleared = w at hswell ⊢
  exact hswell

/-- Settles O13: each block is as its own clearing leaves it, and a lane that is not OFF is revived (`reviveLane_lane`)
under the level and the expression of the cleared Dynamics Unit. -/
theorem restartClearsAndKeeps : Obligations.RestartClearsAndKeeps := by
  unfold Obligations.RestartClearsAndKeeps
  intro tag s hs
  have htakes : Takes (.restart tag []) 0x03 tag true (parseEmpty []) restartOwner := fun _ => rfl
  have hframe := restarted_frame s
  have hlevel : s.restarted.dyn.level = s.restartCleared.dyn.level := by rw [hframe]
  have hcode : s.restartCleared.tierCode
      = s.sst.live.tierMap[s.restarted.dyn.level.val / 8192]'(by have := s.restarted.dyn.level.isLt; omega) := by
    simp only [hlevel]
    rfl
  refine ⟨s.restarted, ?_, ⟨fun x => ?_, ?_⟩, ?_, ?_, fun v => ?_, ⟨fun x => ?_, ?_⟩, ?_,
    ⟨?_, ?_, fun n => ?_, ?_⟩, ?_, ?_, fun n hn => ?_, fun n hn => ?_,
    ⟨?_, fun k hk => ?_, ?_, ?_⟩, ?_, ?_, ?_⟩
  · refine htakes.accepts hs (.inl rfl) (a := ()) rfl ((restartOwner_eq () s.rxDone).trans ?_)
    exact congrArg (Verdict.accept · []) (restarted_rxDone s)
  · rw [hframe]
    exact get_tabulate _ x
  · rw [hframe]
    rfl
  · rw [hframe]
    rfl
  · rw [hframe]
    rfl
  · exact restarted_voice s v
  · rw [hframe]
    exact get_replicate _ x
  · rw [hframe]
    rfl
  · rw [hframe]
    rfl
  · exact hlevel
  · rw [← hcode, hframe]
    rfl
  · exact restarted_lastSwell s n
  · conv => lhs; rw [hframe]
    rw [hframe]
    rfl
  · rw [hframe]
    rfl
  · rw [hframe]
    rfl
  · rw [restarted_lane, restartLane_off (s := s.restartCleared) hn]
    rfl
  · rw [restarted_lane, restartLane_on (s := s.restartCleared) hn, reviveLane_lane, ← hcode]
    exact ⟨rfl, rfl, rfl, rfl, rfl, rfl, rfl⟩
  · exact restarted_slot s 0
  · exact (restarted_slot s k).trans (if_neg hk)
  · rw [restarted_ntu]
    rfl
  · rw [restarted_ntu]
    rfl
  · rw [hframe]
  · rw [hframe]
    rfl
  · rw [hframe]
    rfl

end Sys2Proof.Machine

/-! PROOF. The state after power-on: register by register (R17, R36, R45, R55, R85, R104, R123, R141, R163, R181, R191),
and as the start of every invariant. -/

namespace Sys2Proof.Machine

/-! ## The tables of the power-on state -/

theorem reset_button (x : Crosspoint) : State.reset.bsc.buttons[x] = { pressed := false, count := 0 } := get_replicate _ x

theorem reset_role (x : Crosspoint) : State.reset.bsc.roles[x] = .none := get_replicate _ x

theorem reset_scene (n : SceneNo) : State.reset.sst.library[n] = .blank := get_replicate _ n

theorem reset_voice (v : Slot) : State.reset.vtb.voices[v] = .blank := get_replicate _ v

theorem reset_voicedAs (x : Crosspoint) : State.reset.vtb.voicedAs[x] = none := get_replicate _ x

theorem reset_lane (n : LaneNo) : State.reset.lanes[n] = .powerOn := get_replicate _ n

theorem identityMap_get (t : Fin 8) : identityMap[t].val = t.val := by
  revert t; decide

/-- The power-on state itself is what power-on leaves of it: its pins are low and nothing waits. -/
theorem powerOnReset_reset : powerOnReset State.reset = State.reset := by
  have hlanes : (powerOnReset State.reset).lanes = State.reset.lanes := table_ext fun n => by
    refine (get_tabulate _ n).trans ?_
    rw [reset_lane]
    rfl
  have hframe : powerOnReset State.reset = { State.reset with lanes := (powerOnReset State.reset).lanes } := rfl
  rw [hframe, hlanes]

theorem powerOnReset_lane (s : State) (n : LaneNo) :
    (powerOnReset s).lanes[n] = ⟨.off, [], false, [], 20, none, s.lanes[n].ready⟩ := get_tabulate _ n

/-- Settles O10: every field but the pins, the waiting commands and the counter is the power-on state's. -/
theorem powerOnState : Obligations.PowerOnState := by
  unfold Obligations.PowerOnState
  refine ⟨congrArg _ powerOnReset_reset, fun s => ⟨powerOnReset s, rfl, fun x => ⟨reset_button x, reset_role x⟩,
    ⟨rfl, fun n => get_replicate _ n, rfl, rfl, rfl, rfl⟩, fun k => ?_, fun c => ?_, rfl, fun r => ?_, fun n => ?_,
    ⟨rfl, fun i => get_replicate _ i, rfl, identityMap_get⟩, ⟨rfl, fun n => get_replicate _ n⟩, ⟨rfl, rfl, rfl⟩,
    fun v => ?_, ⟨reset_voicedAs, rfl⟩, ⟨rfl, rfl, rfl, rfl, rfl, rfl, rfl, rfl, rfl, rfl, rfl⟩,
    ⟨rfl, rfl, rfl, rfl, rfl, rfl, rfl, fun n => get_replicate _ n, rfl, rfl⟩, ⟨rfl, rfl, rfl, rfl, rfl, rfl⟩,
    powerOnReset_lane s, ⟨fun k => get_replicate _ k, rfl, rfl, rfl, rfl⟩, ⟨rfl, rfl, rfl, rfl, rfl, rfl, rfl, rfl⟩, rfl,
    rfl⟩⟩
  · have hentry : (powerOnReset s).nex.trebleTable[k] = _ := get_tabulate _ k
    rw [hentry]
    exact ⟨rfl, rfl⟩
  · have hentry : (powerOnReset s).nex.bassTable[c] = _ := get_tabulate _ c
    rw [hentry]
    exact ⟨rfl, rfl⟩
  · have hrows : ∀ r : Fin 6, Expander.powerOn.rowForms[r].val = r.val := by decide
    exact hrows r
  · have hscene : (powerOnReset s).sst.library[n] = Scene.blank := reset_scene n
    rw [hscene]
    exact ⟨rfl, fun i => get_replicate _ i, rfl, identityMap_get⟩
  · have hvoice : (powerOnReset s).vtb.voices[v] = Voice.blank := reset_voice v
    rw [hvoice]
    exact ⟨rfl, rfl, rfl, rfl⟩

/-! ## The power-on state is coherent -/

theorem not_has_zero (n : LaneNo) : ¬ LaneSet.has 0 n = true :=
  Bool.eq_false_iff.mp ((LaneSet.eq_zero_iff 0).mp rfl n)

theorem reset_lanesCoherent : State.reset.LanesCoherent := by
  intro n
  rw [reset_lane]
  decide

theorem reset_voicesAndLanesAgree : State.reset.VoicesAndLanesAgree := by
  intro n
  refine ⟨?_, fun v => ?_⟩
  · rw [reset_lane]
    exact .nil
  · rw [reset_lane, reset_voice]
    exact ⟨fun h => absurd h (not_has_zero n), fun h => absurd h (not_has_zero n),
      ⟨fun h => absurd h (not_has_zero n), nofun⟩, Nat.zero_le _, nofun⟩

theorem reset_holdersPressed : State.reset.HoldersPressed := by
  refine ⟨fun v x hx => ?_, fun x hx => absurd (reset_voicedAs x) hx⟩
  rw [reset_voice] at hx
  cases hx

theorem reset_pendingSilences : State.reset.PendingSilences := fun n =>
  ⟨fun h => absurd h (not_has_zero n), fun h => absurd h (not_has_zero n)⟩

theorem reset_liveDistinct : State.reset.vtb.LiveDistinct := fun v _ hv => by
  rw [reset_voice] at hv
  cases hv

theorem reset_silencedWhenDisabled : State.reset.SilencedWhenDisabled := ⟨nofun, nofun⟩

/-- Settles O60: each part is the start of one of the invariants. -/
theorem resetStateIsCoherent : Obligations.ResetStateIsCoherent := by
  unfold Obligations.ResetStateIsCoherent
  obtain ⟨hrange, hcounts⟩ := State.reset_scannerSound
  obtain ⟨hserved, hslots⟩ := State.reset_linkServed
  obtain ⟨hbfe, hdyn⟩ := State.reset_samplesInRange
  obtain ⟨hscenes, htransposes, hstack⟩ := (State.scoreSound_iff _).mp State.reset_scoreSound
  exact ⟨hrange, hcounts, State.reset_vtbCoherent, reset_silencedWhenDisabled, hstack, hserved, hslots, hbfe, hdyn,
    hscenes, htransposes, reset_lanesCoherent, reset_voicesAndLanesAgree, reset_holdersPressed, reset_pendingSilences,
    reset_liveDistinct⟩

end Sys2Proof.Machine

/-! PROOF. The expansion of a press (R23 to R27): which entries it names, and in what order. -/

namespace Sys2Proof.Machine

/-! ## A list without the later copies of its entries -/

section
variable {α : Type} [DecidableEq α]

theorem dropRepeats_cons (a : α) (l : List α) : dropRepeats (a :: l) = a :: (dropRepeats l).filter fun b => b ≠ a := rfl

theorem mem_dropRepeats {a : α} {l : List α} : a ∈ dropRepeats l ↔ a ∈ l := by
  induction l with
  | nil => exact Iff.rfl
  | cons b l ih =>
    rw [dropRepeats_cons, List.mem_cons, List.mem_filter, ih, List.mem_cons, decide_eq_true_eq]
    by_cases h : a = b <;> simp [h]

theorem dropRepeats_nodup (l : List α) : (dropRepeats l).Nodup := by
  induction l with
  | nil => exact .nil
  | cons b l ih =>
    refine List.nodup_cons.mpr ⟨fun h => ?_, ih.filter _⟩
    exact of_decide_eq_true (List.mem_filter.mp h).2 rfl

theorem dropRepeats_sublist (l : List α) : (dropRepeats l).Sublist l := by
  induction l with
  | nil => exact .slnil
  | cons b l ih => exact (List.filter_sublist.trans ih).cons_cons b

/-- Behind a first part, what is left of a second one is the first copies of what the first part does not hold. -/
theorem dropRepeats_append (l m : List α) :
    dropRepeats (l ++ m) = dropRepeats l ++ (dropRepeats m).filter fun b => b ∉ l := by
  induction l with
  | nil => exact (List.filter_eq_self.mpr fun b _ => decide_eq_true List.not_mem_nil).symm
  | cons a l ih =>
    rw [List.cons_append, dropRepeats_cons, dropRepeats_cons, ih, List.filter_append, List.filter_filter, List.cons_append]
    congr 2
    refine List.filter_congr fun b _ => ?_
    rw [← Bool.decide_and]
    congr 1
    rw [List.mem_cons, not_or]

end

/-! ## The entries of one layer -/

/-- The folded note of a layer for a base note (R26). -/
def Layer.note (l : Layer) (transpose : Int) (base : Nat) : Pitch := foldPitch (base + l.transpose + transpose)

theorem candidate_some {t : Int} {i j : LayerPos} {l : Layer} {base : Nat} {v : Pitch} :
    candidate t i l base = some (j, v) ↔ j = i ∧ v = l.note t base ∧ l.keyLow ≤ v ∧ v ≤ l.keyHigh := by
  unfold candidate Layer.note
  simp only []
  by_cases h : l.keyLow ≤ foldPitch (base + l.transpose + t) ∧ foldPitch (base + l.transpose + t) ≤ l.keyHigh
  · rw [if_pos h, Option.some.injEq, Prod.mk.injEq]
    constructor
    · rintro ⟨rfl, rfl⟩
      exact ⟨rfl, rfl, h⟩
    · rintro ⟨rfl, rfl, -⟩
      exact ⟨rfl, rfl⟩
  · rw [if_neg h]
    constructor
    · nofun
    · rintro ⟨-, rfl, hv⟩
      exact absurd hv h

theorem idxOf_cons_of_ne {a b : Pitch} (h : b ≠ a) (l : List Pitch) : (a :: l).idxOf b = l.idxOf b + 1 :=
  List.idxOf_cons_ne l (Ne.symm h)

/-- The entries of one layer stand in the order in which the base notes first give them. -/
theorem candidates_ordered (t : Int) (i : LayerPos) (l : Layer) (bases : List Nat) :
    (dropRepeats (bases.filterMap (candidate t i l))).Pairwise fun a b =>
      (bases.map (l.note t)).idxOf a.2 < (bases.map (l.note t)).idxOf b.2 := by
  induction bases with
  | nil => exact .nil
  | cons n bases ih =>
    have hnotes : ∀ e ∈ dropRepeats (bases.filterMap (candidate t i l)), e.1 = i ∧ l.keyLow ≤ e.2 ∧ e.2 ≤ l.keyHigh :=
      fun e he => by
        obtain ⟨m, -, hm⟩ := List.mem_filterMap.mp (mem_dropRepeats.mp he)
        obtain ⟨hi, -, hrange⟩ := candidate_some.mp hm
        exact ⟨hi, hrange⟩
    have hshift : ∀ es : List (LayerPos × Pitch), es.Pairwise (fun a b =>
          (bases.map (l.note t)).idxOf a.2 < (bases.map (l.note t)).idxOf b.2) → (∀ e ∈ es, e.2 ≠ l.note t n) →
        es.Pairwise fun a b => ((n :: bases).map (l.note t)).idxOf a.2 < ((n :: bases).map (l.note t)).idxOf b.2 :=
      fun es hes hne => hes.imp_of_mem fun {a b} ha hb hab => by
        rw [List.map_cons, idxOf_cons_of_ne (hne a ha), idxOf_cons_of_ne (hne b hb)]
        exact Nat.succ_lt_succ hab
    cases hn : candidate t i l n with
    | none =>
      rw [List.filterMap_cons_none hn]
      refine hshift _ ih fun e he heq => ?_
      obtain ⟨-, hrange⟩ := hnotes e he
      have hsome : candidate t i l n = some (i, e.2) := candidate_some.mpr ⟨rfl, heq, hrange⟩
      rw [hn] at hsome
      cases hsome
    | some e =>
      obtain ⟨j, v⟩ := e
      obtain ⟨rfl, rfl, -⟩ := candidate_some.mp hn
      rw [List.filterMap_cons_some hn, dropRepeats_cons]
      have hne : ∀ e ∈ (dropRepeats (bases.filterMap (candidate t j l))).filter fun b => b ≠ (j, l.note t n),
          e.2 ≠ l.note t n := fun e he heq => by
        obtain ⟨hmem, hother⟩ := List.mem_filter.mp he
        exact of_decide_eq_true hother (Prod.ext (hnotes e hmem).1 heq)
      refine List.pairwise_cons.mpr ⟨fun e he => ?_, hshift _ (ih.filter _) hne⟩
      rw [List.map_cons, idxOf_cons_of_ne (hne e he), List.idxOf_cons_self]
      exact Nat.succ_pos _

/-! ## The layers -/

theorem mem_selectedLayers {s : State} {r : Role} {i : LayerPos} {l : Layer} :
    (i, l) ∈ s.selectedLayers r ↔ s.sst.live.layers[i] = some l ∧ l.serves s.sst.live.settings r = true := by
  unfold State.selectedLayers
  rw [List.mem_filterMap]
  constructor
  · rintro ⟨j, -, hj⟩
    cases hl : s.sst.live.layers[j] with
    | none =>
      rw [hl] at hj
      cases hj
    | some m =>
      rw [hl] at hj
      simp only [] at hj
      split at hj
      · next hserves =>
        cases hj
        exact ⟨hl, hserves⟩
      · cases hj
  · rintro ⟨hl, hserves⟩
    refine ⟨i, List.mem_finRange i, ?_⟩
    rw [hl]
    exact if_pos hserves

theorem selectedLayers_ascending (s : State) (r : Role) : (s.selectedLayers r).Pairwise fun a b => a.1 < b.1 := by
  have hall : allLayers.Pairwise fun i j => i < j := by decide
  unfold State.selectedLayers
  refine List.Pairwise.filterMap _ (fun i j hij a ha b hb => ?_) hall
  have hfst : ∀ (i : LayerPos) (a : LayerPos × Layer), (match s.sst.live.layers[i] with
      | some l => if l.serves s.sst.live.settings r then some (i, l) else none
      | none => none) = some a → a.1 = i := by
    intro i a h
    split at h
    · split at h
      · cases h
        rfl
      · cases h
    · cases h
  rw [hfst i a ha, hfst j b hb]
  exact hij

theorem selectedLayers_length (s : State) (r : Role) : (s.selectedLayers r).length ≤ 8 :=
  List.length_filterMap_le _ allLayers

/-- The entries that one layer gives (R26). -/
def State.layerEntries (s : State) (x : Crosspoint) (d : Dir) (il : LayerPos × Layer) : List (LayerPos × Pitch) :=
  (s.baseList s.bsc.roles[x] d).filterMap (candidate s.sst.live.settings.transpose il.1 il.2)

theorem expand_eq (s : State) (x : Crosspoint) (d : Dir) :
    s.expand x d = dropRepeats ((s.selectedLayers s.bsc.roles[x]).flatMap (s.layerEntries x d)) := rfl

theorem mem_expand {s : State} {x : Crosspoint} {d : Dir} {i : LayerPos} {v : Pitch} :
    (i, v) ∈ s.expand x d ↔ ∃ l : Layer, s.sst.live.layers[i] = some l
      ∧ l.serves s.sst.live.settings s.bsc.roles[x] = true ∧ l.keyLow ≤ v ∧ v ≤ l.keyHigh
      ∧ ∃ base ∈ s.baseList s.bsc.roles[x] d, v = l.note s.sst.live.settings.transpose base := by
  rw [expand_eq, mem_dropRepeats, List.mem_flatMap]
  constructor
  · rintro ⟨⟨j, l⟩, hl, hv⟩
    obtain ⟨base, hbase, hc⟩ := List.mem_filterMap.mp hv
    obtain ⟨rfl, hnote, hlow, hhigh⟩ := candidate_some.mp hc
    obtain ⟨hlayer, hserves⟩ := mem_selectedLayers.mp hl
    exact ⟨l, hlayer, hserves, hlow, hhigh, base, hbase, hnote⟩
  · rintro ⟨l, hlayer, hserves, hlow, hhigh, base, hbase, hnote⟩
    exact ⟨(i, l), mem_selectedLayers.mpr ⟨hlayer, hserves⟩,
      List.mem_filterMap.mpr ⟨base, hbase, candidate_some.mpr ⟨rfl, hnote, hlow, hhigh⟩⟩⟩

/-- A relation that holds within each layer and from a lower layer to a higher one orders the expansion. -/
theorem expand_pairwise {s : State} {x : Crosspoint} {d : Dir} {R : LayerPos × Pitch → LayerPos × Pitch → Prop}
    (hin : ∀ il ∈ s.selectedLayers s.bsc.roles[x], (dropRepeats (s.layerEntries x d il)).Pairwise R)
    (hcross : ∀ a b, a.1 < b.1 → R a b) : (s.expand x d).Pairwise R := by
  have hfst : ∀ il, ∀ e ∈ s.layerEntries x d il, e.1 = il.1 := fun il e he => by
    obtain ⟨base, -, hc⟩ := List.mem_filterMap.mp he
    exact (candidate_some.mp hc).1
  rw [expand_eq]
  have hasc := selectedLayers_ascending s s.bsc.roles[x]
  generalize s.selectedLayers s.bsc.roles[x] = ls at hin hasc
  induction ls with
  | nil => exact .nil
  | cons il ls ih =>
    obtain ⟨hlow, hasc⟩ := List.pairwise_cons.mp hasc
    rw [List.flatMap_cons, dropRepeats_append]
    refine List.pairwise_append.mpr ⟨hin il List.mem_cons_self,
      (ih (fun m hm => hin m (List.mem_cons_of_mem _ hm)) hasc).filter _, fun a ha b hb => hcross a b ?_⟩
    obtain ⟨m, hm, hbm⟩ := List.mem_flatMap.mp (mem_dropRepeats.mp (List.mem_filter.mp hb).1)
    rw [hfst il a (mem_dropRepeats.mp ha), hfst m b hbm]
    exact hlow m hm

theorem expand_length (s : State) (x : Crosspoint) (d : Dir) :
    (s.expand x d).length ≤ 8 * (s.baseList s.bsc.roles[x] d).length := by
  have hentries : ∀ il, (s.layerEntries x d il).length ≤ (s.baseList s.bsc.roles[x] d).length := fun il =>
    List.length_filterMap_le _ _
  have hflat : ∀ ls : List (LayerPos × Layer),
      (ls.flatMap (s.layerEntries x d)).length ≤ ls.length * (s.baseList s.bsc.roles[x] d).length := fun ls => by
    induction ls with
    | nil => exact Nat.zero_le _
    | cons il ls ih =>
      rw [List.flatMap_cons, List.length_append, List.length_cons, Nat.succ_mul]
      have := hentries il
      omega
  rw [expand_eq]
  calc _ ≤ _ := (dropRepeats_sublist _).length_le
    _ ≤ _ := hflat _
    _ ≤ _ := Nat.mul_le_mul_right _ (selectedLayers_length s _)

/-! ## The two roles -/

theorem serves_treble {l : Layer} {t : Settings} {k : Fin 96} :
    l.serves t (.treble k) = true ↔ l.sect = .treble ∧ l.regMask.getLsbD t.trebleReg.val = true := by
  unfold Layer.serves
  rw [Bool.and_eq_true, beq_iff_eq]

theorem serves_bass {l : Layer} {t : Settings} {c : Fin 20} {r : Fin 6} :
    l.serves t (.bass c r) = true
      ↔ l.sect = .bass ∧ l.regMask.getLsbD t.bassReg.val = true ∧ l.rowMask.getLsbD r.val = true := by
  unfold Layer.serves
  rw [Bool.and_eq_true, Bool.and_eq_true, beq_iff_eq, and_assoc]

/-- Settles O19: a treble key has one base note, a bass button those of its row's form. -/
theorem expansionNamesTheEntries : Obligations.ExpansionNamesTheEntries := by
  unfold Obligations.ExpansionNamesTheEntries
  refine fun s x d => ⟨fun k base hrole hbase => ?_, fun c r root hrole hroot => ?_⟩
  · have hlist : s.baseList s.bsc.roles[x] d = [base.val] := by
      rw [hrole, hbase]
      rfl
    refine ⟨fun i v => ?_, expand_pairwise (fun il _ => ?_) fun _ _ h => h⟩
    · rw [mem_expand, hlist, hrole]
      simp only [List.mem_singleton, exists_eq_left, serves_treble]
      exact exists_congr fun l => by
        rw [and_assoc]
        exact and_congr_right fun _ => and_congr_right fun _ => and_congr_right fun _ =>
          ⟨fun ⟨hl, hh, hv⟩ => ⟨hv, hl, hh⟩, fun ⟨hv, hl, hh⟩ => ⟨hl, hh, hv⟩⟩
    · have hone : (dropRepeats (s.layerEntries x d il)).length ≤ 1 :=
        (dropRepeats_sublist _).length_le.trans
          ((List.length_filterMap_le _ _).trans (by rw [hlist]; exact Nat.le_refl _))
      match hd : dropRepeats (s.layerEntries x d il), hone with
      | [], _ => exact .nil
      | [e], _ => exact List.pairwise_singleton _ e
  · have hlist : s.baseList s.bsc.roles[x] d
        = s.nex.forms[s.nex.rowForms[r]].map fun interval => root.val + interval.val := by
      rw [hrole, hroot]
      rfl
    have hnote : ∀ (l : Layer) (interval : Fin 37), l.note s.sst.live.settings.transpose (root.val + interval.val)
        = foldPitch (root.val + interval.val + l.transpose + s.sst.live.settings.transpose) := fun l interval => by
      unfold Layer.note
      rw [Nat.cast_add]
    refine ⟨fun i v => ?_, expand_pairwise (fun il _ => ?_) fun _ _ h => Nat.le_of_lt h, dropRepeats_nodup _,
      expand_pairwise (fun il hil => ?_) fun a b hlt heq => absurd hlt (heq ▸ lt_irrefl _), fun hfour => ?_⟩
    · rw [mem_expand, hlist, hrole]
      simp only [List.mem_map, serves_bass, ← hnote]
      exact exists_congr fun l => by
        rw [and_assoc, and_assoc]
        refine and_congr_right fun _ => and_congr_right fun _ => and_congr_right fun _ => and_congr_right fun _ =>
          and_congr_right fun _ => and_congr_right fun _ => ?_
        constructor
        · rintro ⟨base, ⟨interval, hmem, rfl⟩, hv⟩
          exact ⟨interval, hmem, hv⟩
        · rintro ⟨interval, hmem, hv⟩
          exact ⟨_, ⟨interval, hmem, rfl⟩, hv⟩
    · refine List.Pairwise.imp_of_mem (fun {a b} ha hb _ => ?_) (dropRepeats_nodup (s.layerEntries x d il))
      have hfst : ∀ e ∈ dropRepeats (s.layerEntries x d il), e.1 = il.1 := fun e he => by
        obtain ⟨base, -, hc⟩ := List.mem_filterMap.mp (mem_dropRepeats.mp he)
        exact (candidate_some.mp hc).1
      exact le_of_eq ((hfst a ha).trans (hfst b hb).symm)
    · obtain ⟨i, l⟩ := il
      obtain ⟨hlayer, -⟩ := mem_selectedLayers.mp hil
      refine List.Pairwise.imp_of_mem (fun {a b} ha _ hab _ m notes hm hnotes => ?_)
        (candidates_ordered s.sst.live.settings.transpose i l (s.baseList s.bsc.roles[x] d))
      obtain ⟨base, -, hc⟩ := List.mem_filterMap.mp (mem_dropRepeats.mp ha)
      have hi := (candidate_some.mp hc).1
      have hml : m = l := Option.some.inj (hm.symm.trans ((congrArg (fun i : LayerPos => s.sst.live.layers[i]) hi).trans hlayer))
      have hmap : (s.baseList s.bsc.roles[x] d).map (l.note s.sst.live.settings.transpose) = notes := by
        rw [hlist, List.map_map, hnotes, hml]
        exact List.map_congr_left fun interval _ => hnote l interval
      rw [hmap] at hab
      exact hab
    · have hlen := expand_length s x d
      rw [hlist, List.length_map] at hlen
      omega

end Sys2Proof.Machine

/-! PROOF. The scan pass: what it debounces and what it hands on (R1 to R12). -/

namespace Sys2Proof.Machine

/-! ## Debounce -/

theorem passDue_iff (b : Scanner) : b.passDue = true ↔ ∃ e ∈ b.passTimer, b.interval ≤ e :=
  Timer.due_iff _ _

theorem passDue_false_iff (b : Scanner) : b.passDue = false ↔ ∀ e ∈ b.passTimer, e < b.interval :=
  Timer.due_false_iff _ _

/-- The flip of a crosspoint in a pass: D readings in a row against its state (R2). -/
def Button.flips (b : Button) (depth : Nat) (reading : Bool) : Bool := reading != b.pressed && b.count + 1 == depth

theorem debounce_eq (depth : Nat) (reading : Bool) (b : Button) :
    debounce depth reading b = if b.flips depth reading = true then { pressed := reading, count := 0 }
      else { b with count := if reading = b.pressed then 0 else b.count + 1 } := by
  unfold debounce Button.flips
  by_cases hr : reading = b.pressed
  · have hsame : (reading != b.pressed) = false := bne_eq_false_iff_eq.mpr hr
    rw [if_pos hr, hsame, Bool.false_and, if_neg Bool.false_ne_true, if_pos hr]
  · have hdiff : (reading != b.pressed) = true := bne_iff_ne.mpr hr
    rw [if_neg hr, hdiff, Bool.true_and, if_neg hr]
    simp only [beq_iff_eq]

theorem debounce_changes (depth : Nat) (reading pressed : Bool) (b : Button) :
    (b.pressed != pressed && (debounce depth reading b).pressed == pressed)
      = (b.flips depth reading && (b.pressed == !pressed)) := by
  rw [debounce_eq]
  by_cases hf : b.flips depth reading = true
  · have hr : reading = !b.pressed := by
      unfold Button.flips at hf
      rw [Bool.and_eq_true, bne_iff_ne] at hf
      exact Bool.eq_not_of_ne hf.1
    rw [if_pos hf, hf, hr]
    cases b.pressed <;> cases pressed <;> rfl
  · rw [if_neg hf, Bool.eq_false_iff.mpr hf]
    cases b.pressed <;> cases pressed <;> rfl

/-- Crosspoint x flips in a pass with these readings. -/
def Scanner.flipsAt (b : Scanner) (readings : Readings) (x : Crosspoint) : Bool :=
  b.buttons[x].flips b.depth (readings.getLsbD x.val)

theorem debounced_button (b : Scanner) (readings : Readings) (x : Crosspoint) :
    (b.debounced readings).buttons[x] = debounce b.depth (readings.getLsbD x.val) b.buttons[x] :=
  debounceAll_get _ _ _ _

theorem flips_eq (b : Scanner) (readings : Readings) (pressed : Bool) :
    b.flips readings pressed
      = (List.finRange 256).filter fun x => b.flipsAt readings x && (b.buttons[x].pressed == !pressed) := by
  unfold Scanner.flips confirmed allCrosspoints
  refine List.filter_congr fun x _ => ?_
  rw [debounced_button]
  exact debounce_changes _ _ _ _

/-- The scanner after the debounce, button by button. -/
theorem debounced_eq (b : Scanner) (readings : Readings) :
    b.debounced readings = { b with
      buttons := tabulate fun x : Crosspoint =>
        if b.flipsAt readings x = true then { pressed := readings.getLsbD x.val, count := 0 }
        else { b.buttons[x] with
          count := if readings.getLsbD x.val = b.buttons[x].pressed then 0 else b.buttons[x].count + 1 }
      passTimer := some 0 } := by
  have hbuttons : debounceAll b.depth readings b.buttons = tabulate fun x : Crosspoint =>
      if b.flipsAt readings x = true then { pressed := readings.getLsbD x.val, count := 0 }
      else { b.buttons[x] with
        count := if readings.getLsbD x.val = b.buttons[x].pressed then 0 else b.buttons[x].count + 1 } :=
    table_ext fun x => by
      rw [debounceAll_get, get_tabulate]
      exact debounce_eq _ _ _
  unfold Scanner.debounced
  rw [hbuttons]

/-- Settles O14: the debounce is that of `debounceAll`, and what is handed on leaves the buttons and the other tables
alone. -/
theorem scanPassDebounces : Obligations.ScanPassDebounces := by
  unfold Obligations.ScanPassDebounces
  refine fun readings s => ⟨fun hearly => ?_, fun hdue => ⟨takePass readings s, ?_, fun x => ?_, ?_, ?_⟩⟩
  · exact congrArg _ (scanPass_early readings ((passDue_false_iff _).mpr hearly))
  · exact congrArg _ (scanPass_due readings ((passDue_iff _).mpr hdue))
  all_goals
    obtain ⟨hbsc, -⟩ := handOns_both (s.bsc.flips readings false) (s.bsc.flips readings true)
      (s.setBsc (s.bsc.debounced readings))
    rw [← State.arbitrate_bsc, ← takePass_eq] at hbsc
  · have hbutton : (takePass readings s).bsc.buttons[x] = (s.bsc.debounced readings).buttons[x] := by
      rw [hbsc]
      rfl
    rw [hbutton, debounced_button]
    rfl
  · conv => lhs; rw [hbsc]
    conv => rhs; rw [hbsc]
    rfl
  · obtain ⟨b, u, hu, hend⟩ := takePass_playing readings s
    have hlink : (takePass readings s).mlk = { u.mlk with output := (takePass readings s).mlk.output } := by
      rcases hend with ⟨ht, -⟩ | ht
      · rw [ht]
      · rw [ht]
        conv => lhs; rw [State.arbitrate_frame]
    have hrest : (takePass readings s).nex = u.nex ∧ (takePass readings s).bfe = u.bfe
        ∧ (takePass readings s).pending = u.pending ∧ (takePass readings s).sst = u.sst
        ∧ (takePass readings s).dyn = u.dyn := by
      rcases hend with ⟨ht, -⟩ | ht
      · rw [ht]
        exact ⟨rfl, rfl, rfl, rfl, rfl⟩
      · rw [ht, State.arbitrate_frame]
        exact ⟨rfl, rfl, rfl, rfl, rfl⟩
    obtain ⟨hnex, hbfe, hpending, hsst, hdyn⟩ := hrest
    rw [hnex, hbfe, hpending, hsst, hdyn, hlink]
    refine ⟨hu.nex, hu.bfe, hu.pending, hu.library, hu.overrides, hu.dyn, ?_⟩
    have hmlk : u.mlk = s.mlk := hu.mlk
    rw [hmlk]

end Sys2Proof.Machine

/-! PROOF. What a scan pass hands on: the changes in their order, one change by its role, and the pass of a HALTED part
(R3, R5 to R12, R144). -/

namespace Sys2Proof.Machine

/-! ## One change routed -/

section
variable {x : Crosspoint} {u : State} (press : Bool)

theorem routeChange_none (h : u.bsc.roles[x] = .none) : routeChange x press u = u := by
  unfold routeChange
  rw [h]

theorem routeChange_plays (hplaying : u.isHalted = false) (h : u.bsc.roles[x].plays = true) :
    routeChange x press u = if press = true then pressKey u x else releaseKey u x := by
  unfold routeChange
  generalize u.bsc.roles[x] = r at h
  cases r with
  | treble k => exact if_neg (Bool.eq_false_iff.mp hplaying)
  | bass c r => exact if_neg (Bool.eq_false_iff.mp hplaying)
  | none | override _ | hush | trebleRegister _ | bassRegister _ | cue => exact absurd h Bool.false_ne_true

theorem routeChange_trebleRegister (hplaying : u.isHalted = false) {n : RegNo}
    (h : u.bsc.roles[x] = .trebleRegister n) :
    routeChange x press u = if press = true then selectRegisterIn .treble n u else u := by
  unfold routeChange
  rw [h, hplaying]
  simp only [Bool.not_false, Bool.and_true]

theorem routeChange_bassRegister (hplaying : u.isHalted = false) {n : RegNo}
    (h : u.bsc.roles[x] = .bassRegister n) :
    routeChange x press u = if press = true then selectRegisterIn .bass n u else u := by
  unfold routeChange
  rw [h, hplaying]
  simp only [Bool.not_false, Bool.and_true]

theorem routeChange_cue (hplaying : u.isHalted = false) (h : u.bsc.roles[x] = .cue) :
    routeChange x press u = if press = true then triggerCue .cueButton u else u := by
  unfold routeChange
  rw [h, hplaying]
  simp only [Bool.not_false, Bool.and_true]

/-- The occupancy of group n moves, and a move between 0 and 1 goes to the Override Stack (R8). -/
theorem routeChange_override (hplaying : u.isHalted = false) {n : Fin 4} (h : u.bsc.roles[x] = .override n) :
    routeChange x press u
      = if press = true ∧ u.bsc.groupOcc[n] = 0 then switchPush n (u.setBsc (u.bsc.occupied press (.override n)))
        else if press = false ∧ u.bsc.groupOcc[n] = 1 then
          switchRelease n (u.setBsc (u.bsc.occupied press (.override n)))
        else u.setBsc (u.bsc.occupied press (.override n)) := by
  unfold routeChange
  rw [h]
  refine (if_neg (Bool.eq_false_iff.mp hplaying)).trans ?_
  cases press with
  | true => simp only [true_and, Bool.true_eq_false, false_and, if_true, if_false]; rfl
  | false => simp only [Bool.false_eq_true, true_and, false_and, if_false]; rfl

/-- The occupancy of the hush group moves, and a move between 0 and 1 goes to Silencing Control (R9). -/
theorem routeChange_hush (hplaying : u.isHalted = false) (h : u.bsc.roles[x] = .hush) :
    routeChange x press u
      = if press = true ∧ u.bsc.hushOcc = 0 then hushPart (u.setBsc (u.bsc.occupied press .hush))
        else if press = false ∧ u.bsc.hushOcc = 1 then unhushPart (u.setBsc (u.bsc.occupied press .hush))
        else u.setBsc (u.bsc.occupied press .hush) := by
  unfold routeChange
  rw [h]
  refine (if_neg (Bool.eq_false_iff.mp hplaying)).trans ?_
  cases press with
  | true => simp only [true_and, Bool.true_eq_false, false_and, if_true, if_false]; rfl
  | false => simp only [Bool.false_eq_true, true_and, false_and, if_false]; rfl

end

/-! ## A pass with one flip, or none -/

/-- A flip is a flip from the debounced state of before. -/
theorem Scanner.flipsAt_reading {b : Scanner} {readings : Readings} {x : Crosspoint}
    (h : b.flipsAt readings x = true) : readings.getLsbD x.val = !b.buttons[x].pressed := by
  unfold Scanner.flipsAt Button.flips at h
  rw [Bool.and_eq_true, bne_iff_ne] at h
  exact Bool.eq_not_of_ne h.1

theorem Scanner.flipsAt_iff (b : Scanner) (readings : Readings) (x : Crosspoint) :
    b.flipsAt readings x = false
      ↔ readings.getLsbD x.val = b.buttons[x].pressed ∨ b.buttons[x].count + 1 ≠ b.depth := by
  unfold Scanner.flipsAt Button.flips
  rw [Bool.and_eq_false_iff, bne_eq_false_iff_eq, beq_eq_false_iff_ne]

theorem flips_none {b : Scanner} {readings : Readings} (h : ∀ x, b.flipsAt readings x = false) (pressed : Bool) :
    b.flips readings pressed = [] := by
  rw [flips_eq]
  refine List.filter_eq_nil_iff.mpr fun x _ => ?_
  rw [h x]
  exact Bool.false_ne_true

theorem filter_finRange_eq {n : Nat} (x : Fin n) : ((List.finRange n).filter fun y => y == x) = [x] := by
  rw [List.filter_beq, List.count_eq_one_of_mem (List.nodup_finRange n) (List.mem_finRange x)]
  rfl

theorem flips_one {b : Scanner} {readings : Readings} {x : Crosspoint}
    (h : ∀ y, b.flipsAt readings y = (y == x)) (pressed : Bool) :
    b.flips readings pressed = if b.buttons[x].pressed = !pressed then [x] else [] := by
  rw [flips_eq]
  have hpointwise (y : Crosspoint) : (b.flipsAt readings y && (b.buttons[y].pressed == !pressed))
      = ((y == x) && (b.buttons[x].pressed == !pressed)) := by
    rw [h y]
    by_cases hyx : y = x
    · rw [hyx]
    · rw [beq_eq_false_iff_ne.mpr hyx, Bool.false_and, Bool.false_and]
  rw [List.filter_congr fun y _ => hpointwise y]
  split
  · next hp => simp only [beq_iff_eq.mpr hp, Bool.and_true, filter_finRange_eq]
  · next hp => simp only [beq_eq_false_iff_ne.mpr hp, Bool.and_false, List.filter_false]

/-- A pass with the one flip of x hands on that change. -/
theorem takePass_one {s : State} {readings : Readings} {x : Crosspoint}
    (h : ∀ y, s.bsc.flipsAt readings y = (y == x)) :
    takePass readings s
      = (handOn (readings.getLsbD x.val) (s.setBsc (s.bsc.debounced readings)) x).arbitrate := by
  have hx : readings.getLsbD x.val = !s.bsc.buttons[x].pressed :=
    Scanner.flipsAt_reading ((h x).trans (beq_self_eq_true x))
  rw [takePass_eq, flips_one h, flips_one h, hx]
  cases s.bsc.buttons[x].pressed <;> rfl

/-! ## The pass of a HALTED part -/

/-- What a change handed on may touch while the part is HALTED: the scanner, and the pending BUTTON notice. -/
def HaltedPass (s t : State) : Prop :=
  t = { s with bsc := t.bsc, ntu := { s.ntu with slots := t.ntu.slots } }
    ∧ ∀ k : Fin 13, k ≠ 11 → t.ntu.slots[k] = s.ntu.slots[k]

theorem HaltedPass.trans {s t u : State} (h : HaltedPass s t) (h' : HaltedPass t u) : HaltedPass s u := by
  obtain ⟨hframe, hslots⟩ := h
  obtain ⟨hframe', hslots'⟩ := h'
  refine ⟨?_, fun k hk => (hslots' k hk).trans (hslots k hk)⟩
  conv => lhs; rw [hframe', hframe]

theorem routeChange_halted {s : State} (h : s.isHalted = true) (x : Crosspoint) (press : Bool) :
    routeChange x press s = s.setBsc (s.bsc.occupied press s.bsc.roles[x]) := by
  unfold routeChange
  cases s.bsc.roles[x] with
  | none => rfl
  | override n => exact if_pos h
  | hush => exact if_pos h
  | treble k => exact if_pos h
  | bass c r => exact if_pos h
  | trebleRegister n =>
    simp only [h, Bool.not_true, Bool.and_false, Bool.false_eq_true, if_false]
    rfl
  | bassRegister n =>
    simp only [h, Bool.not_true, Bool.and_false, Bool.false_eq_true, if_false]
    rfl
  | cue =>
    simp only [h, Bool.not_true, Bool.and_false, Bool.false_eq_true, if_false]
    rfl

theorem handOn_halted {s : State} (h : s.isHalted = true) (press : Bool) (x : Crosspoint) :
    HaltedPass s (handOn press s x) := by
  unfold handOn
  rw [countHeld_eq, routeChange_halted (by exact h)]
  exact ⟨rfl, fun k hk => State.raise_get_ne _ _ hk⟩

theorem handOns_halted (press : Bool) (xs : List Crosspoint) {s : State} (h : s.isHalted = true) :
    HaltedPass s (xs.foldl (handOn press) s) := by
  induction xs generalizing s with
  | nil => exact ⟨rfl, fun _ _ => rfl⟩
  | cons x xs ih =>
    have hx := handOn_halted h press x
    have hstill : (handOn press s x).isHalted = true := by
      rw [hx.1]
      exact h
    exact hx.trans (ih hstill)

/-- The arbiter empties a slot only to send its notice (R171). -/
theorem State.arbitrate_slots (s : State) (k : Fin 13) :
    s.arbitrate.ntu.slots[k] = s.ntu.slots[k]
      ∨ (s.arbitrate.ntu.slots[k] = none ∧ s.arbitrate.mlk.output ≠ .idle) := by
  unfold State.arbitrate
  repeat' split
  · exact .inl rfl
  · next j _ _ p _ =>
    by_cases hk : k = j
    · subst hk
      exact .inr ⟨get_put_self _ _ _, nofun⟩
    · exact .inl (get_put_ne _ _ hk)
  all_goals exact .inl rfl

/-- Settles O15: the two lists are the flips of the debounce, and each change is routed by its role. -/
theorem passesRouteTheirChanges : Obligations.PassesRouteTheirChanges := by
  unfold Obligations.PassesRouteTheirChanges
  intro readings s hdue
  have hexec : exec (.scanPass readings) s = .next (takePass readings s) :=
    congrArg _ (scanPass_due readings ((passDue_iff _).mpr hdue))
  refine ⟨?_, ?_, ?_, ?_⟩
  · intro flips releases presses u hflips hreleases hpresses hu
    have hat : flips = s.bsc.flipsAt readings := funext hflips
    have hstart : s.setBsc (s.bsc.debounced readings) = u := by
      rw [hu, hat, debounced_eq]
      rfl
    have hfirst : s.bsc.flips readings false = releases := by
      rw [hreleases, hat, flips_eq]
      simp only [Bool.not_false, beq_true]
    have hthen : s.bsc.flips readings true = presses := by
      rw [hpresses, hat, flips_eq]
      simp only [Bool.not_true, beq_false]
    rw [hexec, takePass_eq, hfirst, hthen, hstart]
  · intro hstays t ht
    have hnone (x : Crosspoint) : s.bsc.flipsAt readings x = false := (Scanner.flipsAt_iff _ _ _).mpr (hstays x)
    rw [hexec, takePass_eq, flips_none hnone, flips_none hnone, ht, debounced_eq]
    simp only [hnone]
    rfl
  · intro x press u hpart hreading hpressed hcount hothers hu
    have hone (y : Crosspoint) : s.bsc.flipsAt readings y = (y == x) := by
      by_cases hyx : y = x
      · subst hyx
        rw [beq_self_eq_true, ← Bool.not_eq_false, Scanner.flipsAt_iff, hreading, hpressed]
        rintro (h | h)
        · exact absurd h (by cases press <;> decide)
        · exact h hcount
      · rw [beq_eq_false_iff_ne.mpr hyx]
        exact (Scanner.flipsAt_iff _ _ _).mpr (hothers y hyx)
    have hcounted : countHeld x press (s.setBsc (s.bsc.debounced readings)) = u := by
      rw [countHeld_eq, hu, debounced_eq]
      simp only [hone, beq_iff_eq]
      have hbuttons : (tabulate fun y : Crosspoint =>
          if y = x then ({ pressed := readings.getLsbD y.val, count := 0 } : Button) else { s.bsc.buttons[y] with
            count := if readings.getLsbD y.val = s.bsc.buttons[y].pressed then 0 else s.bsc.buttons[y].count + 1 })
          = tabulate fun y : Crosspoint => if y = x then { pressed := press, count := 0 } else { s.bsc.buttons[y] with
            count := if readings.getLsbD y.val = s.bsc.buttons[y].pressed then 0
              else s.bsc.buttons[y].count + 1 } :=
        congrArg tabulate (funext fun y => by
          by_cases hyx : y = x
          · subst hyx
            exact (if_pos rfl).trans ((congrArg (fun p => ({ pressed := p, count := 0 } : Button)) hreading).trans
              (if_pos rfl).symm)
          · exact (if_neg hyx).trans (if_neg hyx).symm)
      exact congrArg (fun buttons : Vector Button 256 => ({ s with bsc := { s.bsc with
        buttons := buttons
        held := if s.bsc.roles[x].plays = true then (if press = true then s.bsc.held + 1 else s.bsc.held - 1)
          else s.bsc.held
        passTimer := some 0 } } : State)) hbuttons
    have hplaying : u.isHalted = false := by
      rw [hu]
      unfold State.isHalted
      rw [hpart]
      rfl
    have hroles : u.bsc.roles[x] = s.bsc.roles[x] := by rw [hu]
    have hgroup : u.bsc.groupOcc = s.bsc.groupOcc := by rw [hu]
    have hhush : u.bsc.hushOcc = s.bsc.hushOcc := by rw [hu]
    refine ⟨routeChange x press u, ?_, fun h => ?_, fun h => ?_, fun n h => ?_, fun n h => ?_, fun n w h hw => ?_,
      fun w h hw => ?_, fun h => ?_⟩
    · rw [hexec, takePass_one hone, hreading]
      unfold handOn
      rw [hcounted]
    · exact routeChange_none press (hroles.trans h)
    · exact routeChange_plays press hplaying (hroles ▸ h)
    · exact routeChange_trebleRegister press hplaying (hroles.trans h)
    · exact routeChange_bassRegister press hplaying (hroles.trans h)
    · have hoccupied : u.setBsc (u.bsc.occupied press (.override n)) = w := by
        rw [hw, ← hgroup]
        rfl
      rw [routeChange_override press hplaying (hroles.trans h), hoccupied, hgroup]
    · have hoccupied : u.setBsc (u.bsc.occupied press .hush) = w := by
        rw [hw, ← hhush]
        rfl
      rw [routeChange_hush press hplaying (hroles.trans h), hoccupied, hhush]
    · exact routeChange_cue press hplaying (hroles.trans h)
  · intro hpart
    have hhalted : (s.setBsc (s.bsc.debounced readings)).isHalted = true := beq_iff_eq.mpr hpart
    have hreleases := handOns_halted false (s.bsc.flips readings false) hhalted
    have hpass : HaltedPass (s.setBsc (s.bsc.debounced readings)) _ :=
      hreleases.trans (handOns_halted true (s.bsc.flips readings true) (by rw [hreleases.1]; exact hhalted))
    refine ⟨_, hexec, ?_, fun k hk => ?_⟩
    all_goals
      rw [takePass_eq]
      obtain ⟨hframe, hslots⟩ := hpass
      generalize (s.bsc.flips readings true).foldl (handOn true) _ = t at hframe hslots ⊢
    · have harbiter := State.arbitrate_frame t
      have hbsc := State.arbitrate_bsc t
      generalize t.arbitrate = v at harbiter hbsc ⊢
      refine harbiter.trans ?_
      rw [hbsc]
      generalize v.ntu.slots = slots
      generalize v.mlk.output = output
      rw [hframe]
      rfl
    · rw [← show t.ntu.slots[k] = s.ntu.slots[k] from hslots k hk]
      exact State.arbitrate_slots t k

end Sys2Proof.Machine

/-! PROOF. The arrival of a sample: the sensor checks, the judgement, and the stream's loss (R87 to R100). -/

namespace Sys2Proof.Machine

/-! ## Stage 1 -/

section
variable (b : Bellows)

theorem railStep_clear (h : b.railFault = false) : railStep false b = { b with railRun := 0 } := by
  unfold railStep
  rw [h]
  rfl

theorem railStep_rail (h : b.railFault = false) (hn : b.railRun + 1 ≠ 64) :
    railStep true b = { b with railRun := b.railRun + 1 } := by
  unfold railStep
  rw [h]
  exact if_neg hn

theorem railStep_faults (h : b.railFault = false) (hn : b.railRun + 1 = 64) :
    railStep true b = { b with railFault := true, railRun := 0 } := by
  unfold railStep
  rw [h]
  exact if_pos hn

theorem railStep_stays_rail (h : b.railFault = true) : railStep true b = { b with clearRun := 0 } := by
  unfold railStep
  rw [h]
  rfl

theorem railStep_stays_clear (h : b.railFault = true) (hn : b.clearRun + 1 ≠ 64) :
    railStep false b = { b with clearRun := b.clearRun + 1 } := by
  unfold railStep
  rw [h]
  exact if_neg hn

theorem railStep_recovers (h : b.railFault = true) (hn : b.clearRun + 1 = 64) :
    railStep false b = { b with railFault := false, clearRun := 0 } := by
  unfold railStep
  rw [h]
  exact if_pos hn

theorem railStep_keeps (rail : Bool) : railStep rail b = { b with
    railFault := (railStep rail b).railFault, railRun := (railStep rail b).railRun
    clearRun := (railStep rail b).clearRun } := by
  unfold railStep
  split_ifs <;> rfl

/-- Stage 1 writes the rail's flag and counters, and clears the loss. -/
theorem sensorStage_keeps (r : Int) : sensorStage r b = { b with
    railFault := (sensorStage r b).railFault, railRun := (sensorStage r b).railRun
    clearRun := (sensorStage r b).clearRun, lossTimer := some 0, lost := false, partialWord := [] } :=
  railStep_keeps _ _

theorem sensorStage_sensor (r : Int) :
    (sensorStage r b).sensor = if (sensorStage r b).railFault = true then .rail else .ok := by
  have hlost : (sensorStage r b).lost = false := by rw [sensorStage_keeps]
  unfold Bellows.sensor
  rw [hlost]
  rfl

end

/-! ## Stages 2 to 5 -/

/-- A after stage 4 (R91). -/
def Bellows.tracked (b : Bellows) (held : Nat) (c : Int) (cls : SampleClass) : Int :=
  if b.settings.mode = .track ∧ cls = .still ∧ held = 0 then
    clampInt (b.acc + c * b.settings.speed.factor) (-8388608) 8388352
  else b.acc

section
variable (b : Bellows)

theorem track_eq (held : Nat) (c : Int) (cls : SampleClass) :
    track held c cls b = { b with acc := b.tracked held c cls } := by
  unfold track Bellows.tracked
  split_ifs <;> rfl

theorem judge_still : judge .still b
    = ({ b with run := 0, holdLeft := b.stillHold - 1, lastClass := .still },
      if 0 < b.stillHold then .held else .processed) := by
  unfold judge
  rw [if_pos rfl, judgeStill_eq]

theorem judge_same : judge b.bd.asClass b
    = ({ b with run := 0, holdLeft := 0, lastClass := b.bd.asClass }, .processed) := by
  have hmoves : b.bd.asClass ≠ .still := by cases b.bd <;> exact nofun
  unfold judge
  rw [if_neg hmoves, if_pos rfl]
  rfl

theorem judge_opposite : judge b.bd.opposite.asClass b
    = ({ (judgeOpposite b).1 with lastClass := b.bd.opposite.asClass }, (judgeOpposite b).2) := by
  have hmoves : b.bd.opposite.asClass ≠ .still := by cases b.bd <;> exact nofun
  have hother : b.bd.opposite.asClass ≠ b.bd.asClass := by cases b.bd <;> exact nofun
  unfold judge
  rw [if_neg hmoves, if_neg hother]

theorem judge_waits (h : b.run + 1 < b.settings.confirm) : judge b.bd.opposite.asClass b
    = ({ b with run := b.run + 1, lastClass := b.bd.opposite.asClass }, .held) := by
  rw [judge_opposite]
  unfold judgeOpposite
  rw [if_pos h]

theorem judge_reverses (h : b.settings.confirm ≤ b.run + 1) : judge b.bd.opposite.asClass b
    = ({ b with bd := b.bd.opposite, run := 0, holdLeft := 0, lastClass := b.bd.opposite.asClass }, .reversal) := by
  rw [judge_opposite]
  unfold judgeOpposite
  rw [if_neg (Nat.not_lt.mpr h)]

/-- A class is STILL, that of BD, or the opposite one. -/
theorem class_cases (cls : SampleClass) (d : Dir) : cls = .still ∨ cls = d.asClass ∨ cls = d.opposite.asClass := by
  cases cls <;> cases d <;> decide

theorem judge_lastClass (cls : SampleClass) : (judge cls b).1.lastClass = cls := rfl

/-- A judgement writes the direction state alone. -/
theorem judge_keeps (cls : SampleClass) : (judge cls b).1 = { b with
    bd := (judge cls b).1.bd, run := (judge cls b).1.run, holdLeft := (judge cls b).1.holdLeft
    lastClass := (judge cls b).1.lastClass } := by
  rcases class_cases cls b.bd with rfl | rfl | rfl
  · rw [judge_still]
  · rw [judge_same]
  · rcases Nat.lt_or_ge (b.run + 1) b.settings.confirm with h | h
    · rw [judge_waits b h]
    · rw [judge_reverses b h]

theorem Bellows.judged_eq (held : Nat) (r : Int) : b.judged held r
    = judge (classify b.settings.still (correct b.offset r)) { b with
        acc := b.tracked held (correct b.offset r) (classify b.settings.still (correct b.offset r)) } := by
  unfold Bellows.judged
  rw [track_eq]

/-- A judged sample leaves the sensor's flags and counters, and the settings. -/
theorem Bellows.judged_keeps (held : Nat) (r : Int) : (b.judged held r).1 = { b with
    acc := (b.judged held r).1.acc, bd := (b.judged held r).1.bd, run := (b.judged held r).1.run
    holdLeft := (b.judged held r).1.holdLeft, lastClass := (b.judged held r).1.lastClass } := by
  rw [Bellows.judged_eq, judge_keeps]

end

/-! ## The arrival -/

theorem PlayingEvent.bfe {s t : State} (h : PlayingEvent s t) : t.bfe = s.bfe := by
  obtain ⟨u, hu, ⟨rfl, -⟩ | rfl⟩ := h
  · exact hu.bfe
  · rw [State.arbitrate_bfe, hu.bfe]

/-- What an arrival leaves in the front end: the flags, counters and settings of stage 1, and what is judged. -/
theorem sampleArrival_sensor (w : BitVec 16) (s : State) :
    (sampleArrival w s).bfe = { sensorStage w.toInt s.bfe with
      acc := (sampleArrival w s).bfe.acc, bd := (sampleArrival w s).bfe.bd, run := (sampleArrival w s).bfe.run
      holdLeft := (sampleArrival w s).bfe.holdLeft, lastClass := (sampleArrival w s).bfe.lastClass } := by
  rcases sampleArrival_playing w s with ⟨-, h⟩ | ⟨-, h⟩
  · rw [h.bfe, State.setBfe_bfe]
  · rw [h.bfe, State.setDyn_bfe, State.setBfe_bfe]
    exact Bellows.judged_keeps _ _ _

/-- Settles O38: the rail's cases are those of `railStep`, and a faulted arrival ends at stage 1. -/
theorem sensorChecksAreStageOne : Obligations.SensorChecksAreStageOne := by
  unfold Obligations.SensorChecksAreStageOne
  refine fun s => ⟨fun w rail hrail => ⟨sampleArrival w s, rfl, ?_⟩, fun hearly => ?_, fun u hdue hu => ?_⟩
  · have hkept := sampleArrival_sensor w s
    have hstage : sensorStage w.toInt s.bfe
        = railStep rail { s.bfe with lossTimer := some 0, lost := false, partialWord := [] } := by
      rw [hrail]
      rfl
    have hfault : (sampleArrival w s).bfe.railFault = (sensorStage w.toInt s.bfe).railFault := by rw [hkept]
    have hrun : (sampleArrival w s).bfe.railRun = (sensorStage w.toInt s.bfe).railRun := by rw [hkept]
    have hclear : (sampleArrival w s).bfe.clearRun = (sensorStage w.toInt s.bfe).clearRun := by rw [hkept]
    have hlost : (sampleArrival w s).bfe.lost = false := by rw [hkept, sensorStage_keeps]
    have htimer : (sampleArrival w s).bfe.lossTimer = some 0 := by rw [hkept, sensorStage_keeps]
    have hsettings : (sampleArrival w s).bfe.settings = s.bfe.settings := by rw [hkept, sensorStage_keeps]
    refine ⟨fun hf hr => ?_, fun hf hr hn => ?_, fun hf hr hn => ?_, fun hf => ?_, fun hf hr => ?_, fun hf hr hn => ?_,
      fun hf hr hn => ?_, fun hf => ?_, hlost, htimer, hsettings, fun hfaulted => ?_⟩
    · rw [hfault, hrun, hstage, hr, railStep_clear _ (by exact hf)]
      exact ⟨hf, rfl⟩
    · rw [hfault, hrun, hstage, hr, railStep_rail _ (by exact hf) (by exact hn)]
      exact ⟨hf, rfl⟩
    · rw [hfault, hrun, hstage, hr, railStep_faults _ (by exact hf) (by exact hn)]
      exact ⟨rfl, rfl⟩
    · rw [hclear, hstage]
      unfold railStep
      simp only [hf, Bool.false_eq_true, if_false]
      split_ifs <;> rfl
    · rw [hfault, hclear, hstage, hr, railStep_stays_rail _ (by exact hf)]
      exact ⟨hf, rfl⟩
    · rw [hfault, hclear, hstage, hr, railStep_stays_clear _ (by exact hf) (by exact hn)]
      exact ⟨hf, rfl⟩
    · rw [hfault, hclear, hstage, hr, railStep_recovers _ (by exact hf) (by exact hn)]
      exact ⟨rfl, rfl⟩
    · rw [hrun, hstage]
      unfold railStep
      simp only [hf, if_true]
      split_ifs <;> rfl
    · rw [hfault] at hfaulted
      have hsensor : (sensorStage w.toInt s.bfe).sensor = .rail := by rw [sensorStage_sensor, if_pos hfaulted]
      have hends : sampleArrival w s = (s.sensed w).arbitrate := by
        rcases sampleArrival_cases w s with ⟨-, h⟩ | ⟨h, -⟩
        · exact h
        · rw [hsensor] at h
          exact absurd h nofun
      have hbfe : (sampleArrival w s).bfe = sensorStage w.toInt s.bfe := by
        rw [hends, State.arbitrate_bfe, State.sensed_bfe]
      refine ⟨?_, ?_⟩
      · rw [hbfe]
        conv => lhs; rw [sensorStage_keeps, hfaulted]
      · rw [hbfe, hends]
        unfold State.sensed raiseSensor
        simp only [State.setBfe_bfe, hsensor]
        by_cases h : s.bfe.sensor = .rail
        · rw [if_pos h.symm, if_pos h]
          rfl
        · rw [if_neg (fun e => h e.symm), if_neg h]
          rfl
  · exact congrArg _ (if_neg (Bool.eq_false_iff.mp ((Timer.due_false_iff _ _).mpr hearly)))
  · have hgo : streamLossTimeout s = (raiseSensor s.bfe.sensor u).arbitrate := by
      rw [hu]
      exact if_pos ((Timer.due_iff _ _).mpr hdue)
    have hnow : u.bfe.sensor = .lost := by
      rw [hu]
      rfl
    have hexec : exec .streamLossTimeout s = .next (raiseSensor s.bfe.sensor u).arbitrate := congrArg _ hgo
    refine ⟨fun hl => ?_, fun hl => ?_⟩
    all_goals
      rw [hexec]
      unfold raiseSensor
      rw [hnow]
    · have hbefore : SensorState.lost ≠ s.bfe.sensor := by
        unfold Bellows.sensor
        rw [hl, if_neg Bool.false_ne_true]
        split_ifs <;> exact nofun
      rw [if_neg hbefore]
    · have hbefore : SensorState.lost = s.bfe.sensor := by
        unfold Bellows.sensor
        rw [hl]
        rfl
      rw [if_pos hbefore]

end Sys2Proof.Machine

/-! PROOF. An arrival that leaves the sensor OK: correction, class, tracking and direction (R88 to R96). -/

namespace Sys2Proof.Machine

theorem clampInt_eq_max {lo hi : Int} (h : lo ≤ hi) (v : Int) : clampInt v lo hi = max lo (min hi v) := by
  unfold clampInt
  split_ifs <;> omega

/-- A judging arrival leaves no rail fault behind it. -/
theorem Bellows.Judges.clears {b : Bellows} {w : BitVec 16} (h : b.Judges w) :
    (sensorStage w.toInt b).railFault = false := by
  rcases h with ⟨hf, hrun⟩ | ⟨hf, hlow, hhigh, hclear⟩
  · unfold sensorStage
    cases hrail : isRail w.toInt with
    | false =>
      rw [railStep_clear _ (by exact hf)]
      exact hf
    | true =>
      have hr : w.toInt = -32768 ∨ w.toInt = 32767 := by
        unfold isRail at hrail
        simpa only [Bool.or_eq_true, beq_iff_eq] using hrail
      rw [railStep_rail _ (by exact hf) (by exact hrun hr)]
      exact hf
  · have hrail : isRail w.toInt = false := by
      unfold isRail
      rw [beq_eq_false_iff_ne.mpr hlow, beq_eq_false_iff_ne.mpr hhigh]
      rfl
    unfold sensorStage
    rw [hrail, railStep_recovers _ (by exact hf) (by exact hclear)]

/-- The part when stages 2 to 5 have judged the sample: SENSOR (ok) is raised on a change (R96, R100). -/
def State.fronted (s : State) (b : Bellows) : State :=
  if s.bfe.sensor = .ok then s.setBfe b else (s.setBfe b).raise (.sensor .ok)

/-- The judgement of the sample of a judging arrival. -/
def State.judges (s : State) (w : BitVec 16) : Bellows × Judgement := (sensorStage w.toInt s.bfe).judged s.bsc.held w.toInt

/-- The corrected sample is the one that the offset estimate of before gives (R88). -/
theorem sensorStage_correct (b : Bellows) (r : Int) :
    correct (sensorStage r b).offset r = max (-32768) (min 32767 (r - b.acc / 256)) := by
  have hacc : (sensorStage r b).acc = b.acc := by rw [sensorStage_keeps]
  unfold correct Bellows.offset
  rw [hacc, clampInt_eq_max (by decide)]

theorem sampleArrival_judges {w : BitVec 16} {s : State} (h : s.bfe.Judges w) {c : Int}
    (hc : c = max (-32768) (min 32767 (w.toInt - s.bfe.acc / 256))) :
    sampleArrival w s
      = (handOff (s.judges w).2 (min c.natAbs 32767) (s.fronted (s.judges w).1)).arbitrate := by
  have hok : (sensorStage w.toInt s.bfe).sensor = .ok := by
    rw [sensorStage_sensor, h.clears]
    rfl
  have hfronted (b : Bellows) : (s.sensed w).setBfe b = s.fronted b := by
    unfold State.sensed raiseSensor State.fronted
    simp only [State.setBfe_bfe, hok]
    by_cases hs : s.bfe.sensor = .ok
    · rw [if_pos hs.symm, if_pos hs]
      rfl
    · rw [if_neg (fun e => hs e.symm), if_neg hs]
      rfl
  rcases sampleArrival_cases w s with ⟨hn, -⟩ | ⟨-, he⟩
  · exact absurd hok hn
  · rw [he, hfronted, sensorStage_correct, ← hc]
    rfl

theorem State.fronted_bfe (s : State) (b : Bellows) : (s.fronted b).bfe = b := by
  unfold State.fronted
  split_ifs <;> rfl

/-- The front end after a judging arrival is the judged one. -/
theorem sampleArrival_judged {w : BitVec 16} {s : State} (h : s.bfe.Judges w) :
    (sampleArrival w s).bfe = (s.judges w).1 := by
  rw [sampleArrival_judges h rfl, State.arbitrate_bfe]
  have hkept := (handOff_playing (s.judges w).2
    (min (max (-32768) (min 32767 (w.toInt - s.bfe.acc / 256))).natAbs 32767) (s.fronted (s.judges w).1)).bfe
  rw [hkept, State.setDyn_bfe, State.fronted_bfe]

/-- The front end that stage 5 judges: stage 1 and the tracking are behind it. -/
def State.judgedFrom (s : State) (w : BitVec 16) (c : Int) (cls : SampleClass) : Bellows :=
  { sensorStage w.toInt s.bfe with acc := s.bfe.tracked s.bsc.held c cls }

theorem State.judges_eq {s : State} {w : BitVec 16} {c : Int} {cls : SampleClass}
    (hc : c = max (-32768) (min 32767 (w.toInt - s.bfe.acc / 256)))
    (hcls : cls = if (s.bfe.settings.still : Int) < c then .push else if c < -(s.bfe.settings.still : Int) then .pull
      else .still) :
    s.judges w = judge cls (s.judgedFrom w c cls) := by
  have hstill : (sensorStage w.toInt s.bfe).settings = s.bfe.settings := by rw [sensorStage_keeps]
  have hclass : classify (sensorStage w.toInt s.bfe).settings.still c = cls := by
    rw [hcls, hstill]
    rfl
  have htracked : (sensorStage w.toInt s.bfe).tracked s.bsc.held c cls = s.bfe.tracked s.bsc.held c cls := by
    rw [sensorStage_keeps]
    rfl
  unfold State.judges
  rw [Bellows.judged_eq, sensorStage_correct, ← hc, hclass, htracked]
  rfl

theorem State.judgedFrom_bd (s : State) (w : BitVec 16) (c : Int) (cls : SampleClass) :
    (s.judgedFrom w c cls).bd = s.bfe.bd := by
  unfold State.judgedFrom
  rw [sensorStage_keeps]

theorem State.judgedFrom_run (s : State) (w : BitVec 16) (c : Int) (cls : SampleClass) :
    (s.judgedFrom w c cls).run = s.bfe.run := by
  unfold State.judgedFrom
  rw [sensorStage_keeps]

theorem State.judgedFrom_holdLeft (s : State) (w : BitVec 16) (c : Int) (cls : SampleClass) :
    (s.judgedFrom w c cls).holdLeft = s.bfe.holdLeft := by
  unfold State.judgedFrom
  rw [sensorStage_keeps]

theorem State.judgedFrom_settings (s : State) (w : BitVec 16) (c : Int) (cls : SampleClass) :
    (s.judgedFrom w c cls).settings = s.bfe.settings := by
  unfold State.judgedFrom
  rw [sensorStage_keeps]

theorem State.judgedFrom_stillHold (s : State) (w : BitVec 16) (c : Int) (cls : SampleClass) :
    (s.judgedFrom w c cls).stillHold = s.bfe.stillHold := by
  unfold State.judgedFrom
  rw [sensorStage_keeps]
  rfl

theorem judge_acc (cls : SampleClass) (b : Bellows) : (judge cls b).1.acc = b.acc := by rw [judge_keeps]

/-- A held sample reaches no other block (R94 to R96). -/
theorem sampleArrival_held {w : BitVec 16} {s : State} (h : s.bfe.Judges w) (hheld : (s.judges w).2 = .held) :
    sampleArrival w s = (s.fronted (s.judges w).1).arbitrate := by
  rw [sampleArrival_judges h rfl, hheld]
  rfl

/-- Settles O39: stage 5's cases, from the front end behind stage 1 and the tracking. -/
theorem directionIsJudged : Obligations.DirectionIsJudged := by
  unfold Obligations.DirectionIsJudged
  intro w s c cls h hj hc hcls hh
  have hbfe := sampleArrival_judged hj
  have hjudges := State.judges_eq hc hcls
  have hbd := s.judgedFrom_bd w c cls
  have hrun := s.judgedFrom_run w c cls
  have hleft := s.judgedFrom_holdLeft w c cls
  have hsettings := s.judgedFrom_settings w c cls
  have hhold : (s.judgedFrom w c cls).stillHold = h := (s.judgedFrom_stillHold w c cls).trans hh.symm
  have hspeed : s.bfe.settings.speed.factor = (match s.bfe.settings.speed with | .k4 => 16 | .k6 => 4 | .k8 => 1) := by
    cases s.bfe.settings.speed <;> rfl
  refine ⟨sampleArrival w s, rfl, ?_, ?_, fun hsame => ?_, fun hstill => ?_, fun hopp hr => ?_, fun hopp hr => ?_,
    fun hheld => ?_⟩
  · rw [hbfe, hjudges, judge_lastClass]
  · rw [hbfe, hjudges, judge_acc]
    refine Eq.trans (b := s.bfe.tracked s.bsc.held c cls) rfl ?_
    unfold Bellows.tracked
    rw [clampInt_eq_max (by decide), hspeed] <;> rfl
  · have he := judge_same (s.judgedFrom w c cls)
    rw [hbd, ← hsame] at he
    rw [hbfe, hjudges, he]
    exact ⟨rfl, rfl, rfl⟩
  · rw [hbfe, hjudges]
    generalize s.judgedFrom w c cls = b at hbd hhold ⊢
    rw [hstill, judge_still, hhold]
    exact ⟨hbd, rfl, rfl⟩
  · have he := judge_waits (s.judgedFrom w c cls) (by rw [hrun, hsettings]; exact hr)
    rw [hbd, ← hopp] at he
    rw [hbfe, hjudges, he]
    exact ⟨rfl, congrArg (· + 1) hrun, hleft⟩
  · have he := judge_reverses (s.judgedFrom w c cls) (by rw [hrun, hsettings]; exact hr)
    rw [hbd, ← hopp] at he
    rw [hbfe, hjudges, he]
    exact ⟨rfl, rfl, rfl⟩
  · have hkept : (s.judges w).2 = .held := by
      rw [hjudges]
      rcases hheld with ⟨hopp, hr⟩ | ⟨hstill, hpos⟩
      · have he := judge_waits (s.judgedFrom w c cls) (by rw [hrun, hsettings]; exact hr)
        rw [hbd, ← hopp] at he
        rw [he]
      · generalize s.judgedFrom w c cls = b at hhold ⊢
        rw [hstill, judge_still, hhold]
        exact if_pos hpos
    rw [hbfe]
    exact sampleArrival_held hj hkept

end Sys2Proof.Machine

/-! PROOF. A processed sample and a reversal: the dynamics' stages, the tier check, the swells, and the hand-off of a
reversal (R93 to R97, R106 to R115). -/

namespace Sys2Proof.Machine

/-! ## The stages of a processed sample -/

/-- The level after the surge (R108). -/
def Dynamics.surged (m : Nat) (y : Dynamics) : Fin 65536 :=
  if y.settings.tsurge < m ∧ y.holdOffLeft = 0 then
    clampLevel (y.level.val + y.settings.surge) y.settings.floor y.settings.ceil
  else y.level

theorem surgeStage_eq (m : Nat) (y : Dynamics) : surgeStage m y = { y with
    level := y.surged m
    holdOffLeft := if y.settings.tsurge < m ∧ y.holdOffLeft = 0 then y.settings.holdOff else y.holdOffLeft - 1 } := by
  unfold surgeStage Dynamics.surged
  by_cases hsurge : y.settings.tsurge < m ∧ y.holdOffLeft = 0
  · rw [if_pos hsurge, if_pos hsurge, if_pos hsurge]
    rfl
  · rw [if_neg hsurge, if_neg hsurge, if_neg hsurge]
    split
    · rfl
    · next h =>
      have hzero : y.holdOffLeft - 1 = y.holdOffLeft := by omega
      rw [hzero]

theorem windowStage_inside {m : Nat} {y : Dynamics} (h : y.winPos + 1 < 2 ^ y.settings.winShift) :
    windowStage m y = { y with winSum := y.winSum + m, winPos := y.winPos + 1 } := if_pos h

/-- The average that closes a window moves the level (R110). -/
theorem windowStage_ends {m : Nat} {y : Dynamics} (h : 2 ^ y.settings.winShift ≤ y.winPos + 1) :
    windowStage m y = { y with
      winSum := 0, winPos := 0, average := (y.winSum + m) / 2 ^ y.settings.winShift
      level := y.move (windowStep y.settings ((y.winSum + m) / 2 ^ y.settings.winShift)) } :=
  if_neg (Nat.not_lt.mpr h)

theorem smoothStep_eq (s m f : Nat) : (smoothStep s m f : Int) = max 0 (f + ((m : Int) * 16 - f) / 2 ^ s) := by
  unfold smoothStep
  rw [Int.toNat_eq_max, max_comm]
  push_cast
  rfl

/-! ## The tier check's frame -/

/-- A tier check writes the last code posted, the lanes and a pending notice. -/
theorem tierCheck_writes (s : State) : tierCheck s = { s with
    dyn := { s.dyn with lastCode := (tierCheck s).dyn.lastCode }, lanes := (tierCheck s).lanes
    ntu := { s.ntu with slots := (tierCheck s).ntu.slots } } := by
  by_cases h : s.dyn.lastCode = some s.tierCode
  · rw [tierCheck_same h]
  · have hframe := tierCheck_frame_posts h
    generalize tierCheck s = t at hframe ⊢
    rw [hframe]
    rfl

theorem tierCheck_lane_other {s : State} {n : LaneNo} (h : s.lanes[n].state ≠ .live) :
    (tierCheck s).lanes[n] = s.lanes[n] := by
  by_cases hc : s.dyn.lastCode = some s.tierCode
  · rw [tierCheck_same hc]
  · rw [(tierCheck_posts hc).1, if_neg h]

/-! ## The swells -/

/-- What a swell x does to a lane and its last-posted swell (R115). -/
def Lane.swelled (l : Lane) (posted x : Fin 128) (step : Nat) : Lane × Fin 128 :=
  if l.state = .live ∧ swellDue step x posted then
    match l.takeSwell x with
    | some k => (k, x)
    | none => (l, posted)
  else (l, posted)

theorem Lane.swelled_not_live {l : Lane} (posted x : Fin 128) (step : Nat) (h : l.state ≠ .live) :
    l.swelled posted x step = (l, posted) := if_neg fun c => h c.1

theorem Lane.swelled_not_due {l : Lane} {posted x : Fin 128} {step : Nat} (h : swellDue step x posted = false) :
    l.swelled posted x step = (l, posted) := if_neg fun c => Bool.false_ne_true (h.symm.trans c.2)

theorem Lane.swelled_due {l : Lane} {posted x : Fin 128} {step : Nat} (hlive : l.state = .live)
    (h : swellDue step x posted = true) {k : Lane} (hk : l.takeSwell x = some k) :
    l.swelled posted x step = (k, x) := by
  unfold Lane.swelled
  rw [if_pos ⟨hlive, h⟩, hk]

theorem Lane.swelled_full {l : Lane} {x : Fin 128} (posted : Fin 128) (step : Nat) (hk : l.takeSwell x = none) :
    l.swelled posted x step = (l, posted) := by
  unfold Lane.swelled
  rw [hk]
  exact ite_self _

theorem swellDue_iff (step : Nat) (x p : Fin 128) :
    swellDue step x p = true ↔ step ≤ ((x.val : Int) - p.val).natAbs ∨ ((x = 0 ∨ x = 127) ∧ x ≠ p) := by
  have hdistance : ((x.val : Int) - p.val).natAbs = max x.val p.val - min x.val p.val := by omega
  have h0 : x = 0 ↔ x.val = 0 := Fin.ext_iff
  have h127 : x = 127 ↔ x.val = 127 := Fin.ext_iff
  unfold swellDue
  rw [hdistance, h0, h127]
  simp only [Bool.or_eq_true, Bool.and_eq_true, beq_iff_eq, decide_eq_true_eq, bne_iff_ne]

/-- The swell of the expression in force on lane n. -/
def State.swelledLane (s : State) (n : LaneNo) : Lane × Fin 128 :=
  s.lanes[n].swelled s.dyn.lastSwell[n] s.dyn.expr s.dyn.settings.swellStep

theorem postSwell_eq (s : State) (n : LaneNo) : postSwell s n = { s with
    lanes := put s.lanes n (s.swelledLane n).1
    dyn := { s.dyn with lastSwell := put s.dyn.lastSwell n (s.swelledLane n).2 } } := by
  unfold postSwell State.swelledLane Lane.swelled
  simp only []
  split
  · cases s.lanes[n].takeSwell s.dyn.expr with
    | some l => rfl
    | none => simp only [put_same]
  · simp only [put_same]

theorem postSwells_frame (ns : List LaneNo) (s : State) : ns.foldl postSwell s = { s with
    lanes := (ns.foldl postSwell s).lanes
    dyn := { s.dyn with lastSwell := (ns.foldl postSwell s).dyn.lastSwell } } := by
  induction ns generalizing s with
  | nil => rfl
  | cons n ns ih =>
    rw [List.foldl_cons]
    have hframe := ih (postSwell s n)
    generalize ns.foldl postSwell (postSwell s n) = t at hframe ⊢
    rw [hframe, postSwell_eq]

/-- Each lane is offered the swell once, in its own turn (R115). -/
theorem postSwells_lane {ns : List LaneNo} (hns : ns.Nodup) (s : State) (k : LaneNo) :
    ((ns.foldl postSwell s).lanes[k], (ns.foldl postSwell s).dyn.lastSwell[k])
      = if k ∈ ns then s.lanes[k].swelled s.dyn.lastSwell[k] s.dyn.expr s.dyn.settings.swellStep
        else (s.lanes[k], s.dyn.lastSwell[k]) := by
  induction ns generalizing s with
  | nil => exact (if_neg List.not_mem_nil).symm
  | cons n ns ih =>
    obtain ⟨hn, hns⟩ := List.nodup_cons.mp hns
    have hexpr : (postSwell s n).dyn.expr = s.dyn.expr := by rw [postSwell_eq]
    have hstep : (postSwell s n).dyn.settings = s.dyn.settings := by rw [postSwell_eq]
    rw [List.foldl_cons, ih hns, hexpr, hstep]
    by_cases hk : k = n
    · subst hk
      have hlane : (postSwell s k).lanes[k] = (s.swelledLane k).1 := by
        rw [postSwell_eq]
        exact get_put_self _ _ _
      have hposted : (postSwell s k).dyn.lastSwell[k] = (s.swelledLane k).2 := by
        rw [postSwell_eq]
        exact get_put_self _ _ _
      rw [if_neg hn, if_pos List.mem_cons_self, hlane, hposted]
      rfl
    · have hlane : (postSwell s n).lanes[k] = s.lanes[k] := by
        rw [postSwell_eq]
        exact get_put_ne _ _ hk
      have hposted : (postSwell s n).dyn.lastSwell[k] = s.dyn.lastSwell[k] := by
        rw [postSwell_eq]
        exact get_put_ne _ _ hk
      rw [hlane, hposted]
      simp only [List.mem_cons, hk, false_or]

/-! ## The processed sample in its parts -/

/-- The part after surge, window and tier check (R108 to R112). -/
def State.windowed (m : Nat) (s : State) : State := tierCheck (s.setDyn (windowStage m (surgeStage m s.dyn)))

/-- The part before the swells (R113, R114). -/
def State.expressed (m : Nat) (s : State) : State := (s.windowed m).setDyn (expressionStage m (s.windowed m).dyn)

theorem processSample_eq (m : Nat) (s : State) : processSample m s = allLanes.foldl postSwell (s.expressed m) := rfl

theorem windowed_dyn (m : Nat) (s : State) : (s.windowed m).dyn
    = { windowStage m (surgeStage m s.dyn) with lastCode := (s.windowed m).dyn.lastCode } := by
  have hwrites := tierCheck_writes (s.setDyn (windowStage m (surgeStage m s.dyn)))
  unfold State.windowed
  generalize tierCheck (s.setDyn (windowStage m (surgeStage m s.dyn))) = t at hwrites ⊢
  rw [hwrites]
  rfl

theorem windowed_writes (m : Nat) (s : State) : s.windowed m = { s with
    dyn := (s.windowed m).dyn, lanes := (s.windowed m).lanes
    ntu := { s.ntu with slots := (s.windowed m).ntu.slots } } := by
  have hwrites := tierCheck_writes (s.setDyn (windowStage m (surgeStage m s.dyn)))
  unfold State.windowed
  generalize tierCheck (s.setDyn (windowStage m (surgeStage m s.dyn))) = p at hwrites ⊢
  rw [hwrites]
  rfl

/-- The swells write lanes and last-posted swells behind the expression. -/
theorem processSample_swells (m : Nat) (s : State) :
    processSample m s = { s.windowed m with dyn := (processSample m s).dyn, lanes := (processSample m s).lanes }
      ∧ (processSample m s).dyn
        = { expressionStage m (s.windowed m).dyn with lastSwell := (processSample m s).dyn.lastSwell } := by
  have hframe := postSwells_frame allLanes (s.expressed m)
  rw [← processSample_eq] at hframe
  generalize processSample m s = t at hframe ⊢
  rw [hframe]
  exact ⟨rfl, rfl⟩

theorem processSample_lane (m : Nat) (s : State) (n : LaneNo) :
    ((processSample m s).lanes[n], (processSample m s).dyn.lastSwell[n])
      = (s.windowed m).lanes[n].swelled (s.windowed m).dyn.lastSwell[n]
        (expressionStage m (s.windowed m).dyn).expr (s.windowed m).dyn.settings.swellStep := by
  rw [processSample_eq, postSwells_lane (by decide), if_pos (mem_allLanes n)]
  rfl

end Sys2Proof.Machine

/-! PROOF. A processed sample moves the dynamics (R93, R94, R106 to R115). -/

namespace Sys2Proof.Machine

theorem windowStage_keeps (m : Nat) (y : Dynamics) : windowStage m y = { y with
    winSum := (windowStage m y).winSum, winPos := (windowStage m y).winPos
    average := (windowStage m y).average, level := (windowStage m y).level } := by
  rcases Nat.lt_or_ge (y.winPos + 1) (2 ^ y.settings.winShift) with h | h
  · rw [windowStage_inside h]
  · rw [windowStage_ends h]

/-- Surge and window write the level, the hold-off and the window's own registers. -/
theorem window_surge_keeps (m : Nat) (y : Dynamics) : windowStage m (surgeStage m y) = { y with
    level := (windowStage m (surgeStage m y)).level
    holdOffLeft := if y.settings.tsurge < m ∧ y.holdOffLeft = 0 then y.settings.holdOff else y.holdOffLeft - 1
    winSum := (windowStage m (surgeStage m y)).winSum, winPos := (windowStage m (surgeStage m y)).winPos
    average := (windowStage m (surgeStage m y)).average } := by
  have hwindow := windowStage_keeps m (surgeStage m y)
  generalize windowStage m (surgeStage m y) = z at hwindow ⊢
  rw [hwindow, surgeStage_eq]

theorem window_surge_inside {m : Nat} {y : Dynamics} (h : y.winPos + 1 < 2 ^ y.settings.winShift) :
    (windowStage m (surgeStage m y)).level = y.surged m
      ∧ (windowStage m (surgeStage m y)).winSum = y.winSum + m
      ∧ (windowStage m (surgeStage m y)).winPos = y.winPos + 1
      ∧ (windowStage m (surgeStage m y)).average = y.average := by
  rw [surgeStage_eq, windowStage_inside (by exact h)]
  exact ⟨rfl, rfl, rfl, rfl⟩

theorem window_surge_ends {m : Nat} {y : Dynamics} (h : 2 ^ y.settings.winShift ≤ y.winPos + 1) :
    (windowStage m (surgeStage m y)).winSum = 0 ∧ (windowStage m (surgeStage m y)).winPos = 0
      ∧ (windowStage m (surgeStage m y)).average = (y.winSum + m) / 2 ^ y.settings.winShift
      ∧ (windowStage m (surgeStage m y)).level
        = clampLevel ((y.surged m).val + windowStep y.settings ((y.winSum + m) / 2 ^ y.settings.winShift))
          y.settings.floor y.settings.ceil := by
  rw [surgeStage_eq, windowStage_ends (by exact h)]
  exact ⟨rfl, rfl, rfl, rfl⟩

theorem State.fronted_frame (s : State) (b : Bellows) :
    s.fronted b = { s with bfe := b, ntu := { s.ntu with slots := (s.fronted b).ntu.slots } } := by
  unfold State.fronted
  split_ifs <;> rfl

theorem State.fronted_dyn (s : State) (b : Bellows) : (s.fronted b).dyn = s.dyn := by rw [State.fronted_frame]

theorem State.fronted_lanes (s : State) (b : Bellows) : (s.fronted b).lanes = s.lanes := by rw [State.fronted_frame]

/-- A sample of the class of BD, or a STILL one with no hold left, is processed (R93, R94). -/
theorem State.judges_processed {s : State} {w : BitVec 16} {c : Int}
    (hc : c = max (-32768) (min 32767 (w.toInt - s.bfe.acc / 256)))
    (h : (s.bfe.bd = .push ∧ (s.bfe.settings.still : Int) < c) ∨ (s.bfe.bd = .pull ∧ c < -(s.bfe.settings.still : Int))
      ∨ (-(s.bfe.settings.still : Int) ≤ c ∧ c ≤ s.bfe.settings.still ∧ s.bfe.stillHold = 0)) :
    (s.judges w).2 = .processed := by
  obtain ⟨cls, hcls⟩ : ∃ cls : SampleClass, cls = if (s.bfe.settings.still : Int) < c then .push
      else if c < -(s.bfe.settings.still : Int) then .pull else .still := ⟨_, rfl⟩
  rw [State.judges_eq hc hcls]
  have hbd := s.judgedFrom_bd w c cls
  have hhold := s.judgedFrom_stillHold w c cls
  have hsame (hdir : cls = s.bfe.bd.asClass) : (judge cls (s.judgedFrom w c cls)).2 = .processed := by
    have he := judge_same (s.judgedFrom w c cls)
    rw [hbd, ← hdir] at he
    rw [he]
  rcases h with ⟨hdir, hpush⟩ | ⟨hdir, hpull⟩ | ⟨hlow, hhigh, hzero⟩
  · exact hsame (by rw [hcls, if_pos hpush, hdir]; rfl)
  · exact hsame (by rw [hcls, if_neg (by omega), if_pos hpull, hdir]; rfl)
  · have hstill : cls = .still := by rw [hcls, if_neg (by omega), if_neg (by omega)]
    generalize s.judgedFrom w c cls = b at hhold ⊢
    rw [hstill, judge_still, hhold, hzero]
    rfl

/-- The dynamics behind a processed sample, beside the codes and swells posted (R106). -/
theorem processSample_dyn (m : Nat) (u : State) : (processSample m u).dyn
    = { expressionStage m (windowStage m (surgeStage m u.dyn)) with
        lastCode := (processSample m u).dyn.lastCode, lastSwell := (processSample m u).dyn.lastSwell } := by
  have hswells := (processSample_swells m u).2
  rw [windowed_dyn] at hswells
  generalize (processSample m u).dyn = y at hswells ⊢
  rw [hswells]
  rfl

/-- What a swell does to a LIVE lane (R115, R148). -/
theorem Lane.swelled_offered {l : Lane} {posted x : Fin 128} {step : Nat} (hlive : l.state = .live)
    (hdue : swellDue step x posted = true) :
    (∀ (before after : List LaneRecord) (q : LaneRecord), l.unsent = before ++ q :: after → q.isSwell = true →
        (∀ r ∈ before, r.isSwell = false) →
        l.swelled posted x step = ({ l with queue := l.sent ++ before ++ .swell x :: after }, x))
      ∧ ((∀ r ∈ l.unsent, r.isSwell = false) →
        if l.queue.length < 32 then (l.swelled posted x step).1.queue = l.queue ++ [.swell x]
          ∧ (l.swelled posted x step).2 = x
        else l.swelled posted x step = (l, posted)) := by
  refine ⟨fun before after q hu hq hb => ?_, fun hno => ?_⟩
  · exact Lane.swelled_due hlive hdue (Lane.takeUpdate_replaces _ hu hq hb)
  · have htail := Lane.takeUpdate_tail (.swell x) hno
    by_cases hroom : l.queue.length < 32
    · rw [if_neg (Nat.not_le.mpr hroom)] at htail
      rw [if_pos hroom, Lane.swelled_due hlive hdue htail]
      exact ⟨Lane.append_queue _ _, rfl⟩
    · rw [if_pos (Nat.not_lt.mp hroom)] at htail
      rw [if_neg hroom]
      exact Lane.swelled_full _ _ htail

/-- Settles O40: the stages in their order, the tier check between the window and the expression, and the swells last. -/
theorem processedSampleMovesTheDynamics : Obligations.ProcessedSampleMovesTheDynamics := by
  unfold Obligations.ProcessedSampleMovesTheDynamics
  intro w s c m l1 a hj hc hm hcase hl1 ha
  have hbfe := sampleArrival_judged hj
  have hstart : sampleArrival w s = (processSample m (s.fronted (s.judges w).1)).arbitrate := by
    rw [sampleArrival_judges hj hc, State.judges_processed hc hcase, hm]
    rfl
  have hudyn := s.fronted_dyn (s.judges w).1
  have hulanes := s.fronted_lanes (s.judges w).1
  have huframe := s.fronted_frame (s.judges w).1
  have hu : (if s.bfe.sensor = .ok then ({ s with bfe := (s.judges w).1 } : State)
      else ({ s with bfe := (s.judges w).1 } : State).raise (.sensor .ok)) = s.fronted (s.judges w).1 := rfl
  refine ⟨sampleArrival w s, rfl, ?_⟩
  rw [hbfe, hu]
  generalize s.fronted (s.judges w).1 = u at hstart hudyn hulanes huframe
  obtain ⟨hframe, hswells⟩ := processSample_swells m u
  have hdyn := processSample_dyn m u
  have hlane := processSample_lane m u
  have hwindowed := windowed_dyn m u
  have htier : TierChecked (u.setDyn (windowStage m (surgeStage m u.dyn))) (u.windowed m) := tierCheck_tierChecked _
  have hother (n : LaneNo) (h : u.lanes[n].state ≠ .live) : (u.windowed m).lanes[n] = u.lanes[n] :=
    tierCheck_lane_other (s := u.setDyn (windowStage m (surgeStage m u.dyn))) h
  have hwrites := windowed_writes m u
  have htdyn : (sampleArrival w s).dyn = (processSample m u).dyn := by rw [hstart, State.arbitrate_dyn]
  have htlanes : (sampleArrival w s).lanes = (processSample m u).lanes := by rw [hstart, State.arbitrate_lanes]
  have harbiter := State.arbitrate_frame (processSample m u)
  rw [← hstart] at harbiter
  rw [hudyn] at hdyn hwindowed htier
  have hkept := window_surge_keeps m s.dyn
  have hinside := window_surge_inside (m := m) (y := s.dyn)
  have hends := window_surge_ends (m := m) (y := s.dyn)
  have hlevel : s.dyn.surged m = l1 := hl1.symm
  rw [hlevel] at hinside hends
  rw [← ha] at hends
  generalize windowStage m (surgeStage m s.dyn) = y at hdyn hwindowed htier hkept hinside hends
  refine ⟨?_, fun h => ?_, fun h => ?_, ?_, ?_, ?_, ?_, ?_⟩
  · rw [htdyn, hdyn, hkept]
    rfl
  · rw [htdyn, hdyn]
    exact hinside h
  · rw [htdyn, hdyn]
    exact hends h
  · rw [htdyn, hdyn, hkept]
    exact smoothStep_eq _ _ _
  · rw [htdyn, hdyn, hkept]
    rfl
  · rw [htdyn, hdyn, hkept]
    rfl
  · intro v hv
    rw [hv]
    have hexpr : (sampleArrival w s).dyn.expr = (expressionStage m (u.windowed m).dyn).expr := by rw [htdyn, hswells]
    have hstep : (u.windowed m).dyn.settings.swellStep = s.dyn.settings.swellStep := by rw [hwindowed, hkept]
    have hposted (n : LaneNo) : (u.windowed m).dyn.lastSwell[n] = s.dyn.lastSwell[n] := by rw [hwindowed, hkept]
    have hpair (n : LaneNo) : ((sampleArrival w s).lanes[n], (sampleArrival w s).dyn.lastSwell[n])
        = (u.windowed m).lanes[n].swelled s.dyn.lastSwell[n] (sampleArrival w s).dyn.expr s.dyn.settings.swellStep := by
      rw [htlanes, hexpr, ← hposted n, ← hstep, ← hlane n, htdyn]
    have hstate (n : LaneNo) : (u.windowed m).lanes[n].state = s.lanes[n].state := by
      have hkeeps := ((tierCheck_frame (u.setDyn (windowStage m (surgeStage m u.dyn)))).2 n).1
      rw [← hulanes]
      exact hkeeps
    refine ⟨u.windowed m, ?_, ?_, ?_, fun n hn => ?_, fun n due hlive hdue => ⟨fun hno => ?_, fun hyes => ?_,
      fun hyes => ?_⟩⟩
    · have hstart : u.setDyn y = { u with dyn := { s.dyn with
          level := (sampleArrival w s).dyn.level, holdOffLeft := (sampleArrival w s).dyn.holdOffLeft
          winSum := (sampleArrival w s).dyn.winSum, winPos := (sampleArrival w s).dyn.winPos
          average := (sampleArrival w s).dyn.average } } := by
        rw [htdyn, hdyn]
        conv => lhs; rw [hkept]
        rw [hkept]
        rfl
      rw [← hstart]
      exact htier
    · rw [htdyn]
      generalize (processSample m u).dyn = z at hswells ⊢
      rw [hswells]
      rfl
    · rw [htdyn, htlanes, ← hframe]
      exact hstart
    · have hp := hpair n
      rw [hother n (by rw [hulanes]; exact hn), hulanes, Lane.swelled_not_live _ _ _ hn] at hp
      exact Prod.mk.inj hp
    · have hp := hpair n
      rw [Lane.swelled_not_due (Bool.eq_false_iff.mpr fun c => hno (hdue.mpr ((swellDue_iff _ _ _).mp c)))] at hp
      exact Prod.mk.inj hp
    · intro before after q hu hq hb
      have hp := hpair n
      rw [(Lane.swelled_offered ((hstate n).trans hlive) ((swellDue_iff _ _ _).mpr (hdue.mp hyes))).1
        before after q hu hq hb] at hp
      exact Prod.mk.inj hp
    · intro hnone
      obtain ⟨htlane, htposted⟩ := Prod.mk.inj (hpair n)
      have htail := (Lane.swelled_offered ((hstate n).trans hlive)
        ((swellDue_iff _ _ _).mpr (hdue.mp hyes))).2 hnone
      rw [htlane, htposted]
      by_cases hroom : (u.windowed m).lanes[n].queue.length < 32
      · exact (if_pos hroom).mpr ((if_pos hroom).mp htail)
      · have hsame := (if_neg hroom).mp htail
        exact (if_neg hroom).mpr ⟨congrArg Prod.fst hsame, congrArg Prod.snd hsame⟩
  · have hend : sampleArrival w s = { u.windowed m with
        dyn := (sampleArrival w s).dyn, lanes := (sampleArrival w s).lanes
        ntu := { (u.windowed m).ntu with slots := (sampleArrival w s).ntu.slots }
        mlk := { (u.windowed m).mlk with output := (sampleArrival w s).mlk.output } } := by
      rw [htdyn, htlanes]
      generalize sampleArrival w s = t at harbiter ⊢
      generalize processSample m u = q at hframe harbiter ⊢
      generalize u.windowed m = p at hframe ⊢
      rw [harbiter, hframe]
    generalize sampleArrival w s = t at hend ⊢
    rw [hend]
    generalize u.windowed m = p at hwrites ⊢
    rw [hwrites, huframe]

end Sys2Proof.Machine

/-! PROOF. A reversal: the cue first, then the re-expansion under the new BD, REVERSAL, and the dynamics (R95, R96). -/

namespace Sys2Proof.Machine

/-! ## What a processed sample leaves alone -/

theorem processSample_writes (m : Nat) (s : State) : processSample m s = { s with
    dyn := (processSample m s).dyn, lanes := (processSample m s).lanes
    ntu := { s.ntu with slots := (processSample m s).ntu.slots } } := by
  have hswells := (processSample_swells m s).1
  have hwindowed := windowed_writes m s
  generalize processSample m s = t at hswells ⊢
  generalize s.windowed m = p at hswells hwindowed
  rw [hswells, hwindowed]

theorem processSample_keepsNotices (m : Nat) (s : State) : KeepsNotices s (processSample m s) := by
  have htier : KeepsNotices s (s.windowed m) :=
    (KeepsNotices.of_ntu (t := s.setDyn (windowStage m (surgeStage m s.dyn))) rfl).trans (tierCheck_keepsNotices _)
  refine htier.trans (.of_ntu ?_)
  rw [(processSample_swells m s).1]

theorem Lane.swelled_keeps (l : Lane) (posted x : Fin 128) (step : Nat) :
    (l.swelled posted x step).1.state = l.state ∧ (l.swelled posted x step).1.timeout = l.timeout
      ∧ (l.swelled posted x step).1.ready = l.ready := by
  unfold Lane.swelled
  split
  · cases h : l.takeSwell x with
    | some k =>
      obtain ⟨hstate, -, htimeout, hready⟩ := Lane.takeUpdate_keeps h
      exact ⟨hstate, htimeout, hready⟩
    | none => exact ⟨rfl, rfl, rfl⟩
  · exact ⟨rfl, rfl, rfl⟩

theorem KeepsLaneStates.trans {s t u : State} (h : KeepsLaneStates s t) (h' : KeepsLaneStates t u) :
    KeepsLaneStates s u := fun n => by
  obtain ⟨hstate, htimeout, hready⟩ := h n
  obtain ⟨hstate', htimeout', hready'⟩ := h' n
  exact ⟨hstate'.trans hstate, htimeout'.trans htimeout, hready'.trans hready⟩

theorem KeepsLaneStates.of_lanes {s t : State} (h : t.lanes = s.lanes) : KeepsLaneStates s t := fun n => by
  rw [h]
  exact ⟨rfl, rfl, rfl⟩

theorem processSample_keepsLaneStates (m : Nat) (s : State) : KeepsLaneStates s (processSample m s) := by
  have htier : KeepsLaneStates s (s.windowed m) := (tierCheck_frame (s.setDyn (windowStage m (surgeStage m s.dyn)))).2
  refine htier.trans fun n => ?_
  have hlane := congrArg Prod.fst (processSample_lane m s n)
  have hkept := (s.windowed m).lanes[n].swelled_keeps (s.windowed m).dyn.lastSwell[n]
    (expressionStage m (s.windowed m).dyn).expr (s.windowed m).dyn.settings.swellStep
  rw [← hlane] at hkept
  exact hkept

/-! ## What a trigger leaves alone -/

theorem triggerCue_cases (t : Trigger) (s : State) : triggerCue t s = s ∨ ∃ c, s.sst.armed = some c
    ∧ ((s.sst.library[c.target].state = .valid ∧ triggerCue t s = fireArmed c t s)
      ∨ triggerCue t s = s.disarm.raise (.cue false c.target t)) := by
  by_cases h : ∀ c ∈ s.sst.armed, c.triggers.getLsbD t.bit = false
  · exact .inl (triggerCue_no_trigger h)
  · simp only [Option.mem_def, not_forall, Bool.not_eq_false] at h
    obtain ⟨c, hc, ht⟩ := h
    refine .inr ⟨c, hc, ?_⟩
    rw [triggerCue_fires hc ht]
    by_cases hvalid : s.sst.library[c.target].state = .valid
    · exact .inl ⟨hvalid, rfl⟩
    · exact .inr (fireArmed_failed t hvalid)

theorem triggerCue_voiced (t : Trigger) (s : State) (x : Crosspoint) :
    (triggerCue t s).vtb.voicedAs[x] = none ↔ s.vtb.voicedAs[x] = none := by
  rcases triggerCue_cases t s with h | ⟨c, -, ⟨hvalid, h⟩ | h⟩ <;> rw [h]
  · exact fireArmed_voiced t hvalid x
  · rfl

theorem triggerCue_keepsLaneStates (t : Trigger) (s : State) : KeepsLaneStates s (triggerCue t s) := by
  rcases triggerCue_cases t s with h | ⟨c, -, ⟨hvalid, h⟩ | h⟩ <;> rw [h]
  · exact .of_lanes rfl
  · exact (fireArmed_frame t hvalid).2
  · exact .of_lanes rfl

/-! ## The reversal -/

theorem State.judges_reversal {s : State} {w : BitVec 16} {c : Int}
    (hc : c = max (-32768) (min 32767 (w.toInt - s.bfe.acc / 256)))
    (h : s.bfe.bd = .push ∧ c < -(s.bfe.settings.still : Int) ∨ s.bfe.bd = .pull ∧ (s.bfe.settings.still : Int) < c)
    (hrun : s.bfe.settings.confirm ≤ s.bfe.run + 1) :
    (s.judges w).2 = .reversal ∧ (s.judges w).1.bd = s.bfe.bd.opposite := by
  obtain ⟨cls, hcls⟩ : ∃ cls : SampleClass, cls = if (s.bfe.settings.still : Int) < c then .push
      else if c < -(s.bfe.settings.still : Int) then .pull else .still := ⟨_, rfl⟩
  have hopposite : cls = s.bfe.bd.opposite.asClass := by
    rcases h with ⟨hdir, hpull⟩ | ⟨hdir, hpush⟩
    · rw [hcls, if_neg (by omega), if_pos hpull, hdir]
      rfl
    · rw [hcls, if_pos hpush, hdir]
      rfl
  have hbd := s.judgedFrom_bd w c cls
  have he := judge_reverses (s.judgedFrom w c cls)
    (by rw [s.judgedFrom_run, s.judgedFrom_settings]; exact hrun)
  rw [hbd, ← hopposite] at he
  rw [State.judges_eq hc hcls, he]
  exact ⟨rfl, rfl⟩

/-- The hand-off of a reversal: the trigger, the re-expansion, REVERSAL, and the sample (R96). -/
theorem handOff_reversal (m : Nat) (u : State) :
    handOff .reversal m u
      = processSample m ((reversalReexpand (triggerCue .reversal u)).raise (.reversal u.bfe.bd)) := by
  have hbd : (reversalReexpand (triggerCue .reversal u)).bfe.bd = u.bfe.bd := by
    rw [(reversalReexpand_voiceWork _).1]
    exact congrArg Bellows.bd (triggerCue_playing .reversal u).bfe
  unfold handOff handReversal
  simp only [hbd]

/-- Settles O41: the hand-off's parts in their order. -/
theorem reversalReexpandsVoicedKeys : Obligations.ReversalReexpandsVoicedKeys := by
  unfold Obligations.ReversalReexpandsVoicedKeys
  intro w s c hj hc hdir hrun
  have hbfe := sampleArrival_judged hj
  obtain ⟨hreversal, hbd⟩ := State.judges_reversal hc hdir hrun
  have hstart := sampleArrival_judges hj hc
  rw [hreversal, handOff_reversal, State.fronted_bfe, hbd] at hstart
  have huframe := s.fronted_frame (s.judges w).1
  have hu : (if s.bfe.sensor = .ok then ({ s with bfe := (s.judges w).1 } : State)
      else ({ s with bfe := (s.judges w).1 } : State).raise (.sensor .ok)) = s.fronted (s.judges w).1 := rfl
  refine ⟨sampleArrival w s, rfl, ?_⟩
  rw [hbfe, hu]
  generalize s.fronted (s.judges w).1 = u at hstart huframe
  generalize hm : min c.natAbs 32767 = m at hstart
  have hvtb : (sampleArrival w s).vtb = (reversalReexpand (triggerCue .reversal u)).vtb := by
    rw [hstart, State.arbitrate_vtb, processSample_vtb, State.raise_vtb]
  have hsst : (sampleArrival w s).sst = (triggerCue .reversal u).sst := by
    rw [hstart, State.arbitrate_sst, processSample_writes, State.raise_sst, (reversalReexpand_voiceWork _).1]
  have hubd : u.bfe.bd = s.bfe.bd.opposite := by
    rw [huframe]
    exact hbd
  refine ⟨hbd, fun v hv => ?_, fun x => ?_, fun hbusy => ?_, fun hno => ?_, ?_⟩
  · rw [hv]
    exact ⟨hstart, hvtb, hsst⟩
  · have hcued : (triggerCue .reversal u).bfe.bd = s.bfe.bd.opposite :=
      (congrArg Bellows.bd (triggerCue_playing .reversal u).bfe).trans hubd
    have hvoiced : (triggerCue .reversal u).vtb.voicedAs[x] = none ↔ s.vtb.voicedAs[x] = none := by
      rw [triggerCue_voiced, huframe]
    rw [hvtb, reversalReexpand_eq, reexpand_voicedAs, hcued]
    simp only [List.mem_filter, List.mem_finRange, true_and, decide_eq_true_eq]
    by_cases h : s.vtb.voicedAs[x] = none
    · rw [if_pos h, if_neg (not_not.mpr (hvoiced.mpr h))]
      exact hvoiced.mpr h
    · rw [if_neg h, if_pos (mt hvoiced.mp h)]
  · have hraised := State.raise_noticed (reversalReexpand (triggerCue .reversal u)) (.reversal s.bfe.bd.opposite)
      (k := 9) rfl
    have hkept := processSample_keepsNotices m
      ((reversalReexpand (triggerCue .reversal u)).raise (.reversal s.bfe.bd.opposite)) 9
      (by decide) (by decide) (by decide)
    have hmlk : u.mlk = s.mlk := by rw [huframe]
    have houtput : (processSample m ((reversalReexpand (triggerCue .reversal u)).raise
        (.reversal s.bfe.bd.opposite))).mlk.output ≠ .idle := by
      rw [processSample_writes, State.raise_mlk, (reversalReexpand_voiceWork _).1, (triggerCue_playing .reversal u).mlk,
        hmlk]
      exact hbusy
    rw [hstart, State.arbitrate_busy houtput, hkept]
    exact hraised
  · have hfires : triggerCue .reversal u = u := triggerCue_no_trigger fun q hq => hno q (by rwa [huframe] at hq)
    rw [hfires] at hstart hvtb
    have hreexpanded := (reversalReexpand_voiceWork u).1
    generalize reversalReexpand u = r at hstart hvtb hreexpanded
    have hprocessed := processSample_writes m (r.raise (.reversal s.bfe.bd.opposite))
    generalize processSample m (r.raise (.reversal s.bfe.bd.opposite)) = q at hstart hprocessed
    have harbiter := State.arbitrate_frame q
    rw [← hstart] at harbiter
    generalize sampleArrival w s = t at harbiter ⊢
    have hq : q = { s with
        bfe := (s.judges w).1, dyn := q.dyn, vtb := r.vtb, lanes := q.lanes
        ntu := { s.ntu with slots := q.ntu.slots } } := by
      refine hprocessed.trans ?_
      generalize q.dyn = y
      generalize q.lanes = lanes
      generalize q.ntu.slots = slots
      change ({ r with dyn := y, lanes := lanes, ntu := { r.ntu with slots := slots } } : State) = _
      rw [hreexpanded, huframe]
    rw [harbiter, hq]
  · have hkeeps : KeepsLaneStates s u := .of_lanes (by rw [huframe])
    have hcued := hkeeps.trans (triggerCue_keepsLaneStates .reversal u)
    have hreexpanded : KeepsLaneStates s (reversalReexpand (triggerCue .reversal u)) :=
      hcued.trans (reversalReexpand_voiceWork _).2
    have hraised : KeepsLaneStates s
        ((reversalReexpand (triggerCue .reversal u)).raise (.reversal s.bfe.bd.opposite)) := hreexpanded
    refine (hraised.trans (processSample_keepsLaneStates m _)).trans (.of_lanes ?_)
    rw [hstart, State.arbitrate_lanes]

end Sys2Proof.Machine

/-! PROOF. What the playing work keeps, said once: a property that reads voices, lanes and Silencing Control, and that
each piece of the voices' work keeps, is kept by transfers, cues, overrides and changes handed on (spec 01, 03, 04, 07). -/

namespace Sys2Proof.Machine

/-! ## Transfers, cues and settings -/

/-- Between two states nothing differs that the voices' work leaves behind or that the scanner gives it: the voices, the
lanes, Silencing Control, the debounced states, the roles and BD. -/
structure SameWork (s t : State) : Prop where
  vtb : t.vtb = s.vtb
  lanes : t.lanes = s.lanes
  slc : t.slc = s.slc
  buttons : t.bsc.buttons = s.bsc.buttons
  roles : t.bsc.roles = s.bsc.roles
  bd : t.bfe.bd = s.bfe.bd

/-- A property that the voices' work of transfers and settings keeps. -/
structure KeptByVoiceWork (P : State → Prop) : Prop where
  same : ∀ {s t}, P s → SameWork s t → P t
  tierCheck : ∀ {s}, P s → P (tierCheck s)
  sectionReexpand : ∀ {s} p, P s → P (sectionReexpand p s)
  layersTransferred : ∀ {s}, P s → P (layersTransferred s)

section
variable {P : State → Prop} (h : KeptByVoiceWork P) {s : State}
include h

theorem KeptByVoiceWork.raise (hs : P s) (n : Notice) : P (s.raise n) := h.same hs ⟨rfl, rfl, rfl, rfl, rfl, rfl⟩

theorem KeptByVoiceWork.setSst (hs : P s) (c : SceneStore) : P (s.setSst c) := h.same hs ⟨rfl, rfl, rfl, rfl, rfl, rfl⟩

theorem KeptByVoiceWork.setStack (hs : P s) (l : List StackEntry) : P (s.setStack l) :=
  h.same hs ⟨rfl, rfl, rfl, rfl, rfl, rfl⟩

theorem KeptByVoiceWork.setSettings (hs : P s) (a : Settings) : P (s.setSettings a) :=
  h.same hs ⟨rfl, rfl, rfl, rfl, rfl, rfl⟩

theorem KeptByVoiceWork.transfer (hs : P s) (n : SceneNo) (items : BitVec 3) (separate : Bool) :
    P (transfer n items separate s) := by
  have hset : P (s.setLive (s.sst.live.writeItems n s.sst.library[n] items)) := h.same hs ⟨rfl, rfl, rfl, rfl, rfl, rfl⟩
  have hwritten : P (transferWritten n items s) := by
    unfold transferWritten
    split
    · exact h.tierCheck hset
    · exact hset
  rw [transfer_eq]
  split
  · exact h.layersTransferred hwritten
  · split
    · exact h.sectionReexpand _ hwritten
    · exact hwritten

theorem KeptByVoiceWork.fireArmed (hs : P s) (c : Cue) (t : Trigger) : P (fireArmed c t s) := by
  have hdisarmed : P s.disarm := h.setSst hs _
  refine h.raise ?_ _
  split
  · exact h.transfer hdisarmed _ _ _
  · exact hdisarmed

theorem KeptByVoiceWork.triggerCue (hs : P s) (t : Trigger) : P (triggerCue t s) := by
  rcases triggerCue_cases t s with e | ⟨c, -, ⟨-, e⟩ | e⟩ <;> rw [e]
  · exact hs
  · exact h.fireArmed hs c t
  · exact h.raise (h.setSst hs _) _

theorem KeptByVoiceWork.applySettings (hs : P s) (a : Settings) : P (applySettings a s) :=
  h.sectionReexpand _ (h.setSettings hs a)

theorem KeptByVoiceWork.selectRegisterIn (hs : P s) (c : Sect) (n : RegNo) : P (selectRegisterIn c n s) := by
  unfold Machine.selectRegisterIn
  split
  · exact hs
  · exact h.sectionReexpand _ (h.setSettings hs _)

theorem KeptByVoiceWork.pushEntry (hs : P s) (tag : Fin 8) (d : OverrideDef) : P (pushEntry tag d s) := by
  unfold Machine.pushEntry
  cases d.target with
  | some n => exact h.setSettings (h.applySettings (h.transfer (h.setStack hs _) n layersAndMap true) _) _
  | none => exact h.setSettings (h.applySettings (h.setStack hs _) _) _

theorem KeptByVoiceWork.switchPush (hs : P s) (n : Fin 4) : P (switchPush n s) := by
  unfold Machine.switchPush
  simp only []
  split_ifs
  · exact h.setStack hs _
  · exact h.raise hs _
  · exact h.pushEntry hs _ _
  · exact h.raise hs _

theorem KeptByVoiceWork.restoreSettings (hs : P s) (d : StackEntry) : P (restoreSettings d s) :=
  h.setSettings (h.applySettings hs _) _

/-- A restore keeps the property, or the part halts with the stack as it was and OVERRIDE raised (R129, R130, R138). -/
theorem KeptByVoiceWork.restoreContext (hs : P s) (first deepest : StackEntry) (replaced : Bool) :
    P (restoreContext first deepest replaced s).1
      ∨ (restoreContext first deepest replaced s).1 = haltPart (s.raise (.override .fallback first.tag)) := by
  unfold Machine.restoreContext
  split
  · split
    · exact .inl (h.restoreSettings (h.transfer hs _ _ _) _)
    · simp only []
      split
      · exact .inl (h.restoreSettings (h.transfer (h.raise hs _) _ _ _) _)
      · exact .inr rfl
  · exact .inl (h.restoreSettings hs _)

/-- A pop keeps the property, or the part halts. -/
theorem KeptByVoiceWork.popTop (hs : P s) (first : StackEntry) (below : List StackEntry) :
    P (popTop first below s).1 ∨ ∃ u, P u ∧ (popTop first below s).1 = haltPart u := by
  have hset := h.setStack hs (below.dropWhile fun e => e.released)
  rcases h.restoreContext hset first ((first :: below.takeWhile fun e => e.released).getLast (List.cons_ne_nil _ _))
    ((first :: below.takeWhile fun e => e.released).any fun e => e.sceneReplaced) with hkept | hhalts
  · exact .inl hkept
  · exact .inr ⟨_, h.raise hset _, hhalts⟩

theorem KeptByVoiceWork.switchRelease (hs : P s) (n : Fin 4) :
    P (switchRelease n s) ∨ ∃ u, P u ∧ switchRelease n s = haltPart u := by
  unfold Machine.switchRelease
  simp only []
  split
  · exact .inl hs
  · split_ifs
    · exact h.popTop hs _ _
    · exact .inl (h.setStack hs _)
    · exact .inl hs

end

/-! ## Changes handed on -/

theorem ite_keeps {P : State → Prop} {c : Prop} [Decidable c] {s t : State} (hs : P s) (ht : P t) :
    P (if c then s else t) := by
  split
  · exact hs
  · exact ht

/-- A property that all of the playing work keeps. -/
structure KeptByWork (P : State → Prop) : Prop extends KeptByVoiceWork P where
  pressKey : ∀ {s} x, P s → s.holdsKey x = true → P (pressKey s x)
  releaseKey : ∀ {s} x, P s → P (releaseKey s x)
  writeEnable : ∀ {s} e sh, P s → P (writeEnable e sh s)
  haltPart : ∀ {s}, P s → P (haltPart s)

section
variable {P : State → Prop} (h : KeptByWork P) {s : State}
include h

theorem KeptByWork.popTop (hs : P s) (first : StackEntry) (below : List StackEntry) :
    P (popTop first below s).1 := by
  rcases h.toKeptByVoiceWork.popTop hs first below with hkept | ⟨u, hu, e⟩
  · exact hkept
  · rw [e]
    exact h.haltPart hu

theorem KeptByWork.switchRelease (hs : P s) (n : Fin 4) : P (switchRelease n s) := by
  rcases h.toKeptByVoiceWork.switchRelease hs n with hkept | ⟨u, hu, e⟩
  · exact hkept
  · rw [e]
    exact h.haltPart hu

/-- A change of a playing key (R6, R7). -/
theorem KeptByWork.keyChange (hs : P s) (x : Crosspoint) (press : Bool) (hplays : s.bsc.roles[x].plays = true)
    (hx : press = true → s.bsc.buttons[x].pressed = true) :
    P (if s.isHalted then s else if press then Machine.pressKey s x else Machine.releaseKey s x) := by
  split
  · exact hs
  · split
    · next hp => exact h.pressKey x hs (Bool.and_eq_true_iff.mpr ⟨hx hp, hplays⟩)
    · exact h.releaseKey x hs

theorem KeptByWork.routeChange (hs : P s) (x : Crosspoint) (press : Bool)
    (hx : press = true → s.bsc.buttons[x].pressed = true) : P (routeChange x press s) := by
  have hset (b : Scanner) (hbuttons : b.buttons = s.bsc.buttons) (hroles : b.roles = s.bsc.roles) : P (s.setBsc b) :=
    h.same hs ⟨rfl, rfl, rfl, hbuttons, hroles, rfl⟩
  have hkey := h.keyChange hs x press
  unfold Machine.routeChange
  cases hrole : s.bsc.roles[x] with
  | none => exact hs
  | override n =>
    have hmoved := hset (s.bsc.occupied press (.override n)) rfl rfl
    exact ite_keeps hmoved (ite_keeps (ite_keeps (h.switchPush hmoved n) hmoved)
      (ite_keeps (h.switchRelease hmoved n) hmoved))
  | hush =>
    have hmoved := hset (s.bsc.occupied press .hush) rfl rfl
    exact ite_keeps hmoved (ite_keeps (ite_keeps (h.writeEnable _ _ hmoved) hmoved)
      (ite_keeps (h.writeEnable _ _ hmoved) hmoved))
  | treble k => exact hkey (by rw [hrole]; rfl) hx
  | bass c r => exact hkey (by rw [hrole]; rfl) hx
  | trebleRegister n => exact ite_keeps (h.selectRegisterIn hs _ _) hs
  | bassRegister n => exact ite_keeps (h.selectRegisterIn hs _ _) hs
  | cue => exact ite_keeps (h.triggerCue hs _) hs

theorem KeptByWork.handOn (hs : P s) (x : Crosspoint) (press : Bool)
    (hx : press = true → s.bsc.buttons[x].pressed = true) : P (handOn press s x) := by
  unfold Machine.handOn
  rw [countHeld_eq]
  have hcounted := h.same (t := s.setBsc { s.bsc with
    held := if s.bsc.roles[x].plays then moved press s.bsc.held else s.bsc.held }) hs ⟨rfl, rfl, rfl, rfl, rfl, rfl⟩
  exact h.raise (h.routeChange hcounted x press hx) _

end

/-- A change handed on leaves the debounced states and the roles. -/
theorem handOn_scanner (press : Bool) (s : State) (x : Crosspoint) :
    (handOn press s x).bsc.buttons = s.bsc.buttons ∧ (handOn press s x).bsc.roles = s.bsc.roles := by
  rw [(handOn_playing press s x).bsc, State.setBsc_bsc, Scanner.handedOn_keeps]
  exact ⟨rfl, rfl⟩

theorem KeptByWork.handOns {P : State → Prop} (h : KeptByWork P) (press : Bool) (xs : List Crosspoint) {s : State} (hs : P s)
    (hx : press = true → ∀ x ∈ xs, s.bsc.buttons[x].pressed = true) : P (xs.foldl (Machine.handOn press) s) := by
  induction xs generalizing s with
  | nil => exact hs
  | cons x xs ih =>
    refine ih (h.handOn hs x press fun hp => hx hp x List.mem_cons_self) fun hp y hy => ?_
    rw [(handOn_scanner press s x).1]
    exact hx hp y (List.mem_cons_of_mem x hy)

/-- A crosspoint whose press a pass hands on has been debounced as PRESSED. -/
theorem flips_pressed {b : Scanner} {readings : Readings} {x : Crosspoint} (h : x ∈ b.flips readings true) :
    (b.debounced readings).buttons[x].pressed = true := by
  obtain ⟨-, hx⟩ := List.mem_filter.mp h
  exact beq_iff_eq.mp (Bool.and_eq_true_iff.mp hx).2

end Sys2Proof.Machine

/-! PROOF. A property that reads voices, lanes and Silencing Control alone, and that each event of a lane and each piece of
the playing work keeps, every command keeps. -/

namespace Sys2Proof.Machine

/-- A property of voices, lanes and Silencing Control that the playing work and the events of the lanes keep. -/
structure KeptByEvents (P : State → Prop) : Prop extends KeptByWork P where
  blind : ∀ {s t}, P s → t.vtb = s.vtb → t.lanes = s.lanes → t.slc = s.slc → P t
  reversalReexpand : ∀ {s}, P s → P (reversalReexpand s)
  processSample : ∀ {s} m, P s → P (processSample m s)
  panicPart : ∀ {s}, P s → P (panicPart s)
  readyRise : ∀ {s} n, P s → P (readyRise n s)
  readyFall : ∀ {s} n, P s → P (readyFall n s)
  recordCompletion : ∀ {s} n, P s → P (recordCompletion n s)
  stallExpiry : ∀ {s} n, P s → P (stallExpiry n s)
  laneSet : ∀ {s} n enable timeout, ¬ (s.lanes[n].state = .dead ∧ enable = true) → P s → P (s.laneSet n enable timeout)
  reviveLane : ∀ {s} n, s.lanes[n].state ≠ .off → P s → P (reviveLane s n)
  restarted : ∀ {s}, P s → P s.restarted
  tick : ∀ {s}, P s → P (tick s)
  powerOn : ∀ s, P (powerOnReset s)

section
variable {P : State → Prop} (h : KeptByEvents P) {s : State}
include h

theorem KeptByEvents.linkBlind : LinkBlind P := fun _ _ _ _ _ hs => h.blind hs rfl rfl rfl

theorem KeptByEvents.arbitrate (hs : P s) : P s.arbitrate := h.linkBlind.arbitrate hs

theorem KeptByEvents.takePass (readings : Readings) (hs : P s) : P (takePass readings s) := by
  have hset : P (s.setBsc (s.bsc.debounced readings)) := h.blind hs rfl rfl rfl
  rw [takePass_eq]
  refine h.arbitrate (h.handOns true _ (h.handOns false _ hset nofun) fun _ x hx => ?_)
  have hkept := (handOns_both (s.bsc.flips readings false) [] (s.setBsc (s.bsc.debounced readings))).1
  rw [List.foldl_nil] at hkept
  rw [hkept]
  exact flips_pressed hx

theorem KeptByEvents.sensed (hs : P s) (w : BitVec 16) : P (s.sensed w) :=
  h.blind hs (s.sensed_vtb w) (by unfold State.sensed raiseSensor; split <;> rfl)
    (by unfold State.sensed raiseSensor; split <;> rfl)

theorem KeptByEvents.handOff (hs : P s) (j : Judgement) (m : Nat) : P (handOff j m s) := by
  have hprocessed {t : State} (ht : P t) : P (Machine.processSample m t) := h.processSample m ht
  unfold Machine.handOff
  cases j with
  | held => exact hs
  | processed => exact hprocessed hs
  | reversal =>
    have htriggered := h.triggerCue hs .reversal
    have hreexpanded := h.reversalReexpand htriggered
    exact hprocessed (h.raise hreexpanded _)

theorem KeptByEvents.sampleArrival (w : BitVec 16) (hs : P s) : P (sampleArrival w s) := by
  have hsensed := h.sensed hs w
  rcases sampleArrival_cases w s with ⟨-, e⟩ | ⟨-, e⟩ <;> rw [e]
  · exact h.arbitrate hsensed
  · have hjudged (b : Bellows) : P ((s.sensed w).setBfe b) := h.blind hsensed rfl rfl rfl
    exact h.arbitrate (h.handOff (hjudged _) _ _)

theorem KeptByEvents.restartOwner (u : Unit) (hs : P s) : (restartOwner u s).Leaves P := by
  rw [restartOwner_eq]
  exact h.restarted hs

/-- Every owner keeps the property. -/
theorem KeptByEvents.owner {k : Nat} {p : List Byte} {r : Request} (hr : Request.of k p = some r) (a : r.Fields)
    (hs : P s) : (r.owner a s).Leaves P := by
  have hblind {t : State} (hv : t.vtb = s.vtb) (hl : t.lanes = s.lanes) (hc : t.slc = s.slc) : P t := h.blind hs hv hl hc
  fun_cases Request.of k p <;> simp only [Request.of, Option.some.injEq, reduceCtorEq] at hr <;> subst hr
  case case3 => exact h.restartOwner a hs
  case case8 => exact Verdict.leaves_ite (fun _ => trivial) fun _ => hblind rfl rfl rfl
  case case17 | case18 | case19 | case22 =>
    exact Verdict.leaves_ite (fun _ => hblind rfl rfl rfl) fun _ => trivial
  case case14 => exact h.applySettings hs _
  case case23 =>
    change (fireCueOwner a s).Leaves _
    unfold fireCueOwner
    split
    · exact Verdict.leaves_ite (fun _ => h.fireArmed hs _ _) fun _ => trivial
    · trivial
  case case24 => exact Verdict.leaves_ite (fun _ => h.transfer hs _ _ _) fun _ => trivial
  case case25 => exact h.selectRegisterIn hs _ _
  case case29 | case31 | case32 => exact h.tierCheck (hblind rfl rfl rfl)
  case case33 =>
    exact Verdict.leaves_ite (fun _ => trivial) fun _ => Verdict.leaves_ite (fun _ => trivial) fun _ =>
      Verdict.leaves_ite (fun _ => h.pushEntry hs _ _) fun _ => trivial
  case case34 =>
    change (popOverrideOwner a s).Leaves _
    unfold popOverrideOwner
    split
    · trivial
    · exact Verdict.leaves_ite (fun _ => h.popTop hs _ _) fun _ => trivial
  case case35 | case36 | case37 | case38 => exact h.writeEnable _ _ hs
  case case39 => exact h.panicPart hs
  case case40 => exact Verdict.leaves_ite (fun _ => trivial) fun hdead => h.laneSet _ _ _ hdead hs
  case case41 => exact Verdict.leaves_ite (fun _ => trivial) fun hoff => h.reviveLane _ hoff hs
  all_goals exact hblind rfl rfl rfl

theorem KeptByEvents.kept : KeptByCommands P where
  powerOnReset s _ := h.powerOn s
  takePass readings _ hs := h.takePass readings hs
  sampleArrival w _ hs := h.sampleArrival w hs
  streamLossTimeout s hs := by
    unfold streamLossTimeout raiseSensor
    split
    · exact h.arbitrate (ite_keeps (h.blind hs rfl rfl rfl) (h.blind hs rfl rfl rfl))
    · exact hs
  cueLineRise s hs := by
    unfold cueLineRise
    simp only []
    split <;> exact h.blind hs rfl rfl rfl
  cueLineFall s hs := by
    unfold cueLineFall
    simp only []
    split <;> exact h.blind hs rfl rfl rfl
  cueQualificationExpiry s hs := by
    unfold cueQualificationExpiry
    split
    · exact h.arbitrate (h.triggerCue (h.setSst hs _) _)
    · exact hs
  readyRise n _ hs := h.readyRise n hs
  readyFall n _ hs := h.readyFall n hs
  recordCompletion n _ hs := h.recordCompletion n hs
  stallExpiry n _ hs := h.stallExpiry n hs
  meterExpiry := h.linkBlind.meterExpiry
  hostFrameCompletion := h.linkBlind.hostFrameCompletion
  request _ _ _ hr kind tag _ hs :=
    h.linkBlind.take kind tag hs fun a _ _ => h.owner hr a (h.linkBlind.setMlk _ hs)
  unknown kind tag _ hs := h.linkBlind.unknown kind tag hs
  receive _ _ _ _ hs := h.blind hs rfl rfl rfl
  drop _ hs := h.blind hs rfl rfl rfl
  discard _ hs := h.blind hs rfl rfl rfl
  tick _ hs := h.tick hs
  queue _ _ _ hs := h.blind hs rfl rfl rfl

end

theorem KeptByCommands.and {P Q : State → Prop} (hp : KeptByCommands P) (hq : KeptByCommands Q) :
    KeptByCommands fun s => P s ∧ Q s where
  powerOnReset s hs := ⟨hp.powerOnReset s hs.1, hq.powerOnReset s hs.2⟩
  takePass readings s hs := ⟨hp.takePass readings s hs.1, hq.takePass readings s hs.2⟩
  sampleArrival w s hs := ⟨hp.sampleArrival w s hs.1, hq.sampleArrival w s hs.2⟩
  streamLossTimeout s hs := ⟨hp.streamLossTimeout s hs.1, hq.streamLossTimeout s hs.2⟩
  cueLineRise s hs := ⟨hp.cueLineRise s hs.1, hq.cueLineRise s hs.2⟩
  cueLineFall s hs := ⟨hp.cueLineFall s hs.1, hq.cueLineFall s hs.2⟩
  cueQualificationExpiry s hs := ⟨hp.cueQualificationExpiry s hs.1, hq.cueQualificationExpiry s hs.2⟩
  readyRise n s hs := ⟨hp.readyRise n s hs.1, hq.readyRise n s hs.2⟩
  readyFall n s hs := ⟨hp.readyFall n s hs.1, hq.readyFall n s hs.2⟩
  recordCompletion n s hs := ⟨hp.recordCompletion n s hs.1, hq.recordCompletion n s hs.2⟩
  stallExpiry n s hs := ⟨hp.stallExpiry n s hs.1, hq.stallExpiry n s hs.2⟩
  meterExpiry s hs := ⟨hp.meterExpiry s hs.1, hq.meterExpiry s hs.2⟩
  hostFrameCompletion s hs := ⟨hp.hostFrameCompletion s hs.1, hq.hostFrameCompletion s hs.2⟩
  request k p r hr kind tag s hs := ⟨hp.request k p r hr kind tag s hs.1, hq.request k p r hr kind tag s hs.2⟩
  unknown kind tag s hs := ⟨hp.unknown kind tag s hs.1, hq.unknown kind tag s hs.2⟩
  receive s rx buffer gap hs := ⟨hp.receive s rx buffer gap hs.1, hq.receive s rx buffer gap hs.2⟩
  drop s hs := ⟨hp.drop s hs.1, hq.drop s hs.2⟩
  discard s hs := ⟨hp.discard s hs.1, hq.discard s hs.2⟩
  tick s hs := ⟨hp.tick s hs.1, hq.tick s hs.2⟩
  queue s pending draws hs := ⟨hp.queue s pending draws hs.1, hq.queue s pending draws hs.2⟩

end Sys2Proof.Machine

/-! PROOF. With E = 0 no voice is SOUNDING and no crosspoint is voiced (R134): no work starts a voice while E is 0, and a
fall of E ends them all. -/

namespace Sys2Proof.Machine

/-- No voice is SOUNDING and no crosspoint voiced. -/
def State.Quiet (s : State) : Prop :=
  (∀ v : Slot, s.vtb.voices[v].state ≠ .sounding) ∧ ∀ x : Crosspoint, s.vtb.voicedAs[x] = none

/-- The promise of E = 0 (R134). -/
def State.EnablePromise (s : State) : Prop := s.slc.enable = false → s.Quiet

/-- E is as it was, and no voice has come to sound and no crosspoint to be voiced. -/
structure Calmer (s t : State) : Prop where
  enable : t.slc.enable = s.slc.enable
  voices : ∀ v : Slot, t.vtb.voices[v].state = .sounding → s.vtb.voices[v].state = .sounding
  voicedAs : ∀ x : Crosspoint, s.vtb.voicedAs[x] = none → t.vtb.voicedAs[x] = none

theorem Calmer.quiet {s t : State} (h : Calmer s t) (hs : s.Quiet) : t.Quiet :=
  ⟨fun v hv => hs.1 v (h.voices v hv), fun x => h.voicedAs x (hs.2 x)⟩

theorem Calmer.promise {s t : State} (h : Calmer s t) (hs : s.EnablePromise) : t.EnablePromise := fun he =>
  h.quiet (hs (h.enable ▸ he))

theorem Calmer.of_vtb {s t : State} (henable : t.slc.enable = s.slc.enable) (hvtb : t.vtb = s.vtb) : Calmer s t :=
  ⟨henable, fun v => by rw [hvtb]; exact id, fun x => by rw [hvtb]; exact id⟩

/-- What leaves E alone and changes nothing of a quiet part keeps the promise. -/
theorem State.EnablePromise.of_quiet {s t : State} (hs : s.EnablePromise) (henable : t.slc.enable = s.slc.enable)
    (h : s.Quiet → t.Quiet) : t.EnablePromise := fun he => h (hs (henable ▸ he))

theorem OnlyVoiceWork.slc {s t : State} (h : OnlyVoiceWork s t) : t.slc = s.slc := by rw [h.1]

/-! ## Re-expansions of a quiet part -/

theorem Quiet.voiced {s : State} (h : s.Quiet) : s.voiced = [] :=
  List.filter_eq_nil_iff.mpr fun x _ => by
    rw [h.2 x]
    exact Bool.false_ne_true

theorem sectionReexpand_quiet {s : State} (h : s.Quiet) (p : Sect → Bool) : sectionReexpand p s = s := by
  unfold sectionReexpand
  rw [Quiet.voiced h, List.filter_nil, reexpand_nil]

theorem reversalReexpand_quiet {s : State} (h : s.Quiet) : reversalReexpand s = s := by
  unfold reversalReexpand
  rw [Quiet.voiced h, reexpand_nil]

theorem Voice.orphaned_state (y : Voice) : y.orphaned.state = y.state := by
  unfold Voice.orphaned
  split <;> rfl

theorem layersTransferred_quiet {s : State} (h : s.Quiet) :
    layersTransferred s = s.mapVoices fun _ y => y.orphaned := by
  have hstate (v : Slot) : (s.mapVoices fun _ y => y.orphaned).vtb.voices[v].state ≠ .sounding := by
    rw [State.mapVoices_get, Voice.orphaned_state]
    exact h.1 v
  have hended : (s.mapVoices fun _ y => y.orphaned).carriedEnded = s.mapVoices fun _ y => y.orphaned := by
    unfold State.carriedEnded
    rw [List.filter_eq_nil_iff.mpr fun v _ => ?_]
    · rfl
    · rw [Voice.soundsOrphan, beq_eq_false_iff_ne.mpr (hstate v)]
      exact Bool.false_ne_true
  rw [layersTransferred_eq, hended, Quiet.voiced ⟨hstate, h.2⟩]
  rfl

/-! ## Each piece of work -/

theorem leaveVoice_calmer (x : Crosspoint) (s : State) (v w : Slot)
    (h : (leaveVoice x s v).vtb.voices[w].state = .sounding) : s.vtb.voices[w].state = .sounding := by
  by_cases hw : w = v
  · subst hw
    by_cases hnil : s.vtb.voices[w].holders.erase x = []
    · exact absurd h (leaveVoice_last hnil)
    · rwa [leaveVoice_shared hnil] at h
  · rwa [leaveVoice_voice_ne x s hw] at h

theorem leaves_calmer (x : Crosspoint) (vs : List Slot) (s : State) (w : Slot)
    (h : (vs.foldl (leaveVoice x) s).vtb.voices[w].state = .sounding) : s.vtb.voices[w].state = .sounding := by
  induction vs generalizing s with
  | nil => exact h
  | cons v vs ih => exact leaveVoice_calmer x s v w (ih (leaveVoice x s v) h)

theorem releaseKey_calmer (s : State) (x : Crosspoint) : Calmer s (releaseKey s x) where
  enable := by rw [(releaseKey_voiceWork s x).slc]
  voices v := by
    rw [releaseKey_eq]
    exact leaves_calmer x _ s v
  voicedAs y hy := by
    have hkept := leaveAll_voicedAs x (fun _ => true) s
    unfold releaseKey
    rw [State.setVoicedAs_get]
    split
    · rfl
    · rw [hkept]
      exact hy

theorem Voice.cleared_sounding_iff (y : Voice) (n : LaneNo) : (y.cleared n).state = .sounding ↔ y.state = .sounding :=
  cleareds_sounding y [n]

theorem quieted_promise {s : State} (hs : s.EnablePromise) (ns : List LaneNo) (c : Silencing) :
    (s.quieted ns c).Quiet := by
  cases he : s.slc.enable with
  | true => exact ⟨quieted_not_sounding c he ns, quieted_unvoiced c he ns⟩
  | false =>
    have hquiet := hs he
    have hframe := silenceLanes_frame ns s
    have hvoice := silenceLanes_voice ns s
    unfold State.quieted
    rw [if_neg (by rw [he]; exact Bool.false_ne_true)]
    refine ⟨fun v hv => ?_, fun x => ?_⟩
    · have hv' : (ns.foldl State.silenceLane s).vtb.voices[v].state = .sounding := hv
      rw [hvoice v, cleareds_sounding] at hv'
      exact hquiet.1 v hv'
    · have hx : (ns.foldl State.silenceLane s).vtb.voicedAs = s.vtb.voicedAs := by rw [hframe]
      change (ns.foldl State.silenceLane s).vtb.voicedAs[x] = none
      rw [hx]
      exact hquiet.2 x

theorem writeEnable_promise {s : State} (hs : s.EnablePromise) (e sh : Bool) : (writeEnable e sh s).EnablePromise := by
  intro he
  have hslc : (writeEnable e sh s).slc.enable = e := by
    have hdata := writeEnable_data e sh s
    have hbyte := (List.cons.inj hdata).1
    cases hw : (writeEnable e sh s).slc.enable <;> cases e <;> rw [hw] at hbyte <;> revert hbyte <;> decide
  rw [hslc] at he
  subst he
  cases hs' : s.slc.enable with
  | true =>
    rw [writeEnable_fell hs' rfl]
    exact ⟨voicesFallen_not_sounding _, voicesFallen_unvoiced _⟩
  | false =>
    rw [writeEnable_same hs'.symm]
    exact hs hs'

/-! ## The events of the lanes -/

/-- A completion without a record being sent does not occur (log entry 4); any other has its consequences and then the
idle output chooses. -/
theorem recordCompletion_cases (n : LaneNo) (s : State) :
    recordCompletion n s = s ∨ ∃ r rest, s.lanes[n].sending = true ∧ s.lanes[n].queue = r :: rest
      ∧ recordCompletion n s = (completed n r rest s).arbitrate := by
  cases hs : s.lanes[n].sending with
  | false =>
    refine .inl ?_
    unfold recordCompletion
    simp only [hs]
  | true =>
    cases hq : s.lanes[n].queue with
    | nil =>
      refine .inl ?_
      unfold recordCompletion
      simp only [hs, hq]
    | cons r rest => exact .inr ⟨r, rest, rfl, rfl, recordCompletion_sending hs hq⟩

/-- The last Silence of a CLOSING lane makes it OFF; any other record leaves the lane in its state (R152). -/
theorem completed_cases (n : LaneNo) (r : LaneRecord) (rest : List LaneRecord) (s : State) :
    (r = .silence ∧ s.lanes[n].state = .closing ∧ .silence ∉ rest)
      ∨ (r = .silence → ¬ (s.lanes[n].state = .closing ∧ .silence ∉ rest)) := by
  by_cases h : r = .silence ∧ s.lanes[n].state = .closing ∧ .silence ∉ rest
  · exact .inl h
  · exact .inr fun hr hc => h ⟨hr, hc⟩

theorem Voice.delivered_sounding (y : Voice) (n : LaneNo) : (y.delivered n).state = .sounding ↔ y.state = .sounding := by
  unfold Voice.delivered
  simp only []
  split
  · next h =>
    rw [h.1]
    exact ⟨nofun, nofun⟩
  · rfl

theorem State.pendingTo_enable (s : State) (p q : LaneSet) : (s.pendingTo p q).slc.enable = s.slc.enable := by
  unfold State.pendingTo
  split <;> rfl

theorem State.pendingTo_vtb (s : State) (p q : LaneSet) : (s.pendingTo p q).vtb = s.vtb := by
  unfold State.pendingTo
  split <;> rfl

theorem recordCompletion_calmer (n : LaneNo) (s : State) : Calmer s (recordCompletion n s) := by
  rcases recordCompletion_cases n s with e | ⟨r, rest, hs, hq, e⟩ <;> rw [e]
  · exact .of_vtb rfl rfl
  rcases completed_cases n r rest s with ⟨rfl, hc, hr⟩ | h
  · rw [completed_closes hc hr]
    exact .of_vtb (by rw [State.arbitrate_slc, State.setLane_slc, State.pendingTo_enable])
      (by rw [State.arbitrate_vtb, State.setLane_vtb, State.pendingTo_vtb])
  · have hframe := completed_frame h
    have hslc : (s.recordSent n r).slc.enable = s.slc.enable ∧ (s.recordSent n r).vtb = s.vtb := by
      unfold State.recordSent
      split
      · exact ⟨State.pendingTo_enable _ _ _, State.pendingTo_vtb _ _ _⟩
      · exact ⟨rfl, rfl⟩
    refine ⟨?_, fun v => ?_, fun x => ?_⟩
    · rw [State.arbitrate_slc, hframe]
      exact hslc.1
    · rw [State.arbitrate_vtb, completed_voice h v]
      split
      · exact (Voice.delivered_sounding _ n).mp
      · exact id
    · rw [State.arbitrate_vtb, hframe]
      change s.vtb.voicedAs[x] = none → (s.recordSent n r).vtb.voicedAs[x] = none
      rw [hslc.2]
      exact id

theorem clearLane_calmer (s : State) (n : LaneNo) : Calmer s (s.clearLane n) :=
  ⟨rfl, fun v => by rw [State.clearLane_get]; exact (Voice.cleared_sounding_iff _ n).mp, fun _ => id⟩

theorem Calmer.trans {s t u : State} (h : Calmer s t) (h' : Calmer t u) : Calmer s u :=
  ⟨h'.enable.trans h.enable, fun v hv => h.voices v (h'.voices v hv), fun x hx => h'.voicedAs x (h.voicedAs x hx)⟩

theorem leavePending_calmer (s : State) (n : LaneNo) : Calmer s (s.leavePending n) :=
  .of_vtb (by rw [State.leavePending_frame]) (by rw [State.leavePending_frame])

theorem setLane_calmer (s : State) (n : LaneNo) (l : Lane) : Calmer s (s.setLane n l) := .of_vtb rfl rfl

theorem stallExpiry_calmer (n : LaneNo) (s : State) : Calmer s (stallExpiry n s) := by
  unfold stallExpiry
  simp only []
  split
  · have hdead : Calmer s (((s.setLane n s.lanes[n].dead).clearLane n).leavePending n) :=
      ((setLane_calmer s n _).trans (clearLane_calmer _ n)).trans (leavePending_calmer _ n)
    refine hdead.trans (.of_vtb ?_ ?_)
    · rw [State.arbitrate_slc, State.raise_slc]
      rfl
    · rw [State.arbitrate_vtb, State.raise_vtb]
      rfl
  · exact .of_vtb rfl rfl

theorem silenceOn_calmer (s : State) (n : LaneNo) (l : Lane) : Calmer s ((s.setLane n l).silenceLane n) where
  enable := by rw [silenceOn_frame]
  voices v := by
    rw [silenceOn_voice]
    exact (Voice.cleared_sounding_iff _ n).mp
  voicedAs x hx := by
    rw [silenceOn_frame]
    exact hx

theorem laneSet_calmer {s : State} {n : LaneNo} {enable : Bool} (timeout : Nat)
    (h : ¬ (s.lanes[n].state = .dead ∧ enable = true)) : Calmer s (s.laneSet n enable timeout) := by
  rcases laneSet_cases timeout h with ⟨-, e⟩ | ⟨-, -, -, e⟩ | ⟨-, e⟩ <;> rw [e]
  · exact .of_vtb rfl rfl
  · exact silenceOn_calmer s n _
  · exact (setLane_calmer s n _).trans (leavePending_calmer _ n)

theorem reviveLane_calmer (s : State) (n : LaneNo) : Calmer s (reviveLane s n) where
  enable := by rw [reviveLane_frame]
  voices v := by
    rw [reviveLane_voice]
    exact (Voice.cleared_sounding_iff _ n).mp
  voicedAs x hx := by
    rw [reviveLane_frame]
    exact hx

/-! ## Every command -/

theorem enablePromise_kept : KeptByEvents State.EnablePromise where
  same hs h := (Calmer.of_vtb (by rw [h.slc]) h.vtb).promise hs
  blind hs hv _ hc := (Calmer.of_vtb (by rw [hc]) hv).promise hs
  tierCheck hs := (Calmer.of_vtb (by rw [tierCheck_writes]) (tierCheck_vtb _)).promise hs
  sectionReexpand p hs := hs.of_quiet (by rw [(sectionReexpand_voiceWork p _).slc]) fun hq => by
    rw [sectionReexpand_quiet hq]
    exact hq
  layersTransferred {s} hs := hs.of_quiet (by rw [(layersTransferred_voiceWork _).slc]) fun hq => by
    rw [layersTransferred_quiet hq]
    exact ⟨fun v => by rw [State.mapVoices_get, Voice.orphaned_state]; exact hq.1 v, hq.2⟩
  pressKey x hs _ := fun he => by
    rw [(pressKey_voiceWork _ x).slc] at he
    rw [pressKey_disabled he]
    exact hs he
  releaseKey x hs := (releaseKey_calmer _ x).promise hs
  writeEnable e sh hs := writeEnable_promise hs e sh
  haltPart {s} hs := by
    have hquiet : s.haltQuiet.Quiet := quieted_promise (s := s.setSlc { s.slc with part := .halted }) hs _ _
    rw [haltPart_quiet]
    exact fun _ => hquiet
  reversalReexpand hs := hs.of_quiet (by rw [(reversalReexpand_voiceWork _).slc]) fun hq => by
    rw [reversalReexpand_quiet hq]
    exact hq
  processSample m hs := (Calmer.of_vtb (by rw [processSample_writes]) (processSample_vtb m _)).promise hs
  panicPart {s} hs := by
    have hquiet : s.panicQuiet.Quiet := quieted_promise hs _ _
    rw [panicPart_quiet]
    exact fun _ => by split <;> exact hquiet
  readyRise n hs := by
    unfold readyRise
    split
    · exact hs
    · exact hs
  readyFall n hs := by
    unfold readyFall
    split
    · exact hs
    · exact hs
  recordCompletion n hs := (recordCompletion_calmer n _).promise hs
  stallExpiry n hs := (stallExpiry_calmer n _).promise hs
  laneSet _ _ timeout hdead hs := (laneSet_calmer timeout hdead).promise hs
  reviveLane n _ hs := (reviveLane_calmer _ n).promise hs
  restarted {s} _ := fun he => by
    rw [restarted_frame] at he
    exact (Bool.false_ne_true he.symm).elim
  tick hs := hs
  powerOn s := fun he => (Bool.false_ne_true he.symm).elim

end Sys2Proof.Machine

/-! PROOF. While the part is HALTED E is 0, the stack is empty and no cue is armed (R138, R144): only the entry to HALTED
and RESTART write the part state, and what HALTED admits writes none of the three. -/

namespace Sys2Proof.Machine

/-- The promise of HALTED (R138). -/
def State.HaltPromise (s : State) : Prop :=
  s.slc.part = .halted → s.slc.enable = false ∧ s.stack = [] ∧ s.sst.armed = none

/-- What leaves Silencing Control's pair and part state, the stack and the armed cue alone keeps the promise. -/
theorem State.HaltPromise.of_same {s t : State} (hs : s.HaltPromise) (hpart : t.slc.part = s.slc.part)
    (henable : t.slc.enable = s.slc.enable) (hstack : t.stack = s.stack) (harmed : t.sst.armed = s.sst.armed) :
    t.HaltPromise := by
  unfold State.HaltPromise
  rw [hpart, henable, hstack, harmed]
  exact hs

theorem State.HaltPromise.of_playing {t : State} (h : t.slc.part = .playing) : t.HaltPromise := fun hh => by
  rw [h] at hh
  exact PartState.noConfusion hh

theorem haltPart_promise (s : State) : (haltPart s).HaltPromise := by
  have hslc : s.haltQuiet.slc = s.haltSilencing := by rw [haltQuiet_frame]
  rw [haltPart_quiet]
  refine fun _ => ⟨?_, rfl, rfl⟩
  change s.haltQuiet.slc.enable = false
  rw [hslc]
  rfl

theorem part_cases (s : State) : s.slc.part = .playing ∨ s.slc.part = .halted := by
  cases s.slc.part with
  | playing => exact .inl rfl
  | halted => exact .inr rfl

/-! ## The playing work while PLAYING -/

/-- The part is PLAYING. -/
def State.Playing (s : State) : Prop := s.slc.part = .playing

theorem State.Playing.of_slc {s t : State} (hs : s.Playing) (h : t.slc = s.slc) : t.Playing := by
  unfold State.Playing
  rw [h]
  exact hs

theorem playing_keptByVoiceWork : KeptByVoiceWork State.Playing where
  same hs h := hs.of_slc h.slc
  tierCheck hs := hs.of_slc (by rw [tierCheck_writes])
  sectionReexpand p hs := hs.of_slc (sectionReexpand_voiceWork p _).slc
  layersTransferred hs := hs.of_slc (layersTransferred_voiceWork _).slc

theorem writeEnable_part (e sh : Bool) (s : State) : (writeEnable e sh s).slc.part = s.slc.part := by
  have hfell := (enableFell_voiceWork (s.setSlc { s.slc with enable := e, shadow := sh })).slc
  have hrose := (enableRose_voiceWork (s.setSlc { s.slc with enable := e, shadow := sh })).slc
  unfold writeEnable
  simp only []
  split_ifs
  · rw [hfell, State.setSlc_slc]
  · rw [hrose, State.setSlc_slc]
  · rfl

theorem State.Playing.writeEnable {s : State} (hs : s.Playing) (e sh : Bool) : (writeEnable e sh s).Playing :=
  (writeEnable_part e sh s).trans hs

theorem State.Playing.keyChange {s : State} (hs : s.Playing) (x : Crosspoint) (press : Bool) :
    (if s.isHalted then s else if press then pressKey s x else releaseKey s x).Playing :=
  ite_keeps hs (ite_keeps (hs.of_slc (pressKey_voiceWork s x).slc) (hs.of_slc (releaseKey_voiceWork s x).slc))

theorem State.HaltPromise.switchRelease {s : State} (hs : s.Playing) (n : Fin 4) : (switchRelease n s).HaltPromise := by
  rcases playing_keptByVoiceWork.switchRelease hs n with h | ⟨u, -, e⟩
  · exact .of_playing h
  · rw [e]
    exact haltPart_promise u

theorem State.HaltPromise.popTop {s : State} (hs : s.Playing) (first : StackEntry) (below : List StackEntry) :
    (popTop first below s).1.HaltPromise := by
  rcases playing_keptByVoiceWork.popTop hs first below with h | ⟨u, -, e⟩
  · exact .of_playing h
  · rw [e]
    exact haltPart_promise u

/-- A change routed while PLAYING keeps the part PLAYING, or a switch release halts it. -/
theorem routeChange_promise {s : State} (hs : s.Playing) (x : Crosspoint) (press : Bool) :
    (routeChange x press s).HaltPromise := by
  have hplays := hs.keyChange x press
  have hselect (c : Sect) (n : RegNo) := playing_keptByVoiceWork.selectRegisterIn hs c n
  have hcue := playing_keptByVoiceWork.triggerCue hs .cueButton
  unfold routeChange
  cases s.bsc.roles[x] with
  | none => exact .of_playing hs
  | override n =>
    have hmoved : (s.setBsc (s.bsc.occupied press (.override n))).Playing := hs
    exact ite_keeps (.of_playing hmoved)
      (ite_keeps (ite_keeps (.of_playing (playing_keptByVoiceWork.switchPush hmoved n)) (.of_playing hmoved))
        (ite_keeps (.switchRelease hmoved n) (.of_playing hmoved)))
  | hush =>
    have hmoved : (s.setBsc (s.bsc.occupied press .hush)).Playing := hs
    exact ite_keeps (.of_playing hmoved)
      (ite_keeps (ite_keeps (.of_playing (hmoved.writeEnable _ _)) (.of_playing hmoved))
        (ite_keeps (.of_playing (hmoved.writeEnable _ _)) (.of_playing hmoved)))
  | treble k => exact .of_playing hplays
  | bass c r => exact .of_playing hplays
  | trebleRegister n => exact ite_keeps (.of_playing (hselect _ _)) (.of_playing hs)
  | bassRegister n => exact ite_keeps (.of_playing (hselect _ _)) (.of_playing hs)
  | cue => exact ite_keeps (.of_playing hcue) (.of_playing hs)

theorem HaltedPass.haltPromise {s t : State} (h : HaltedPass s t) (hs : s.HaltPromise) : t.HaltPromise := by
  obtain ⟨hframe, -⟩ := h
  rw [hframe]
  exact hs

theorem State.HaltPromise.handOn {s : State} (hs : s.HaltPromise) (press : Bool) (x : Crosspoint) :
    (handOn press s x).HaltPromise := by
  rcases part_cases s with hp | hh
  · have hcounted : (countHeld x press s).Playing := by
      rw [countHeld_eq]
      exact hp
    exact routeChange_promise hcounted x press
  · exact (handOn_halted (beq_iff_eq.mpr hh) press x).haltPromise hs

theorem State.HaltPromise.handOns {s : State} (hs : s.HaltPromise) (press : Bool) (xs : List Crosspoint) :
    (xs.foldl (Machine.handOn press) s).HaltPromise := by
  induction xs generalizing s with
  | nil => exact hs
  | cons x xs ih => exact ih (hs.handOn press x)

/-! ## The samples and the cue line -/

theorem haltPromise_linkBlind : LinkBlind State.HaltPromise := fun _ _ _ _ _ h => h

theorem State.HaltPromise.triggerCue {s : State} (hs : s.HaltPromise) (t : Trigger) : (triggerCue t s).HaltPromise := by
  rcases part_cases s with hp | hh
  · exact .of_playing (playing_keptByVoiceWork.triggerCue hp t)
  · obtain ⟨-, -, harmed⟩ := hs hh
    rw [triggerCue_no_trigger (by rw [harmed]; exact nofun)]
    exact hs

theorem State.HaltPromise.processSample {s : State} (hs : s.HaltPromise) (m : Nat) : (processSample m s).HaltPromise := by
  have hwrites := processSample_writes m s
  generalize Machine.processSample m s = t at hwrites ⊢
  rw [hwrites]
  exact hs

/-- The reversal handed on, before its sample goes to the Dynamics Unit. -/
theorem State.HaltPromise.reversed {s : State} (hs : s.HaltPromise) :
    (reversalReexpand (Machine.triggerCue .reversal s)).HaltPromise := by
  have htriggered := hs.triggerCue .reversal
  have hframe := (reversalReexpand_voiceWork (Machine.triggerCue .reversal s)).1
  generalize reversalReexpand (Machine.triggerCue .reversal s) = t at hframe ⊢
  rw [hframe]
  exact htriggered

theorem State.HaltPromise.raise {s : State} (hs : s.HaltPromise) (n : Notice) : (s.raise n).HaltPromise := hs

theorem State.HaltPromise.handOff {s : State} (hs : s.HaltPromise) (j : Judgement) (m : Nat) :
    (handOff j m s).HaltPromise := by
  cases j with
  | held => exact hs
  | processed =>
    have hprocessed := hs.processSample m
    unfold Machine.handOff
    exact hprocessed
  | reversal =>
    rw [handOff_reversal]
    exact (hs.reversed.raise _).processSample m

theorem State.HaltPromise.sampleArrival {s : State} (hs : s.HaltPromise) (w : BitVec 16) :
    (sampleArrival w s).HaltPromise := by
  have hsensed (b : Bellows) : ((s.sensed w).setBfe b).HaltPromise := by
    unfold State.sensed raiseSensor
    split <;> exact hs
  rcases sampleArrival_cases w s with ⟨-, e⟩ | ⟨-, e⟩ <;> rw [e]
  · exact haltPromise_linkBlind.arbitrate (hsensed (s.sensed w).bfe)
  · exact haltPromise_linkBlind.arbitrate ((hsensed _).handOff _ _)

/-! ## Requests and every command -/

theorem restarted_promise (s : State) : s.restarted.HaltPromise := by
  have hframe := restarted_frame s
  generalize s.restarted = t at hframe ⊢
  rw [hframe]
  exact .of_playing rfl

theorem restartOwner_promise (u : Unit) (s : State) : (restartOwner u s).Leaves State.HaltPromise := by
  rw [restartOwner_eq]
  exact restarted_promise s

theorem laneSet_part {s : State} {n : LaneNo} {enable : Bool} (timeout : Nat)
    (h : ¬ (s.lanes[n].state = .dead ∧ enable = true)) : (s.laneSet n enable timeout).slc.part = s.slc.part := by
  rcases laneSet_cases timeout h with ⟨-, e⟩ | ⟨-, -, -, e⟩ | ⟨-, e⟩ <;> rw [e]
  · rfl
  · rw [silenceOn_frame]
  · rw [State.leavePending_frame]
    rfl

/-- A request taken while PLAYING leaves the part PLAYING, or it is a pop that halts it. -/
theorem State.Playing.owner {k : Nat} {p : List Byte} {r : Request} (hr : Request.of k p = some r) (a : r.Fields)
    {s : State} (hs : s.Playing) : (r.owner a s).Leaves State.HaltPromise := by
  have hkeeps {t : State} (h : t.slc.part = s.slc.part) : t.HaltPromise := .of_playing (h.trans hs)
  have hwork {t : State} (h : t.Playing) : t.HaltPromise := .of_playing h
  have hblind {t : State} (h : t.slc = s.slc) : t.HaltPromise := hkeeps (by rw [h])
  fun_cases Request.of k p <;> simp only [Request.of, Option.some.injEq, reduceCtorEq] at hr <;> subst hr
  case case3 => exact restartOwner_promise a s
  case case8 => exact Verdict.leaves_ite (fun _ => trivial) fun _ => hblind rfl
  case case14 => exact hwork (playing_keptByVoiceWork.applySettings hs _)
  case case17 | case18 | case19 | case22 =>
    exact Verdict.leaves_ite (fun _ => hblind rfl) fun _ => trivial
  case case23 =>
    change (fireCueOwner a s).Leaves _
    unfold fireCueOwner
    split
    · exact Verdict.leaves_ite (fun _ => hwork (playing_keptByVoiceWork.fireArmed hs _ _)) fun _ => trivial
    · trivial
  case case24 =>
    exact Verdict.leaves_ite (fun _ => hwork (playing_keptByVoiceWork.transfer hs _ _ _)) fun _ => trivial
  case case25 => exact hwork (playing_keptByVoiceWork.selectRegisterIn hs _ _)
  case case29 | case31 | case32 => exact hwork (playing_keptByVoiceWork.tierCheck hs)
  case case33 =>
    exact Verdict.leaves_ite (fun _ => trivial) fun _ => Verdict.leaves_ite (fun _ => trivial) fun _ =>
      Verdict.leaves_ite (fun _ => hwork (playing_keptByVoiceWork.pushEntry hs _ _)) fun _ => trivial
  case case34 =>
    change (popOverrideOwner a s).Leaves _
    unfold popOverrideOwner
    split
    · trivial
    · exact Verdict.leaves_ite (fun _ => .popTop hs _ _) fun _ => trivial
  case case35 | case36 | case37 | case38 => exact hwork (hs.writeEnable _ _)
  case case39 => exact hkeeps (by rw [(panicPart_blocks s).2.2.2]; rfl)
  case case40 => exact Verdict.leaves_ite (fun _ => trivial) fun hdead => hkeeps (laneSet_part _ hdead)
  case case41 => exact Verdict.leaves_ite (fun _ => trivial) fun _ => hblind (by rw [reviveLane_frame])
  all_goals exact hblind rfl

/-- The requests that HALTED admits are the reads, and RESTART (R144). -/
theorem State.HaltPromise.owner {k : Nat} {p : List Byte} {r : Request} (hr : Request.of k p = some r)
    (hadmitted : r.admitted = true) (a : r.Fields) {s : State} (hs : s.HaltPromise) :
    (r.owner a s).Leaves State.HaltPromise := by
  fun_cases Request.of k p <;> simp only [Request.of, Option.some.injEq, reduceCtorEq] at hr <;> subst hr
  case case3 => exact restartOwner_promise a s
  case case1 | case2 | case6 | case9 | case27 | case42 => exact hs
  all_goals exact (Bool.false_ne_true hadmitted).elim

theorem recordCompletion_promise (n : LaneNo) {s : State} (hs : s.HaltPromise) : (recordCompletion n s).HaltPromise := by
  have hpending (p q : LaneSet) : (s.pendingTo p q).HaltPromise := by
    unfold State.pendingTo
    split <;> exact hs
  rcases recordCompletion_cases n s with e | ⟨r, rest, -, -, e⟩ <;> rw [e]
  · exact hs
  refine haltPromise_linkBlind.arbitrate ?_
  rcases completed_cases n r rest s with ⟨rfl, hc, hr⟩ | h
  · rw [completed_closes hc hr]
    exact hpending _ _
  · have hsent : (s.recordSent n r).HaltPromise := by
      unfold State.recordSent
      split
      · exact hpending _ _
      · exact hs
    have hframe := completed_frame h
    generalize completed n r rest s = t at hframe ⊢
    rw [hframe]
    exact hsent

theorem haltPromise_kept : KeptByCommands State.HaltPromise where
  powerOnReset _ _ := .of_playing rfl
  takePass readings s hs := by
    have hset : (s.setBsc (s.bsc.debounced readings)).HaltPromise := hs
    rw [takePass_eq]
    exact haltPromise_linkBlind.arbitrate ((hset.handOns false _).handOns true _)
  sampleArrival w _ hs := hs.sampleArrival w
  streamLossTimeout s hs := by
    unfold streamLossTimeout raiseSensor
    split
    · exact haltPromise_linkBlind.arbitrate (ite_keeps hs hs)
    · exact hs
  cueLineRise s hs := by
    unfold cueLineRise
    simp only []
    split <;> exact hs
  cueLineFall s hs := by
    unfold cueLineFall
    simp only []
    split <;> exact hs
  cueQualificationExpiry s hs := by
    unfold cueQualificationExpiry
    split
    · have hset : (s.setSst { s.sst with detector := .waitFall, qualTimer := none }).HaltPromise := hs
      exact haltPromise_linkBlind.arbitrate (hset.triggerCue _)
    · exact hs
  readyRise n s hs := by
    unfold readyRise
    split <;> exact hs
  readyFall n s hs := by
    unfold readyFall
    split <;> exact hs
  recordCompletion n _ hs := recordCompletion_promise n hs
  stallExpiry n s hs := by
    unfold stallExpiry
    simp only []
    split
    · refine haltPromise_linkBlind.arbitrate (haltPromise_linkBlind.raise _ ?_)
      rw [State.leavePending_frame]
      exact hs
    · exact hs
  meterExpiry := haltPromise_linkBlind.meterExpiry
  hostFrameCompletion := haltPromise_linkBlind.hostFrameCompletion
  request _ _ _ hr kind tag s hs := haltPromise_linkBlind.take kind tag hs fun a _ hadmitted => by
    rcases part_cases s with hp | hh
    · exact State.Playing.owner hr a hp
    · exact State.HaltPromise.owner hr (hadmitted hh) a hs
  unknown kind tag _ hs := haltPromise_linkBlind.unknown kind tag hs
  receive _ _ _ _ hs := hs
  drop _ hs := hs
  discard _ hs := hs
  tick _ hs := hs
  queue _ _ _ hs := hs

end Sys2Proof.Machine

/-! PROOF. Every voiced crosspoint is PRESSED with a playing role, and was last expanded under BD (R62, R63): the playing
work voices only keys that are held or were voiced already, and a pass releases each voiced key that it finds released. -/

namespace Sys2Proof.Machine

/-! ## What the playing work voices -/

/-- Between two states the keys and BD are the same, and a crosspoint is voiced only if it was, as it was or under BD, or
if it is a held key. -/
structure KeyWork (s t : State) : Prop where
  buttons : t.bsc.buttons = s.bsc.buttons
  roles : t.bsc.roles = s.bsc.roles
  bd : t.bfe.bd = s.bfe.bd
  voiced : ∀ x : Crosspoint, t.vtb.voicedAs[x] ≠ none →
    (t.vtb.voicedAs[x] = s.vtb.voicedAs[x] ∨ t.vtb.voicedAs[x] = some s.bfe.bd)
      ∧ (s.vtb.voicedAs[x] ≠ none ∨ s.holdsKey x = true)

theorem KeyWork.holdsKey {s t : State} (h : KeyWork s t) (x : Crosspoint) : t.holdsKey x = s.holdsKey x := by
  unfold State.holdsKey
  rw [h.buttons, h.roles]

theorem KeyWork.refl (s : State) : KeyWork s s := ⟨rfl, rfl, rfl, fun _ hx => ⟨.inl rfl, .inl hx⟩⟩

theorem KeyWork.trans {s t u : State} (h : KeyWork s t) (h' : KeyWork t u) : KeyWork s u where
  buttons := h'.buttons.trans h.buttons
  roles := h'.roles.trans h.roles
  bd := h'.bd.trans h.bd
  voiced x hx := by
    obtain ⟨hvalue, hfrom⟩ := h'.voiced x hx
    rw [h.holdsKey] at hfrom
    refine ⟨?_, hfrom.elim (fun ht => (h.voiced x ht).2) .inr⟩
    rcases hvalue with hsame | hbd
    · rw [hsame] at hx ⊢
      exact (h.voiced x hx).1
    · rw [hbd, h.bd]
      exact .inr rfl

/-- Work that leaves the voiced-as table alone. -/
theorem KeyWork.of_voicedAs {s t : State} (hbsc : t.bsc = s.bsc) (hbd : t.bfe.bd = s.bfe.bd)
    (hvoiced : ∀ x : Crosspoint, t.vtb.voicedAs[x] = s.vtb.voicedAs[x] ∨ t.vtb.voicedAs[x] = none) : KeyWork s t where
  buttons := by rw [hbsc]
  roles := by rw [hbsc]
  bd := hbd
  voiced x hx := by
    rcases hvoiced x with h | h
    · exact ⟨.inl h, .inl (h ▸ hx)⟩
    · exact absurd h hx

theorem KeyWork.of_vtb {s t : State} (hbsc : t.bsc = s.bsc) (hbd : t.bfe.bd = s.bfe.bd) (h : t.vtb = s.vtb) :
    KeyWork s t := .of_voicedAs hbsc hbd fun x => .inl (by rw [h])

/-- Work that voices crosspoints under BD, each a held key or voiced already. -/
theorem KeyWork.of_voicing {s t : State} (hwork : OnlyVoiceWork s t) {xs : List Crosspoint}
    (hvoiced : ∀ x : Crosspoint, t.vtb.voicedAs[x] = if x ∈ xs then some s.bfe.bd else s.vtb.voicedAs[x])
    (hxs : ∀ x ∈ xs, s.vtb.voicedAs[x] ≠ none ∨ s.holdsKey x = true) : KeyWork s t where
  buttons := by rw [hwork.1]
  roles := by rw [hwork.1]
  bd := by rw [hwork.1]
  voiced x hx := by
    rw [hvoiced x] at hx ⊢
    split at hx
    · next hmem => exact ⟨by rw [if_pos hmem]; exact .inr rfl, hxs x hmem⟩
    · next hmem => exact ⟨by rw [if_neg hmem]; exact .inl rfl, .inl hx⟩

theorem sectionReexpand_keyWork (p : Sect → Bool) (s : State) : KeyWork s (sectionReexpand p s) := by
  refine .of_voicing (sectionReexpand_voiceWork p s) (fun x => by rw [sectionReexpand_eq, reexpand_voicedAs]) fun x hx => ?_
  obtain ⟨-, hvoiced⟩ := List.mem_filter.mp hx
  exact .inl (Option.isSome_iff_ne_none.mp (Bool.and_eq_true_iff.mp hvoiced).1)

theorem pressKey_keyWork (s : State) {x : Crosspoint} (hx : s.holdsKey x = true) : KeyWork s (pressKey s x) := by
  by_cases h : (s.slc.enable && !s.isHalted) = true
  · have he : pressKey s x = ((s.expand x s.bfe.bd).foldl (joinEntry x) s).setVoicedAs [x] (some s.bfe.bd) := if_pos h
    refine .of_voicing (pressKey_voiceWork s x) (xs := [x]) (fun y => ?_) fun y hy => ?_
    · rw [he, State.setVoicedAs_get, joins_voicedAs]
    · rw [List.mem_singleton.mp hy]
      exact .inr hx
  · have he : pressKey s x = s := if_neg h
    rw [he]
    exact .refl s

theorem releaseKey_voicedAs (s : State) (x y : Crosspoint) :
    (releaseKey s x).vtb.voicedAs[y] = if y ∈ [x] then none else s.vtb.voicedAs[y] := by
  unfold releaseKey
  rw [State.setVoicedAs_get, leaveAll_voicedAs]

theorem releaseKey_keyWork (s : State) (x : Crosspoint) : KeyWork s (releaseKey s x) := by
  have hwork := (releaseKey_voiceWork s x).1
  refine .of_voicedAs (by rw [hwork]) (by rw [hwork]) fun y => ?_
  rw [releaseKey_voicedAs]
  split
  · exact .inr rfl
  · exact .inl rfl

theorem presses_keyWork (s : State) (xs : List Crosspoint) (hxs : ∀ x ∈ xs, s.holdsKey x = true) :
    KeyWork s (xs.foldl pressKey s) := by
  induction xs generalizing s with
  | nil => exact .refl s
  | cons x xs ih =>
    have hx := pressKey_keyWork s (hxs x List.mem_cons_self)
    exact hx.trans (ih _ fun y hy => by rw [hx.holdsKey]; exact hxs y (List.mem_cons_of_mem x hy))

theorem enableFell_keyWork (s : State) : KeyWork s (enableFell s) := by
  have hwork := (enableFell_voiceWork s).1
  exact .of_voicedAs (by rw [hwork]) (by rw [hwork]) fun x => .inr (get_replicate _ _)

theorem writeEnable_keyWork (e sh : Bool) (s : State) : KeyWork s (writeEnable e sh s) := by
  have hset : KeyWork s (s.setSlc { s.slc with enable := e, shadow := sh }) := .of_vtb rfl rfl rfl
  unfold writeEnable
  simp only []
  split_ifs
  · exact hset.trans (enableFell_keyWork _)
  · exact hset.trans (presses_keyWork _ _ fun x hx => (List.mem_filter.mp hx).2)
  · exact hset

theorem quieted_keyWork (s : State) (ns : List LaneNo) (c : Silencing) : KeyWork s (s.quieted ns c) := by
  have hframe := quieted_frame (s := s) c ns
  have hvoiced (x : Crosspoint) : (s.quieted ns c).vtb.voicedAs[x] = s.vtb.voicedAs[x]
      ∨ (s.quieted ns c).vtb.voicedAs[x] = none := by
    cases he : s.slc.enable with
    | true => exact .inr (quieted_unvoiced c he ns x)
    | false =>
      have hsilenced := silenceLanes_frame ns s
      unfold State.quieted
      rw [if_neg (by rw [he]; exact Bool.false_ne_true)]
      refine .inl ?_
      have hx : (ns.foldl State.silenceLane s).vtb.voicedAs = s.vtb.voicedAs := by rw [hsilenced]
      change (ns.foldl State.silenceLane s).vtb.voicedAs[x] = _
      rw [hx]
  generalize s.quieted ns c = t at hframe hvoiced ⊢
  exact .of_voicedAs (by rw [hframe]) (by rw [hframe]) hvoiced

theorem haltPart_keyWork (s : State) : KeyWork s (haltPart s) := by
  have hset : KeyWork s (s.setSlc { s.slc with part := .halted }) := .of_vtb rfl rfl rfl
  have hquiet := hset.trans (quieted_keyWork _ s.liveLanes s.haltSilencing)
  rw [haltPart_quiet]
  exact hquiet.trans (.of_vtb rfl rfl rfl)

theorem panicPart_keyWork (s : State) : KeyWork s (panicPart s) := by
  have hquiet : KeyWork s s.panicQuiet := quieted_keyWork s _ _
  rw [panicPart_quiet]
  split
  · exact hquiet.trans (.of_vtb rfl rfl rfl)
  · exact hquiet

theorem keyWork_kept (s : State) : KeptByWork (KeyWork s) where
  same h e := h.trans
    ⟨e.buttons, e.roles, e.bd, fun x hx => by rw [e.vtb] at hx ⊢; exact ⟨.inl rfl, .inl hx⟩⟩
  tierCheck h := h.trans (.of_vtb (by rw [tierCheck_writes]) (by rw [tierCheck_writes]) (tierCheck_vtb _))
  sectionReexpand p h := h.trans (sectionReexpand_keyWork p _)
  layersTransferred {t} h := h.trans
    (.of_voicedAs (by rw [(layersTransferred_voiceWork t).1]) (by rw [(layersTransferred_voiceWork t).1])
      fun x => .inl (by rw [layersTransferred_voicedAs]))
  pressKey x h hx := h.trans (pressKey_keyWork _ hx)
  releaseKey x h := h.trans (releaseKey_keyWork _ x)
  writeEnable e sh h := h.trans (writeEnable_keyWork e sh _)
  haltPart h := h.trans (haltPart_keyWork _)

/-! ## The voiced keys -/

/-- Every voiced crosspoint has a playing role, is PRESSED or has a release still to be handed on, and is voiced under
BD (R62, R63). -/
def State.KeysVoiced (releases : List Crosspoint) (s : State) : Prop :=
  ∀ x : Crosspoint, s.vtb.voicedAs[x] ≠ none →
    s.bsc.roles[x].plays = true ∧ (s.bsc.buttons[x].pressed = true ∨ x ∈ releases) ∧ s.vtb.voicedAs[x] = some s.bfe.bd

theorem State.KeysVoiced.work {s t : State} {xs : List Crosspoint} (hs : s.KeysVoiced xs) (h : KeyWork s t) :
    t.KeysVoiced xs := by
  intro x hx
  obtain ⟨hvalue, hfrom⟩ := h.voiced x hx
  rw [h.roles, h.buttons, h.bd]
  rcases hfrom with hold | hkey
  · obtain ⟨hplays, hheld, hbd⟩ := hs x hold
    exact ⟨hplays, hheld, hvalue.elim (fun hsame => hsame.trans hbd) id⟩
  · obtain ⟨hpressed, hplays⟩ := Bool.and_eq_true_iff.mp hkey
    refine ⟨hplays, .inl hpressed, hvalue.elim (fun hsame => ?_) id⟩
    rw [hsame] at hx ⊢
    exact (hs x hx).2.2

theorem State.keysVoiced_iff (s : State) : s.KeysVoiced [] ↔ ∀ x : Crosspoint, s.vtb.voicedAs[x] ≠ none →
    s.holdsKey x = true ∧ s.vtb.voicedAs[x] = some s.bfe.bd := by
  unfold State.KeysVoiced State.holdsKey
  simp only [List.not_mem_nil, or_false, Bool.and_eq_true]
  exact forall_congr' fun x => imp_congr_right fun _ => ⟨fun ⟨a, b, c⟩ => ⟨⟨b, a⟩, c⟩, fun ⟨⟨b, a⟩, c⟩ => ⟨a, b, c⟩⟩

/-- With the promises of E = 0 and HALTED, a part that is HALTED has no crosspoint voiced. -/
theorem unvoiced_of_halted {s : State} (he : s.EnablePromise) (hh : s.HaltPromise) (h : s.slc.part = .halted)
    (x : Crosspoint) : s.vtb.voicedAs[x] = none := (he (hh h).1).2 x

/-- A release handed on is no longer waited for: the key is unvoiced, or not voiced at all. -/
theorem State.KeysVoiced.release {s : State} {x : Crosspoint} {xs : List Crosspoint} (hs : s.KeysVoiced (x :: xs))
    (he : s.EnablePromise) (hh : s.HaltPromise) : (handOn false s x).KeysVoiced xs := by
  have hwork : KeyWork s (handOn false s x) := (keyWork_kept s).handOn (.refl s) x false nofun
  intro y hy
  obtain ⟨hplays, hheld, hbd⟩ := hs.work hwork y hy
  refine ⟨hplays, ?_, hbd⟩
  rcases hheld with hpressed | hmem
  · exact .inl hpressed
  rcases List.mem_cons.mp hmem with rfl | hxs
  · refine .inl ?_
    rcases (hwork.voiced y hy).2 with hold | hkey
    · rcases part_cases s with hp | hhalted
      · obtain ⟨hrole, -, -⟩ := hs y hold
        have hcounted := countHeld_eq y false s
        have hplaying : (countHeld y false s).isHalted = false := by
          rw [hcounted]
          unfold State.isHalted
          rw [State.setBsc_slc, hp]
          rfl
        have hrouted : routeChange y false (countHeld y false s) = releaseKey (countHeld y false s) y := by
          rw [routeChange_plays false hplaying (by rw [hcounted]; exact hrole)]
          rfl
        refine absurd ?_ hy
        unfold handOn
        rw [hrouted]
        change (releaseKey (countHeld y false s) y).vtb.voicedAs[y] = none
        rw [releaseKey_voicedAs, if_pos (List.mem_singleton_self y)]
      · exact absurd (unvoiced_of_halted he hh hhalted y) hold
    · rw [hwork.buttons]
      exact (Bool.and_eq_true_iff.mp hkey).1
  · exact .inr hxs

end Sys2Proof.Machine

/-! PROOF. Every command keeps the voiced crosspoints held keys under BD (R62, R63). -/

namespace Sys2Proof.Machine

/-- The promises of E = 0 and of HALTED (R134, R138). -/
def State.Promised (s : State) : Prop := s.EnablePromise ∧ s.HaltPromise

theorem promised_kept : KeptByCommands State.Promised := enablePromise_kept.kept.and haltPromise_kept

theorem State.KeysVoiced.of_same {s t : State} {xs : List Crosspoint} (hs : s.KeysVoiced xs)
    (hbuttons : t.bsc.buttons = s.bsc.buttons) (hroles : t.bsc.roles = s.bsc.roles) (hbd : t.bfe.bd = s.bfe.bd)
    (hvtb : t.vtb.voicedAs = s.vtb.voicedAs) : t.KeysVoiced xs := by
  unfold State.KeysVoiced
  rw [hbuttons, hroles, hbd, hvtb]
  exact hs

theorem keysVoiced_linkBlind : LinkBlind (State.KeysVoiced []) := fun _ _ _ _ _ h => h

/-! ## The scan pass -/

theorem debounced_keysVoiced {s : State} (hs : s.KeysVoiced []) (readings : Readings) :
    (s.setBsc (s.bsc.debounced readings)).KeysVoiced (s.bsc.flips readings false) := by
  intro x hx
  obtain ⟨hplays, hheld, hbd⟩ := hs x hx
  have hpressed : s.bsc.buttons[x].pressed = true := hheld.elim id fun hno => absurd hno List.not_mem_nil
  refine ⟨hplays, ?_, hbd⟩
  cases hafter : (s.bsc.debounced readings).buttons[x].pressed with
  | true => exact .inl hafter
  | false =>
    refine .inr (List.mem_filter.mpr ⟨List.mem_finRange x, ?_⟩)
    rw [hpressed, hafter]
    rfl

theorem State.Promised.handOn {s : State} (hs : s.Promised) (x : Crosspoint) : (handOn false s x).Promised :=
  ⟨enablePromise_kept.handOn hs.1 x false nofun, hs.2.handOn false x⟩

theorem releases_keysVoiced (xs : List Crosspoint) {s : State} (hs : s.KeysVoiced xs) (hp : s.Promised) :
    (xs.foldl (handOn false) s).KeysVoiced [] := by
  induction xs generalizing s with
  | nil => exact hs
  | cons x xs ih => exact ih (hs.release hp.1 hp.2) (hp.handOn x)

theorem takePass_keysVoiced (readings : Readings) {s : State} (hs : s.KeysVoiced []) (hp : s.Promised) :
    (takePass readings s).KeysVoiced [] := by
  have hset : (s.setBsc (s.bsc.debounced readings)).Promised := hp
  have hreleased := releases_keysVoiced _ (debounced_keysVoiced hs readings) hset
  rw [takePass_eq]
  refine keysVoiced_linkBlind.arbitrate (hreleased.work ?_)
  refine (keyWork_kept _).handOns true _ (.refl _) fun _ x hx => ?_
  have hkept := (handOns_both (s.bsc.flips readings false) [] (s.setBsc (s.bsc.debounced readings))).1
  rw [List.foldl_nil] at hkept
  rw [hkept]
  exact flips_pressed hx

/-! ## The samples -/

/-- Only a reversal turns BD (R93 to R95). -/
theorem judge_bd {cls : SampleClass} {b : Bellows} (h : (judge cls b).2 ≠ .reversal) : (judge cls b).1.bd = b.bd := by
  rcases class_cases cls b.bd with rfl | rfl | rfl
  · rw [judge_still]
  · rw [judge_same]
  · rcases Nat.lt_or_ge (b.run + 1) b.settings.confirm with hr | hr
    · rw [judge_waits b hr]
    · rw [judge_reverses b hr] at h
      exact absurd rfl h

theorem Bellows.judged_bd {b : Bellows} {held : Nat} {r : Int} (h : (b.judged held r).2 ≠ .reversal) :
    (b.judged held r).1.bd = b.bd := by
  rw [Bellows.judged_eq] at h ⊢
  exact judge_bd h

theorem processSample_keysVoiced (m : Nat) {s : State} (hs : s.KeysVoiced []) : (processSample m s).KeysVoiced [] :=
  hs.of_same (by rw [processSample_writes]) (by rw [processSample_writes]) (by rw [processSample_writes])
    (by rw [processSample_vtb])

/-- At a reversal the voiced keys are re-expanded under the new BD, whatever BD they were voiced under (R78). -/
theorem reversed_keysVoiced {s : State} (hs : ∀ x : Crosspoint, s.vtb.voicedAs[x] ≠ none → s.holdsKey x = true) :
    (reversalReexpand s).KeysVoiced [] := by
  have hwork := (reversalReexpand_voiceWork s).1
  intro x hx
  have hvoiced := reexpand_voicedAs true s.bfe.bd ((List.finRange 256).filter fun x => s.vtb.voicedAs[x] ≠ none) s x
  rw [← reversalReexpand_eq] at hvoiced
  have hbsc : (reversalReexpand s).bsc = s.bsc := by rw [hwork]
  have hbfe : (reversalReexpand s).bfe = s.bfe := by rw [hwork]
  rw [hbsc, hbfe, hvoiced]
  rw [hvoiced] at hx
  by_cases hold : s.vtb.voicedAs[x] = none
  · rw [if_neg fun hmem => (decide_eq_true_iff.mp (List.mem_filter.mp hmem).2) hold] at hx
    exact absurd hold hx
  · obtain ⟨hpressed, hplays⟩ := Bool.and_eq_true_iff.mp (hs x hold)
    refine ⟨hplays, .inl hpressed, if_pos (List.mem_filter.mpr ⟨List.mem_finRange x, decide_eq_true_iff.mpr hold⟩)⟩

theorem handOff_keysVoiced {j : Judgement} (m : Nat) {s : State} (hkept : j ≠ .reversal → s.KeysVoiced [])
    (hs : ∀ x : Crosspoint, s.vtb.voicedAs[x] ≠ none → s.holdsKey x = true) : (handOff j m s).KeysVoiced [] := by
  cases j with
  | held => exact hkept nofun
  | processed =>
    have hprocessed := processSample_keysVoiced m (hkept nofun)
    unfold handOff
    exact hprocessed
  | reversal =>
    have htrigger : KeyWork s (triggerCue .reversal s) := (keyWork_kept s).triggerCue (.refl s) .reversal
    have hreversed : (reversalReexpand (triggerCue .reversal s)).KeysVoiced [] := reversed_keysVoiced fun x hx => by
      rw [htrigger.holdsKey]
      exact (htrigger.voiced x hx).2.elim (hs x) id
    have hraised : ((reversalReexpand (triggerCue .reversal s)).raise (.reversal s.bfe.bd)).KeysVoiced [] := hreversed
    rw [handOff_reversal]
    exact processSample_keysVoiced m hraised

theorem sampleArrival_keysVoiced (w : BitVec 16) {s : State} (hs : s.KeysVoiced []) :
    (sampleArrival w s).KeysVoiced [] := by
  have hbsc : (s.sensed w).bsc = s.bsc := (s.sensed_playing w).bsc
  have hvtb : (s.sensed w).vtb = s.vtb := s.sensed_vtb w
  have hbd : (sensorStage w.toInt s.bfe).bd = s.bfe.bd := by rw [sensorStage_keeps]
  rcases sampleArrival_cases w s with ⟨-, e⟩ | ⟨-, e⟩ <;> rw [e]
  · exact keysVoiced_linkBlind.arbitrate
      (hs.of_same (by rw [hbsc]) (by rw [hbsc]) (by rw [State.sensed_bfe, hbd]) (by rw [hvtb]))
  · refine keysVoiced_linkBlind.arbitrate (handOff_keysVoiced _ (fun hj => ?_) fun x hx => ?_)
    · refine hs.of_same (by rw [State.setBfe_bsc, hbsc]) (by rw [State.setBfe_bsc, hbsc]) ?_
        (by rw [State.setBfe_vtb, hvtb])
      rw [State.setBfe_bfe, Bellows.judged_bd hj, hbd]
    · rw [State.setBfe_vtb, hvtb] at hx
      obtain ⟨hheld, -⟩ := (State.keysVoiced_iff s).mp hs x hx
      unfold State.holdsKey
      rw [State.setBfe_bsc, hbsc]
      exact hheld

end Sys2Proof.Machine

/-! PROOF. The requests keep the voiced crosspoints held keys under BD, and so the steps keep the promises of the enable
and of HALTED (R13, R15, R62, R63, R134, R138). -/

namespace Sys2Proof.Machine

/-- A role that no PRESSED crosspoint takes leaves the PRESSED ones theirs (R13). -/
theorem loadRoles_pressed {es : List (Crosspoint × Role)} {b : Scanner}
    (h : ∀ e ∈ es, b.buttons[e.1].pressed = false) (roles : Vector Role 256) {x : Crosspoint}
    (hx : b.buttons[x].pressed = true) : (es.foldl (fun t e => put t e.1 e.2) roles)[x] = roles[x] := by
  induction es generalizing roles with
  | nil => rfl
  | cons e es ih =>
    have hne : x ≠ e.1 := fun hxe => by
      rw [hxe, h e List.mem_cons_self] at hx
      exact Bool.false_ne_true hx
    rw [List.foldl_cons, ih (fun f hf => h f (List.mem_cons_of_mem _ hf)), get_put_ne _ _ hne]

theorem loadRolesOwner_keysVoiced (es : List (Crosspoint × Role)) {s : State} (hs : s.KeysVoiced []) :
    (loadRolesOwner es s).Leaves (State.KeysVoiced []) := by
  refine Verdict.leaves_ite (fun _ => trivial) fun h => ?_
  have hup : ∀ e ∈ es, s.bsc.buttons[e.1].pressed = false := by
    simpa only [List.any_eq_true, not_exists, not_and, Bool.not_eq_true] using h
  intro x hx
  obtain ⟨hplays, hheld, hbd⟩ := hs x hx
  have hpressed : s.bsc.buttons[x].pressed = true := hheld.elim id fun hno => absurd hno List.not_mem_nil
  refine ⟨?_, .inl hpressed, hbd⟩
  change Role.plays ((es.foldl (fun t e => put t e.1 e.2) s.bsc.roles)[x]) = true
  rw [loadRoles_pressed hup s.bsc.roles hpressed]
  exact hplays

theorem setScan_keysVoiced (interval depth : Nat) {s : State} (hs : s.KeysVoiced []) :
    (s.setBsc { s.bsc with
      interval := interval, depth := depth, buttons := clearCounts s.bsc.buttons
      passTimer := some 0 }).KeysVoiced [] := by
  intro x hx
  obtain ⟨hplays, hheld, hbd⟩ := hs x hx
  refine ⟨hplays, ?_, hbd⟩
  change (clearCounts s.bsc.buttons)[x].pressed = true ∨ x ∈ []
  rw [clearCounts_get]
  exact hheld

theorem keysVoiced_of_unvoiced {s : State} (h : ∀ x : Crosspoint, s.vtb.voicedAs[x] = none) : s.KeysVoiced [] :=
  fun x hx => absurd (h x) hx

theorem restartOwner_keysVoiced (u : Unit) (s : State) : (restartOwner u s).Leaves (State.KeysVoiced []) := by
  rw [restartOwner_eq]
  have hframe := restarted_frame s
  have hvoiced (x : Crosspoint) : s.restarted.vtb.voicedAs[x] = none := by
    generalize s.restarted = t at hframe ⊢
    rw [hframe]
    exact get_replicate _ x
  exact keysVoiced_of_unvoiced (s := s.restarted) hvoiced

theorem Calmer.keyWork {s t : State} (hbsc : t.bsc = s.bsc) (hbfe : t.bfe = s.bfe)
    (hvoiced : t.vtb.voicedAs = s.vtb.voicedAs) : KeyWork s t :=
  .of_voicedAs hbsc (by rw [hbfe]) fun x => .inl (by rw [hvoiced])

theorem leavePending_keyWork (s : State) (n : LaneNo) : KeyWork s (s.leavePending n) :=
  .of_vtb (by rw [State.leavePending_frame]) (by rw [State.leavePending_frame]) (by rw [State.leavePending_frame])

theorem setLane_keyWork (s : State) (n : LaneNo) (l : Lane) : KeyWork s (s.setLane n l) := .of_vtb rfl rfl rfl

theorem laneSet_keyWork {s : State} {n : LaneNo} {enable : Bool} (timeout : Nat)
    (h : ¬ (s.lanes[n].state = .dead ∧ enable = true)) : KeyWork s (s.laneSet n enable timeout) := by
  rcases laneSet_cases timeout h with ⟨-, e⟩ | ⟨-, -, -, e⟩ | ⟨-, e⟩ <;> rw [e]
  · exact setLane_keyWork s n _
  · exact Calmer.keyWork (by rw [silenceOn_frame]) (by rw [silenceOn_frame]) (by rw [silenceOn_frame])
  · exact (setLane_keyWork s n _).trans (leavePending_keyWork _ n)

theorem Request.owner_keysVoiced {k : Nat} {p : List Byte} {r : Request} (hr : Request.of k p = some r) (a : r.Fields)
    {s : State} (hs : s.KeysVoiced []) : (r.owner a s).Leaves (State.KeysVoiced []) := by
  have hkept := keyWork_kept s
  have hrefl : KeyWork s s := .refl s
  have hwork {t : State} (h : KeyWork s t) : t.KeysVoiced [] := hs.work h
  fun_cases Request.of k p <;> simp only [Request.of, Option.some.injEq, reduceCtorEq] at hr <;> subst hr
  case case3 => exact restartOwner_keysVoiced a s
  case case7 => exact setScan_keysVoiced _ _ hs
  case case8 => exact loadRolesOwner_keysVoiced a hs
  case case14 => exact hwork (hkept.applySettings hrefl _)
  case case17 | case18 | case19 | case22 =>
    exact Verdict.leaves_ite (fun _ => hwork (hkept.setSst hrefl _)) fun _ => trivial
  case case23 =>
    change (fireCueOwner a s).Leaves _
    unfold fireCueOwner
    split
    · exact Verdict.leaves_ite (fun _ => hwork (hkept.fireArmed hrefl _ _)) fun _ => trivial
    · trivial
  case case24 => exact Verdict.leaves_ite (fun _ => hwork (hkept.transfer hrefl _ _ _)) fun _ => trivial
  case case25 => exact hwork (hkept.selectRegisterIn hrefl _ _)
  case case29 | case31 | case32 => exact hwork (hkept.tierCheck (.of_vtb rfl rfl rfl))
  case case33 =>
    exact Verdict.leaves_ite (fun _ => trivial) fun _ => Verdict.leaves_ite (fun _ => trivial) fun _ =>
      Verdict.leaves_ite (fun _ => hwork (hkept.pushEntry hrefl _ _)) fun _ => trivial
  case case34 =>
    change (popOverrideOwner a s).Leaves _
    unfold popOverrideOwner
    split
    · trivial
    · exact Verdict.leaves_ite (fun _ => hwork (hkept.popTop hrefl _ _)) fun _ => trivial
  case case35 | case36 | case37 | case38 => exact hwork (writeEnable_keyWork _ _ s)
  case case39 => exact hwork (panicPart_keyWork s)
  case case40 => exact Verdict.leaves_ite (fun _ => trivial) fun hdead => hwork (laneSet_keyWork _ hdead)
  case case41 =>
    exact Verdict.leaves_ite (fun _ => trivial) fun _ =>
      hwork (Calmer.keyWork (by rw [reviveLane_frame]) (by rw [reviveLane_frame]) (by rw [reviveLane_frame]))
  all_goals exact hs

theorem recordCompletion_keyWork (n : LaneNo) (s : State) : KeyWork s (recordCompletion n s) := by
  have hpending (p q : LaneSet) : KeyWork s (s.pendingTo p q) := by
    unfold State.pendingTo
    split <;> exact .of_vtb rfl rfl rfl
  have harbiter {t : State} (h : KeyWork s t) : KeyWork s t.arbitrate :=
    h.trans (.of_vtb t.arbitrate_bsc (by rw [State.arbitrate_bfe]) t.arbitrate_vtb)
  rcases recordCompletion_cases n s with e | ⟨r, rest, -, -, e⟩ <;> rw [e]
  · exact .refl s
  refine harbiter ?_
  rcases completed_cases n r rest s with ⟨rfl, hc, hr⟩ | h
  · rw [completed_closes hc hr]
    exact (hpending _ _).trans (setLane_keyWork _ n _)
  · have hsent : KeyWork s (s.recordSent n r) := by
      unfold State.recordSent
      exact hpending _ _
    have hframe := completed_frame h
    have hvoiced : (completed n r rest s).vtb.voicedAs = (s.recordSent n r).vtb.voicedAs := by
      rw [hframe]
      unfold State.recordSent State.pendingTo
      split_ifs <;> rfl
    exact hsent.trans (Calmer.keyWork (by rw [hframe]) (by rw [hframe]) hvoiced)

theorem keysVoiced_kept : KeptByCommands fun s => s.Promised ∧ s.KeysVoiced [] where
  powerOnReset s hs := ⟨promised_kept.powerOnReset s hs.1, keysVoiced_of_unvoiced fun x => get_replicate _ x⟩
  takePass readings s hs := ⟨promised_kept.takePass readings s hs.1, takePass_keysVoiced readings hs.2 hs.1⟩
  sampleArrival w s hs := ⟨promised_kept.sampleArrival w s hs.1, sampleArrival_keysVoiced w hs.2⟩
  streamLossTimeout s hs := by
    refine ⟨promised_kept.streamLossTimeout s hs.1, ?_⟩
    unfold streamLossTimeout raiseSensor
    split
    · have hlost : (s.setBfe { s.bfe with lost := true, lossTimer := none }).KeysVoiced [] := hs.2
      exact keysVoiced_linkBlind.arbitrate (ite_keeps hlost hlost)
    · exact hs.2
  cueLineRise s hs := by
    refine ⟨promised_kept.cueLineRise s hs.1, ?_⟩
    unfold cueLineRise
    simp only []
    split <;> exact hs.2
  cueLineFall s hs := by
    refine ⟨promised_kept.cueLineFall s hs.1, ?_⟩
    unfold cueLineFall
    simp only []
    split <;> exact hs.2
  cueQualificationExpiry s hs := by
    refine ⟨promised_kept.cueQualificationExpiry s hs.1, ?_⟩
    unfold cueQualificationExpiry
    split
    · have hset : (s.setSst { s.sst with detector := .waitFall, qualTimer := none }).KeysVoiced [] := hs.2
      exact keysVoiced_linkBlind.arbitrate (hset.work ((keyWork_kept _).triggerCue (.refl _) .cueLine))
    · exact hs.2
  readyRise n s hs := by
    refine ⟨promised_kept.readyRise n s hs.1, ?_⟩
    unfold readyRise
    split <;> exact hs.2
  readyFall n s hs := by
    refine ⟨promised_kept.readyFall n s hs.1, ?_⟩
    unfold readyFall
    split <;> exact hs.2
  recordCompletion n s hs := ⟨promised_kept.recordCompletion n s hs.1, hs.2.work (recordCompletion_keyWork n s)⟩
  stallExpiry n s hs := by
    refine ⟨promised_kept.stallExpiry n s hs.1, ?_⟩
    unfold stallExpiry
    simp only []
    split
    · have hdead : (((s.setLane n s.lanes[n].dead).clearLane n).leavePending n).KeysVoiced [] :=
        State.KeysVoiced.work (s := (s.setLane n s.lanes[n].dead).clearLane n) hs.2 (leavePending_keyWork _ n)
      exact keysVoiced_linkBlind.arbitrate hdead
    · exact hs.2
  meterExpiry s hs := ⟨promised_kept.meterExpiry s hs.1, keysVoiced_linkBlind.meterExpiry s hs.2⟩
  hostFrameCompletion s hs := ⟨promised_kept.hostFrameCompletion s hs.1, keysVoiced_linkBlind.hostFrameCompletion s hs.2⟩
  request k p r hr kind tag s hs := ⟨promised_kept.request k p r hr kind tag s hs.1,
    keysVoiced_linkBlind.take kind tag hs.2 fun a _ _ => Request.owner_keysVoiced hr a hs.2⟩
  unknown kind tag s hs := ⟨promised_kept.unknown kind tag s hs.1, keysVoiced_linkBlind.unknown kind tag hs.2⟩
  receive s rx buffer gap hs := ⟨promised_kept.receive s rx buffer gap hs.1, hs.2⟩
  drop s hs := ⟨promised_kept.drop s hs.1, hs.2⟩
  discard s hs := ⟨promised_kept.discard s hs.1, hs.2⟩
  tick s hs := ⟨promised_kept.tick s hs.1, hs.2⟩
  queue s pending draws hs := ⟨promised_kept.queue s pending draws hs.1, hs.2⟩

end Sys2Proof.Machine

/-! PROOF. One lane by itself: what each change of a lane keeps of its bounds, its driving and its state (R144 to R154),
and what the changed lane still asks of the voices. -/

namespace Sys2Proof.Machine

/-! ## A lane that is driven -/

/-- What the promises of `Lane.Driven` say of the fields. -/
theorem Lane.driven_iff (l : Lane) :
    l.Driven ↔ (l.sending = true → l.queue ≠ [])
      ∧ (l.transmits = true → l.queue ≠ [] → l.sending = false → l.ready = false)
      ∧ (l.stall.isSome = true ↔ l.transmits = true ∧ l.queue ≠ [] ∧ l.sending = false ∧ l.ready = false ∧ 0 < l.timeout) := by
  unfold Lane.Driven Lane.waiting Lane.hasWork
  simp only [Bool.and_eq_true, Bool.not_eq_true', List.isEmpty_eq_false_iff, and_assoc, not_and, Bool.not_eq_true]

/-- Driving looks at whether the queue is empty, not at what it holds. -/
theorem Lane.Driven.requeued {l m : Lane} (h : l.Driven) (hstate : m.transmits = l.transmits) (hsending : m.sending = l.sending)
    (hready : m.ready = l.ready) (htimeout : m.timeout = l.timeout) (hstall : m.stall.isSome = l.stall.isSome)
    (hqueue : m.queue = [] ↔ l.queue = []) : m.Driven := by
  rw [Lane.driven_iff] at h ⊢
  rw [hstate, hsending, hready, htimeout, hstall]
  simpa only [ne_eq, hqueue] using h

/-- A lane with nothing to begin is not waiting, so its timer does not run. -/
theorem Lane.Driven.idle {l : Lane} (h : l.Driven) (hw : l.hasWork = false) : l.stall = none := by
  by_contra hs
  obtain ⟨ht, hq, hsending, -⟩ := (l.driven_iff.mp h).2.2.mp (Option.isSome_iff_ne_none.mpr hs)
  rw [l.hasWork_iff.mpr ⟨l.transmits_iff.mp ht, hq, hsending⟩] at hw
  cases hw

/-- An empty lane sends nothing. -/
theorem Lane.Driven.empty {l : Lane} (h : l.Driven) (hq : l.queue = []) : l.sending = false := by
  by_contra hs
  exact h.1 (Bool.not_eq_false _ ▸ hs) hq

/-- A lane is driven once it has begun or waits. -/
theorem Lane.beginOrWait_driven {l : Lane} (hsending : l.sending = true → l.queue ≠ [])
    (hstall : l.hasWork = false → l.stall = none) : l.beginOrWait.Driven := by
  have hwork : l.hasWork = true ↔ l.transmits = true ∧ l.queue ≠ [] ∧ l.sending = false := by
    rw [Lane.hasWork_iff, Lane.transmits_iff]
  rcases l.beginOrWait_cases with ⟨hw, hr, e⟩ | ⟨hw, hr, e⟩ | ⟨hw, e⟩ <;> rw [e, Lane.driven_iff]
  · refine ⟨fun _ => (hwork.mp hw).2.1, ?_, ?_⟩ <;> simp
  · obtain ⟨ht, hq, hs⟩ := hwork.mp hw
    refine ⟨hsending, fun _ _ _ => hr, fun h => ⟨ht, hq, hs, hr, ?_⟩, fun ⟨_, _, _, _, h⟩ => ?_⟩
    · exact Nat.pos_of_ne_zero fun h0 => by change l.timeout = 0 at h0; simp [h0] at h
    · simp [Nat.pos_iff_ne_zero.mp h]
  · have hidle : ¬ (l.transmits = true ∧ l.queue ≠ [] ∧ l.sending = false) := fun h => by simp [hwork.mpr h] at hw
    refine ⟨hsending, fun ht hq hs => (hidle ⟨ht, hq, hs⟩).elim, fun h => ?_, fun ⟨ht, hq, hs, _⟩ => (hidle ⟨ht, hq, hs⟩).elim⟩
    rw [hstall hw] at h
    cases h

/-- A record that joins the tail of a driven lane leaves it driven. -/
theorem Lane.Driven.append {l : Lane} (h : l.Driven) (r : LaneRecord) : (l.append r).Driven := by
  by_cases hq : l.queue = []
  · rw [Lane.append_empty r hq]
    refine Lane.beginOrWait_driven (fun _ => List.cons_ne_nil _ _) fun _ => h.idle ?_
    by_contra hw
    exact (l.hasWork_iff.mp (Bool.not_eq_false _ ▸ hw)).2.1 hq
  · rw [Lane.append_nonempty r hq]
    exact h.requeued rfl rfl rfl rfl rfl (by simp [hq])

/-! ## What a changed lane still holds -/

/-- The queue is the record being sent and the unsent ones behind it. -/
theorem Lane.sent_unsent (l : Lane) : l.sent ++ l.unsent = l.queue := by
  unfold Lane.sent Lane.unsent
  split
  · exact List.take_append_drop 1 l.queue
  · rfl

/-- A lane with its unsent records replaced. -/
theorem Lane.unsent_requeued {l : Lane} (h : l.Driven) (u : List LaneRecord) (t : Timer) :
    ({ l with queue := l.sent ++ u, stall := t } : Lane).unsent = u := by
  unfold Lane.sent Lane.unsent
  cases hs : l.sending with
  | false => simp
  | true =>
    obtain ⟨r, rest, hq⟩ := List.exists_cons_of_ne_nil (h.1 hs)
    simp [hq]

/-- Beginning to send takes the head from the unsent records and nothing else. -/
theorem Lane.beginOrWait_unsent (l : Lane) : l.beginOrWait.unsent.Sublist l.unsent := by
  rcases l.beginOrWait_cases with ⟨hw, _, e⟩ | ⟨_, _, e⟩ | ⟨_, e⟩ <;> rw [e]
  · have hs := (l.hasWork_iff.mp hw).2.2
    unfold Lane.unsent
    rw [hs]
    exact List.drop_sublist 1 l.queue
  · exact List.Sublist.refl _

/-- Behind an appended record the unsent records are as they were. -/
theorem Lane.append_unsent {l : Lane} (h : l.Driven) (r : LaneRecord) :
    (l.append r).unsent.Sublist (l.unsent ++ [r]) := by
  by_cases hq : l.queue = []
  · rw [Lane.append_empty r hq]
    refine (Lane.beginOrWait_unsent _).trans ?_
    unfold Lane.unsent
    rw [h.empty hq, hq]
    exact List.Sublist.refl _
  · rw [Lane.append_nonempty r hq]
    unfold Lane.unsent
    obtain ⟨q, rest, hq⟩ := List.exists_cons_of_ne_nil hq
    cases hs : l.sending <;> simp [hq]

end Sys2Proof.Machine

/-! PROOF. One lane with its bounds, its driving and its state together, and the changes that ask nothing new of the voices:
Tiers and Swells, the ready line, the timer, a new timeout (R144 to R155). -/

namespace Sys2Proof.Machine

/-- What every step keeps of one lane by itself (R144, R145, R151 to R154). -/
structure Lane.Sound (l : Lane) : Prop where
  bounded : l.QueueBounded
  driven : l.Driven
  coherent : l.StateCoherent
  owedOnce : l.owed.Nodup

/-- What membership in the silence-pending set and a stale mark promise of the lane (R137). -/
structure Lane.Awaits (l : Lane) (pending stale : Bool) : Prop where
  pending : pending = true → l.transmits = true ∧ .silence ∈ l.queue
  stale : stale = true → l.sendsSilence = true ∧ .silence ∈ l.queue.tail

/-- Lane m holds the Silences of lane l, each where it was: the one being sent, and those behind it. -/
structure Lane.HoldsSilences (l m : Lane) : Prop where
  queued : .silence ∈ l.queue → .silence ∈ m.queue
  sent : l.sending = true → m.sending = true ∧ m.queue.head? = l.queue.head?
    ∧ (.silence ∈ l.queue.tail → .silence ∈ m.queue.tail)

theorem Lane.Awaits.kept {l m : Lane} {p q : Bool} (h : l.Awaits p q) (hstate : l.transmits = true → m.transmits = true)
    (hs : l.HoldsSilences m) : m.Awaits p q where
  pending hp := ⟨hstate (h.pending hp).1, hs.queued (h.pending hp).2⟩
  stale hq := by
    obtain ⟨hsends, htail⟩ := h.stale hq
    obtain ⟨hsending, hhead⟩ := Bool.and_eq_true_iff.mp hsends
    obtain ⟨hm, hm', hrest⟩ := hs.sent hsending
    exact ⟨Bool.and_eq_true_iff.mpr ⟨hm, by rw [hm']; exact hhead⟩, hrest htail⟩

/-- Lane m has the state and the owed-stop list of lane l, asks for no voice that l did not ask for, and holds l's
Silences. -/
structure Lane.Carries (l m : Lane) : Prop extends l.HoldsSilences m where
  state : m.state = l.state
  owed : m.owed = l.owed
  starts : ∀ v, m.unsent.countP (LaneRecord.isStartOf v) ≤ l.unsent.countP (LaneRecord.isStartOf v)

/-- Lane m is lane l after a change of its own. -/
structure Lane.Updates (l m : Lane) : Prop extends l.Carries m where
  sound : l.Sound → m.Sound

theorem Lane.Updates.refl (l : Lane) : l.Updates l where
  queued h := h
  sent h := ⟨h, rfl, id⟩
  state := rfl
  owed := rfl
  starts _ := Nat.le_refl _
  sound h := h

theorem Lane.Updates.trans {l m k : Lane} (h : l.Updates m) (h' : m.Updates k) : l.Updates k where
  queued hq := h'.queued (h.queued hq)
  sent hs := by
    obtain ⟨hm, hhead, htail⟩ := h.sent hs
    obtain ⟨hk, hhead', htail'⟩ := h'.sent hm
    exact ⟨hk, hhead'.trans hhead, fun ht => htail' (htail ht)⟩
  state := h'.state.trans h.state
  owed := h'.owed.trans h.owed
  starts v := (h'.starts v).trans (h.starts v)
  sound hs := h'.sound (h.sound hs)

theorem transmits_of_state {l m : Lane} (h : m.state = l.state) : m.transmits = l.transmits := by
  unfold Lane.transmits
  rw [h]

theorem stateCoherent_of_live {l : Lane} (h : l.state = .live) : l.StateCoherent := by
  refine ⟨fun hs => ?_, fun hs => ?_⟩ <;> simp [h] at hs

/-! ## The line, the timer and the timeout -/

/-- A lane with the queue, the mark and the owed-stop list of another, driven in its own way. -/
theorem Lane.updates_of_same {l m : Lane} (hstate : m.state = l.state) (hqueue : m.queue = l.queue)
    (hsending : m.sending = l.sending) (howed : m.owed = l.owed) (hdriven : l.Sound → m.Driven) : l.Updates m where
  queued h := by rw [hqueue]; exact h
  sent h := by rw [hqueue, hsending]; exact ⟨h, rfl, id⟩
  state := hstate
  owed := howed
  starts v := by unfold Lane.unsent; rw [hqueue, hsending]
  sound h := by
    refine ⟨?_, hdriven h, ?_, by rw [howed]; exact h.owedOnce⟩
    · unfold Lane.QueueBounded Lane.occupancy Lane.unsent
      rw [hqueue, hsending]
      exact h.bounded
    · unfold Lane.StateCoherent
      rw [hstate, hqueue, hsending, howed]
      exact h.coherent

/-- A lane begins to send, or to wait, under a line and a timeout of any value (R151, R154). -/
theorem Lane.updates_begun {l m : Lane} (hstate : m.state = l.state) (hqueue : m.queue = l.queue)
    (hsending : m.sending = l.sending) (howed : m.owed = l.owed) (hstall : l.Sound → m.hasWork = false → m.stall = none) :
    l.Updates m.beginOrWait where
  queued h := by rw [m.beginOrWait_queue, hqueue]; exact h
  sent h := by
    have hw : m.hasWork = false := by
      unfold Lane.hasWork
      rw [hsending, h]
      simp
    rw [Lane.beginOrWait_idle hw, hqueue, hsending]
    exact ⟨h, rfl, id⟩
  state := by rw [m.beginOrWait_state, hstate]
  owed := by rw [m.beginOrWait_owed, howed]
  starts v := by
    refine m.beginOrWait_unsent.countP_le.trans (Nat.le_of_eq ?_)
    unfold Lane.unsent
    rw [hqueue, hsending]
  sound h := by
    have hunsent : m.unsent = l.unsent := by
      unfold Lane.unsent
      rw [hqueue, hsending]
    obtain ⟨hlen, hswell, htier⟩ := h.bounded
    have hdriven : m.beginOrWait.Driven :=
      Lane.beginOrWait_driven (by rw [hqueue, hsending]; exact h.driven.1) (hstall h)
    refine ⟨⟨?_, ?_, ?_⟩, hdriven, ⟨fun hs => ?_, fun hs => ?_⟩, ?_⟩
    · unfold Lane.occupancy
      rw [m.beginOrWait_queue, hqueue]
      exact hlen
    · exact (m.beginOrWait_unsent.countP_le).trans (hunsent ▸ hswell)
    · exact (m.beginOrWait_unsent.countP_le).trans (hunsent ▸ htier)
    · rw [m.beginOrWait_state, hstate] at hs
      obtain ⟨hq, -, ho⟩ := h.coherent.1 hs
      rw [m.beginOrWait_owed, m.beginOrWait_queue, hqueue, howed]
      exact ⟨hq, hdriven.empty (by rw [m.beginOrWait_queue, hqueue, hq]), ho⟩
    · rw [m.beginOrWait_state, hstate] at hs
      rw [m.beginOrWait_owed, m.beginOrWait_queue, hqueue, howed]
      exact h.coherent.2 hs
    · rw [m.beginOrWait_owed, howed]
      exact h.owedOnce

/-- The ready line takes a level (R151, R154). -/
theorem Lane.updates_ready (l : Lane) (b : Bool) : l.Updates ({ l with ready := b } : Lane).beginOrWait :=
  Lane.updates_begun rfl rfl rfl rfl fun h => h.driven.idle

/-- A lane that begins or waits anew (R159). -/
theorem Lane.updates_beginOrWait (l : Lane) : l.Updates l.beginOrWait :=
  Lane.updates_begun rfl rfl rfl rfl fun h => h.driven.idle

/-- A new timeout (R157). -/
theorem Lane.updates_setTimeout (l : Lane) (t : Nat) : l.Updates (l.setTimeout t) := by
  unfold Lane.setTimeout
  simp only []
  split
  · exact Lane.updates_begun rfl rfl rfl rfl fun h => h.driven.idle
  · next hw =>
    refine Lane.updates_of_same rfl rfl rfl rfl fun h => ?_
    obtain ⟨hq, hr, hs⟩ := h.driven
    refine ⟨hq, hr, fun hsome => ?_, fun ⟨hwaits, _⟩ => (hw hwaits).elim⟩
    exact (hw (hs.mp hsome).1).elim

end Sys2Proof.Machine

/-! PROOF. Records that join a lane's queue or take the place of one in it: Tiers and Swells (R112, R115, R148), Starts and
Stops (R146, R147), withdrawals (R149). -/

namespace Sys2Proof.Machine

/-! ## A record at the tail -/

theorem Lane.append_holds {l : Lane} (h : l.Driven) (r : LaneRecord) : l.HoldsSilences (l.append r) where
  queued hq := by
    rw [Lane.append_queue]
    exact List.mem_append_left _ hq
  sent hs := by
    obtain ⟨q, rest, hq⟩ := List.exists_cons_of_ne_nil (h.1 hs)
    rw [Lane.append_nonempty r (h.1 hs), hq]
    exact ⟨hs, rfl, fun ht => List.mem_append_left _ ht⟩

/-- How many records of a kind are unsent behind an appended one. -/
theorem Lane.append_countP {l : Lane} (h : l.Driven) (r : LaneRecord) (p : LaneRecord → Bool) :
    (l.append r).unsent.countP p ≤ l.unsent.countP p + if p r then 1 else 0 := by
  refine (Lane.append_unsent h r).countP_le.trans (Nat.le_of_eq ?_)
  rw [List.countP_append, List.countP_singleton]

/-- A LIVE lane takes a record at its tail while there is room, an update only with none of its kind unsent. -/
theorem Lane.Sound.append {l : Lane} (h : l.Sound) {r : LaneRecord} (hlive : l.state = .live) (hroom : l.queue.length < 32)
    (hswell : r.isSwell = true → l.unsent.countP LaneRecord.isSwell = 0)
    (htier : r.isTier = true → l.unsent.countP LaneRecord.isTier = 0) : (l.append r).Sound := by
  obtain ⟨-, hswells, htiers⟩ := h.bounded
  refine ⟨⟨?_, (Lane.append_countP h.driven r _).trans ?_, (Lane.append_countP h.driven r _).trans ?_⟩,
    h.driven.append r, stateCoherent_of_live (by rw [Lane.append_state, hlive]), by rw [Lane.append_owed]; exact h.owedOnce⟩
  · unfold Lane.occupancy
    rw [Lane.append_queue, List.length_append, List.length_singleton]
    exact hroom
  · split
    · next hr => rw [hswell hr]
    · exact hswells
  · split
    · next hr => rw [htier hr]
    · exact htiers

/-! ## A record in the place of another -/

theorem replaceFirst_countP {p f : LaneRecord → Bool} {r : LaneRecord} (h : ∀ q, p q = true → f q = f r) (qs : List LaneRecord) :
    (replaceFirst p r qs).countP f = qs.countP f := by
  induction qs with
  | nil => rfl
  | cons q qs ih =>
    unfold replaceFirst
    split
    · next hp => rw [List.countP_cons, List.countP_cons, h q hp]
    · rw [List.countP_cons, List.countP_cons, ih]

theorem mem_replaceFirst {p : LaneRecord → Bool} {r q : LaneRecord} {qs : List LaneRecord} (hq : q ∈ qs)
    (hp : p q = false) : q ∈ replaceFirst p r qs := by
  induction qs with
  | nil => cases hq
  | cons a qs ih =>
    unfold replaceFirst
    rcases List.mem_cons.mp hq with rfl | hq
    · rw [if_neg (by rw [hp]; exact Bool.false_ne_true)]
      exact List.mem_cons_self
    · split
      · exact List.mem_cons_of_mem _ hq
      · exact List.mem_cons_of_mem _ (ih hq)

theorem replaceFirst_length (p : LaneRecord → Bool) (r : LaneRecord) (qs : List LaneRecord) :
    (replaceFirst p r qs).length = qs.length := by
  rw [← List.countP_true]
  exact replaceFirst_countP (fun _ _ => rfl) qs

/-- A lane whose unsent records are others holds its Silences if the unsent ones are among them. -/
theorem Lane.requeued_holds {l : Lane} (h : l.Driven) {u : List LaneRecord} (t : Timer) (hu : .silence ∈ l.unsent → .silence ∈ u) :
    l.HoldsSilences { l with queue := l.sent ++ u, stall := t } where
  queued hq := by
    rw [← l.sent_unsent] at hq
    exact List.mem_append.mpr ((List.mem_append.mp hq).imp_right hu)
  sent hs := by
    obtain ⟨q, rest, hq⟩ := List.exists_cons_of_ne_nil (h.1 hs)
    have hsent : l.sent = [q] := by simp [Lane.sent, hs, hq]
    have hunsent : l.unsent = rest := by simp [Lane.unsent, hs, hq]
    rw [hunsent] at hu
    rw [hsent, hq]
    exact ⟨hs, rfl, hu⟩

/-- The Tier and the Swell records, with the test that finds the unsent one of the kind. -/
def IsUpdate (p : LaneRecord → Bool) (r : LaneRecord) : Prop :=
  (p = LaneRecord.isTier ∧ ∃ c, r = .tier c) ∨ (p = LaneRecord.isSwell ∧ ∃ x, r = .swell x)

theorem IsUpdate.same {p : LaneRecord → Bool} {r : LaneRecord} (h : IsUpdate p r) :
    (∀ q, p q = true → (∀ v, LaneRecord.isStartOf v q = false) ∧ LaneRecord.isSwell q = r.isSwell ∧ q.isTier = r.isTier)
      ∧ (∀ v, LaneRecord.isStartOf v r = false) ∧ p .silence = false
      ∧ (r.isSwell = true → p = LaneRecord.isSwell) ∧ (r.isTier = true → p = LaneRecord.isTier) := by
  rcases h with ⟨rfl, c, rfl⟩ | ⟨rfl, x, rfl⟩
  all_goals
    refine ⟨fun q hq => ?_, fun _ => rfl, rfl, fun h => by cases h <;> rfl, fun h => by cases h <;> rfl⟩
    cases q <;> cases hq
    exact ⟨fun _ => rfl, rfl, rfl⟩

theorem countP_zero_of_any {p : LaneRecord → Bool} {qs : List LaneRecord} (h : qs.any p = false) : qs.countP p = 0 := by
  rw [List.countP_eq_zero]
  intro q hq hp
  rw [List.any_eq_false] at h
  exact h q hq hp

/-- A LIVE lane that has been offered a Tier or a Swell (R148). -/
theorem Lane.updates_offered {l : Lane} (hl : l.Sound) (hlive : l.state = .live) {p : LaneRecord → Bool} {r : LaneRecord}
    (h : IsUpdate p r) : l.Updates ((l.takeUpdate p r).getD l) := by
  obtain ⟨hsame, hstart, hsilence, hswell, htier⟩ := h.same
  rcases l.takeUpdate_cases p r with ⟨-, e⟩ | ⟨hany, hroom, e⟩ | ⟨-, -, e⟩ <;> rw [e]
  · have hunsent := Lane.unsent_requeued hl.driven (replaceFirst p r l.unsent) l.stall
    have hcount (f : LaneRecord → Bool) (hf : ∀ q, p q = true → f q = f r) :
        ({ l with queue := l.sent ++ replaceFirst p r l.unsent } : Lane).unsent.countP f = l.unsent.countP f :=
      (congrArg _ hunsent).trans (replaceFirst_countP hf l.unsent)
    have hlength : (l.sent ++ replaceFirst p r l.unsent).length = l.queue.length := by
      rw [List.length_append, replaceFirst_length, ← List.length_append, l.sent_unsent]
    refine ⟨⟨Lane.requeued_holds hl.driven l.stall fun hq => mem_replaceFirst hq hsilence, rfl, rfl, fun v =>
      Nat.le_of_eq (hcount _ fun q hq => ((hsame q hq).1 v).trans (hstart v).symm)⟩, fun _ => ?_⟩
    obtain ⟨hlen, hswells, htiers⟩ := hl.bounded
    refine ⟨⟨hlength.trans_le hlen, ?_, ?_⟩, ?_, stateCoherent_of_live hlive, hl.owedOnce⟩
    · exact (hcount _ fun q hq => (hsame q hq).2.1).trans_le hswells
    · exact (hcount _ fun q hq => (hsame q hq).2.2).trans_le htiers
    · refine hl.driven.requeued rfl rfl rfl rfl rfl ?_
      rw [← List.length_eq_zero_iff, ← List.length_eq_zero_iff]
      exact Eq.congr hlength rfl
  · refine ⟨⟨Lane.append_holds hl.driven r, Lane.append_state l r, Lane.append_owed l r, fun v => ?_⟩, fun _ => ?_⟩
    · refine (Lane.append_countP hl.driven r _).trans (Nat.le_of_eq ?_)
      rw [hstart v]
      rfl
    · exact hl.append hlive hroom (fun hr => hswell hr ▸ countP_zero_of_any hany) fun hr => htier hr ▸ countP_zero_of_any hany
  · exact .refl l

/-- A timer that is a quarter millisecond older (R155). -/
theorem Lane.updates_tick (l : Lane) : l.Updates { l with stall := Timer.tick l.stall } := by
  refine Lane.updates_of_same rfl rfl rfl rfl fun h => h.driven.requeued rfl rfl rfl rfl ?_ .rfl
  cases l.stall <;> rfl

end Sys2Proof.Machine

/-! PROOF. What one lane and one voice say of one another (R134, R144, R145, R153), and what the end of a voice (R65) and its
Start (R70, R146) make of it. -/

namespace Sys2Proof.Machine

/-- Lane l, number n, and the voice y of slot v agree: the voice's sets name a LIVE lane only, the lane owes the voice's Stop
exactly when the voice says so, and its one unsent Start of the voice is that of a SOUNDING voice that names the lane. -/
structure Lane.Agrees (n : LaneNo) (l : Lane) (v : Slot) (y : Voice) : Prop where
  lanes : LaneSet.has y.lanes n = true → l.state = .live
  owed : LaneSet.has y.owed n = true → l.state = .live
  owes : LaneSet.has y.owed n = true ↔ v ∈ l.owed
  once : l.unsent.countP (LaneRecord.isStartOf v) ≤ 1
  starts : 0 < l.unsent.countP (LaneRecord.isStartOf v) → y.state = .sounding ∧ LaneSet.has y.lanes n = true

theorem Lane.Agrees.carried {n : LaneNo} {l m : Lane} {v : Slot} {y : Voice} (h : Lane.Agrees n l v y) (hm : l.Carries m) :
    Lane.Agrees n m v y where
  lanes hy := hm.state.trans (h.lanes hy)
  owed hy := hm.state.trans (h.owed hy)
  owes := hm.owed ▸ h.owes
  once := (hm.starts v).trans h.once
  starts hm' := h.starts (Nat.lt_of_lt_of_le hm' (hm.starts v))

/-- A lane and a voice that have nothing to do with one another agree. -/
theorem Lane.Agrees.apart {n : LaneNo} {l : Lane} {v : Slot} {y : Voice} (hlanes : LaneSet.has y.lanes n = false)
    (howed : LaneSet.has y.owed n = false) (hv : v ∉ l.owed) (hstarts : l.unsent.countP (LaneRecord.isStartOf v) = 0) :
    Lane.Agrees n l v y where
  lanes h := (Bool.false_ne_true (hlanes.symm.trans h)).elim
  owed h := (Bool.false_ne_true (howed.symm.trans h)).elim
  owes := ⟨fun h => (Bool.false_ne_true (howed.symm.trans h)).elim, fun h => (hv h).elim⟩
  once := by rw [hstarts]; exact Nat.zero_le 1
  starts h := by rw [hstarts] at h; exact (Nat.lt_irrefl 0 h).elim

/-- Of a voice that does not name the lane, the lane knows nothing but what it owes. -/
theorem Lane.Agrees.no_start {n : LaneNo} {l : Lane} {v : Slot} {y : Voice} (h : Lane.Agrees n l v y)
    (hy : y.state ≠ .sounding ∨ LaneSet.has y.lanes n = false) : l.unsent.countP (LaneRecord.isStartOf v) = 0 := by
  by_contra hne
  obtain ⟨hs, hl⟩ := h.starts (Nat.pos_of_ne_zero hne)
  rcases hy with hy | hy
  · exact hy hs
  · exact Bool.false_ne_true (hy.symm.trans hl)

theorem Lane.Agrees.not_owed {n : LaneNo} {l : Lane} {v : Slot} {y : Voice} (h : Lane.Agrees n l v y)
    (hy : LaneSet.has y.owed n = false) : v ∉ l.owed :=
  fun hv => Bool.false_ne_true (hy.symm.trans (h.owes.mpr hv))

/-- Agreement reads a voice's state and its two lane sets alone. -/
theorem Lane.Agrees.same {n : LaneNo} {l : Lane} {v : Slot} {y z : Voice} (h : Lane.Agrees n l v y)
    (hstate : z.state = y.state) (hlanes : z.lanes = y.lanes) (howed : z.owed = y.owed) : Lane.Agrees n l v z where
  lanes hz := h.lanes (hlanes ▸ hz)
  owed hz := h.owed (howed ▸ hz)
  owes := howed ▸ h.owes
  once := h.once
  starts hl := by rw [hstate, hlanes]; exact h.starts hl

theorem LaneSet.not_has_zero (n : LaneNo) : LaneSet.has 0 n = false := (LaneSet.eq_zero_iff 0).mp rfl n

/-! ## Settling the end of a voice (R65) -/

theorem Lane.settled_owed (l : Lane) (v : Slot) :
    (l.settled v).1.owed = if (l.settled v).2 = true then l.owed ++ [v] else l.owed := by
  rcases l.settled_cases v with ⟨_, e⟩ | ⟨_, _, e⟩ | ⟨_, _, e⟩ <;> rw [e]
  · rfl
  · exact Lane.append_owed l _
  · rfl

/-- A Start is a voice's own. -/
theorem isStartOf_unique {v w : Slot} {r : LaneRecord} (hv : LaneRecord.isStartOf v r = true)
    (hw : LaneRecord.isStartOf w r = true) : v = w := by
  cases r with
  | start u _ _ _ => exact (beq_iff_eq.mp hv).symm.trans (beq_iff_eq.mp hw)
  | _ => cases hv

theorem countP_eraseP_same {p : LaneRecord → Bool} {qs : List LaneRecord} (h : qs.countP p ≤ 1) : (qs.eraseP p).countP p = 0 := by
  induction qs with
  | nil => rfl
  | cons q qs ih =>
    rw [List.countP_cons] at h
    by_cases hq : p q = true
    · rw [if_pos hq] at h
      rw [List.eraseP_cons_of_pos hq]
      exact Nat.eq_zero_of_le_zero (Nat.le_of_succ_le_succ h)
    · rw [List.eraseP_cons_of_neg hq, List.countP_cons, if_neg hq]
      rw [if_neg hq] at h
      exact ih h

/-- What settling leaves: the voice's own Start is gone, other voices' Starts stay or go, and the Silences stay. -/
theorem Lane.settled_starts {l : Lane} (h : l.Driven) {v : Slot} (hv : l.unsent.countP (LaneRecord.isStartOf v) ≤ 1) :
    (l.settled v).1.unsent.countP (LaneRecord.isStartOf v) = 0
      ∧ (∀ w, (l.settled v).1.unsent.countP (LaneRecord.isStartOf w) ≤ l.unsent.countP (LaneRecord.isStartOf w))
      ∧ l.HoldsSilences (l.settled v).1 := by
  rcases l.settled_cases v with ⟨-, e⟩ | ⟨hany, -, e⟩ | ⟨hany, -, e⟩ <;> rw [e]
  · have hunsent := Lane.unsent_requeued h (l.unsent.eraseP (LaneRecord.isStartOf v))
      (if l.sent ++ l.unsent.eraseP (LaneRecord.isStartOf v) = [] then none else l.stall)
    refine ⟨(congrArg _ hunsent).trans (countP_eraseP_same hv), fun w => ?_, Lane.requeued_holds h _ fun hq =>
      (List.mem_eraseP_of_neg Bool.false_ne_true).mpr hq⟩
    exact (congrArg _ hunsent).trans_le List.eraseP_sublist.countP_le
  · have hcount (w : Slot) : (l.append (.stop v)).unsent.countP (LaneRecord.isStartOf w) ≤ l.unsent.countP (LaneRecord.isStartOf w) :=
      Lane.append_countP h (.stop v) (LaneRecord.isStartOf w)
    exact ⟨Nat.eq_zero_of_le_zero ((hcount v).trans (countP_zero_of_any hany).le), hcount, Lane.append_holds h _⟩
  · exact ⟨countP_zero_of_any hany, fun _ => Nat.le_refl _, ⟨id, fun hs => ⟨hs, rfl, id⟩⟩⟩

/-- A LIVE lane that does not owe the voice's Stop is sound when the voice's end has been settled on it. -/
theorem Lane.Sound.settled {l : Lane} (h : l.Sound) (hlive : l.state = .live) {v : Slot} (hv : v ∉ l.owed) :
    (l.settled v).1.Sound := by
  obtain ⟨hlen, hswells, htiers⟩ := h.bounded
  rcases l.settled_cases v with ⟨hany, e⟩ | ⟨-, ⟨-, hroom⟩, e⟩ | ⟨-, -, e⟩ <;> rw [e]
  · have hunsent := Lane.unsent_requeued h.driven (l.unsent.eraseP (LaneRecord.isStartOf v))
      (if l.sent ++ l.unsent.eraseP (LaneRecord.isStartOf v) = [] then none else l.stall)
    have hqueue : (l.sent ++ l.unsent.eraseP (LaneRecord.isStartOf v)).Sublist l.queue := by
      conv_rhs => rw [← l.sent_unsent]
      exact List.Sublist.append_left List.eraseP_sublist _
    refine ⟨⟨hqueue.length_le.trans hlen, ?_, ?_⟩, ?_, stateCoherent_of_live hlive, h.owedOnce⟩
    · exact ((congrArg _ hunsent).trans_le List.eraseP_sublist.countP_le).trans hswells
    · exact ((congrArg _ hunsent).trans_le List.eraseP_sublist.countP_le).trans htiers
    · by_cases hempty : l.sent ++ l.unsent.eraseP (LaneRecord.isStartOf v) = []
      · have hsending : l.sending = false := by
          by_contra hs
          have hsent := (List.append_eq_nil_iff.mp hempty).1
          obtain ⟨q, rest, hq⟩ := List.exists_cons_of_ne_nil (h.driven.1 (Bool.not_eq_false _ ▸ hs))
          simp [Lane.sent, hs, hq] at hsent
        rw [Lane.driven_iff, if_pos hempty]
        exact ⟨fun hs => (Bool.false_ne_true (hsending.symm.trans hs)).elim, fun _ hq => (hq hempty).elim,
          fun hs => (Bool.false_ne_true hs).elim, fun hs => (hs.2.1 hempty).elim⟩
      · refine h.driven.requeued rfl rfl rfl rfl (by rw [if_neg hempty]) (iff_of_false hempty fun hq => ?_)
        exact hempty (List.sublist_nil.mp (hq ▸ hqueue))
  · exact h.append hlive hroom nofun nofun
  · refine ⟨h.bounded, h.driven.requeued rfl rfl rfl rfl rfl .rfl, stateCoherent_of_live hlive, ?_⟩
    have hnodup := h.owedOnce.concat hv
    rwa [List.concat_eq_append] at hnodup

/-- The lane after the end of voice v, whose lane set may name it, agrees with the voice that is left. -/
theorem Lane.Agrees.ended {n : LaneNo} {l : Lane} {v : Slot} {y z : Voice} (h : Lane.Agrees n l v y) (hl : l.Sound)
    (hy : LaneSet.has y.owed n = false) (hlanes : LaneSet.has z.lanes n = false)
    (howed : LaneSet.has z.owed n = (LaneSet.has y.lanes n && (l.settled v).2)) :
    Lane.Agrees n (if LaneSet.has y.lanes n = true then (l.settled v).1 else l) v z := by
  by_cases hn : LaneSet.has y.lanes n = true
  · rw [if_pos hn]
    rw [hn, Bool.true_and] at howed
    have hlive := h.lanes hn
    have hstart := (Lane.settled_starts hl.driven h.once).1
    refine ⟨fun _ => (l.settled_keeps v).1.trans hlive, fun _ => (l.settled_keeps v).1.trans hlive, ?_, ?_, fun hs => ?_⟩
    · rw [howed, Lane.settled_owed]
      split
      · next ho => simp [ho]
      · next ho => simp [ho, h.not_owed hy]
    · rw [hstart]
      exact Nat.zero_le 1
    · rw [hstart] at hs
      exact (Nat.lt_irrefl 0 hs).elim
  · rw [if_neg hn]
    have hno := Bool.not_eq_true _ ▸ hn
    exact .apart hlanes (by rw [howed, hno, Bool.false_and]) (h.not_owed hy) (h.no_start (.inr hno))

/-- With any other voice the lane agrees as before. -/
theorem Lane.Agrees.settled {n : LaneNo} {l : Lane} {v w : Slot} {y : Voice} (h : Lane.Agrees n l w y) (hl : l.Driven)
    (hv : l.unsent.countP (LaneRecord.isStartOf v) ≤ 1) (hw : w ≠ v) : Lane.Agrees n (l.settled v).1 w y := by
  have hcount := (Lane.settled_starts hl hv).2.1 w
  have hstate := (l.settled_keeps v).1
  refine ⟨fun hy => hstate.trans (h.lanes hy), fun hy => hstate.trans (h.owed hy), ?_, hcount.trans h.once,
    fun hs => h.starts (Nat.lt_of_lt_of_le hs hcount)⟩
  rw [h.owes, Lane.settled_owed]
  split
  · simp [hw]
  · exact .rfl

/-! ## A Start (R70, R146) -/

theorem isStartOf_start (v w : Slot) (program : Program) (pitch : Pitch) (code : TierCode) :
    LaneRecord.isStartOf w (.start v program pitch code) = true ↔ v = w := beq_iff_eq

/-- A lane that takes the Start of a slot it knows nothing of agrees with the voice that names it. -/
theorem Lane.Agrees.started {n : LaneNo} {l : Lane} {v : Slot} {y z : Voice} (h : Lane.Agrees n l v y) (hl : l.Driven)
    (hlive : l.state = .live) (hy : y.state ≠ .sounding) (ho : LaneSet.has y.owed n = false) (hz : z.state = .sounding)
    (hlanes : LaneSet.has z.lanes n = true) (howed : LaneSet.has z.owed n = false) (program : Program) (pitch : Pitch)
    (code : TierCode) : Lane.Agrees n (l.append (.start v program pitch code)) v z := by
  have hstate : (l.append (.start v program pitch code)).state = .live := (Lane.append_state _ _).trans hlive
  refine ⟨fun _ => hstate, fun _ => hstate, ?_, ?_, fun _ => ⟨hz, hlanes⟩⟩
  · rw [howed, Lane.append_owed]
    exact iff_of_false Bool.false_ne_true (h.not_owed ho)
  · refine (Lane.append_countP hl _ _).trans ?_
    rw [h.no_start (.inl hy), Nat.zero_add]
    split
    · exact Nat.le_refl 1
    · exact Nat.zero_le 1

/-- With any other voice the lane agrees as before. -/
theorem Lane.Agrees.startedOther {n : LaneNo} {l : Lane} {v w : Slot} {y : Voice} (h : Lane.Agrees n l w y) (hl : l.Driven)
    (hw : w ≠ v) (program : Program) (pitch : Pitch) (code : TierCode) :
    Lane.Agrees n (l.append (.start v program pitch code)) w y := by
  have hcount : (l.append (.start v program pitch code)).unsent.countP (LaneRecord.isStartOf w)
      ≤ l.unsent.countP (LaneRecord.isStartOf w) := by
    refine (Lane.append_countP hl _ _).trans (Nat.le_of_eq ?_)
    rw [if_neg fun hs => hw ((isStartOf_start v w program pitch code).mp hs).symm, Nat.add_zero]
  exact ⟨fun hy => (Lane.append_state _ _).trans (h.lanes hy), fun hy => (Lane.append_state _ _).trans (h.owed hy),
    (Lane.append_owed l _) ▸ h.owes, hcount.trans h.once, fun hs => h.starts (Nat.lt_of_lt_of_le hs hcount)⟩

end Sys2Proof.Machine

/-! PROOF. What a Silence makes of a lane (R150, R116), what the completion of a record makes of it (R152, R153), and what is
left of a voice that the lane is cleared from (R68) or has delivered the Stop of (R67). -/

namespace Sys2Proof.Machine

/-! ## A Silence on a lane (R150) -/

theorem Lane.silenced_begun {l : Lane} (h : l.Driven) (ht : l.transmits = true) (behind : List LaneRecord) :
    l.silenced behind
      = if l.queue = [] then ({ l with queue := .silence :: behind, owed := [] } : Lane).beginOrWait
        else { l with queue := l.sent ++ .silence :: behind, owed := [] } := by
  unfold Lane.silenced
  by_cases hq : l.queue = []
  · have hwork : ({ l with queue := .silence :: behind, owed := [] } : Lane).hasWork = true :=
      (Lane.hasWork_iff _).mpr ⟨l.transmits_iff.mp ht, List.cons_ne_nil _ _, h.empty hq⟩
    rw [if_pos ⟨hq, h.empty hq⟩, if_pos hq, Lane.beginOrWait_work hwork]
  · rw [if_neg fun c => hq c.1, if_neg hq]

/-- What is put behind a Silence: nothing, or on a LIVE lane the Tier and the Swell in force (R116). -/
def Lane.Behind (l : Lane) (behind : List LaneRecord) : Prop :=
  behind = [] ∨ (l.state = .live ∧ ∃ c x, behind = [.tier c, .swell x])

theorem Lane.Behind.counts {l : Lane} {behind : List LaneRecord} (h : l.Behind behind) :
    behind.length ≤ 2 ∧ behind.countP LaneRecord.isSwell ≤ 1 ∧ behind.countP LaneRecord.isTier ≤ 1
      ∧ ∀ v, behind.countP (LaneRecord.isStartOf v) = 0 := by
  rcases h with rfl | ⟨-, c, x, rfl⟩
  · exact ⟨Nat.zero_le _, Nat.zero_le _, Nat.zero_le _, fun _ => rfl⟩
  · exact ⟨Nat.le_refl _, Nat.le_refl _, Nat.le_refl _, fun _ => rfl⟩

theorem Lane.sent_length (l : Lane) : l.sent.length ≤ 1 := by
  unfold Lane.sent
  split
  · exact List.length_take_le 1 l.queue
  · exact Nat.zero_le 1

section
variable {l : Lane} (h : l.Driven) (ht : l.transmits = true) {behind : List LaneRecord} (hb : l.Behind behind)
include h ht

theorem Lane.silenced_queue (behind : List LaneRecord) : (l.silenced behind).queue = l.sent ++ .silence :: behind := by
  rw [Lane.silenced_begun h ht]
  split
  · next hq =>
    have hsent : l.sent = [] := by simp [Lane.sent, hq]
    rw [Lane.beginOrWait_queue, hsent, List.nil_append]
  · rfl

theorem Lane.silenced_state (behind : List LaneRecord) : (l.silenced behind).state = l.state := by
  rw [Lane.silenced_begun h ht]
  split
  · exact Lane.beginOrWait_state _
  · rfl

theorem Lane.silenced_unsent (behind : List LaneRecord) : (l.silenced behind).unsent.Sublist (.silence :: behind) := by
  rw [Lane.silenced_begun h ht]
  split
  · next hq =>
    refine (Lane.beginOrWait_unsent _).trans ?_
    unfold Lane.unsent
    rw [h.empty hq]
    exact List.Sublist.refl _
  · have hunsent : ({ l with queue := l.sent ++ .silence :: behind, owed := [] } : Lane).unsent = .silence :: behind :=
      Lane.unsent_requeued h _ l.stall
    rw [hunsent]

include hb

theorem Lane.silenced_sound : (l.silenced behind).Sound := by
  obtain ⟨hlen, hswells, htiers, -⟩ := hb.counts
  have hunsent := Lane.silenced_unsent h ht behind
  have hqueue := Lane.silenced_queue h ht behind
  have hstate := Lane.silenced_state h ht behind
  refine ⟨⟨?_, hunsent.countP_le.trans hswells, hunsent.countP_le.trans htiers⟩, ?_, ⟨fun hs => ?_, fun hs => ?_⟩, ?_⟩
  · have hsent := l.sent_length
    unfold Lane.occupancy
    rw [hqueue, List.length_append, List.length_cons]
    omega
  · rw [Lane.silenced_begun h ht]
    split
    · refine Lane.beginOrWait_driven (fun _ => List.cons_ne_nil _ _) fun _ => h.idle ?_
      next hq _ =>
        by_contra hw
        exact (l.hasWork_iff.mp (Bool.not_eq_false _ ▸ hw)).2.1 hq
    · next hq => exact h.requeued rfl rfl rfl rfl rfl (by simp [hq])
  · rw [hstate] at hs
    rcases l.transmits_iff.mp ht with hl | hl <;> simp [hl] at hs
  · rw [hstate] at hs
    refine ⟨l.silenced_owed behind, ?_⟩
    rcases hb with rfl | ⟨hl, -⟩
    · rw [hqueue, List.getLast?_append_cons, List.getLast?_singleton]
    · rw [hs] at hl
      cases hl
  · rw [l.silenced_owed behind]
    exact List.nodup_nil

theorem Lane.silenced_no_start (v : Slot) : (l.silenced behind).unsent.countP (LaneRecord.isStartOf v) = 0 :=
  Nat.eq_zero_of_le_zero ((Lane.silenced_unsent h ht behind).countP_le.trans (hb.counts.2.2.2 v).le)

omit hb

/-- A silenced lane may be in the silence-pending set, and may be marked as sending a Silence if it was. -/
theorem Lane.silenced_awaits (behind : List LaneRecord) : (l.silenced behind).Awaits true l.sendsSilence where
  pending _ := by
    rw [transmits_of_state (Lane.silenced_state h ht behind), Lane.silenced_queue h ht]
    exact ⟨ht, List.mem_append_right _ List.mem_cons_self⟩
  stale hs := by
    obtain ⟨hsending, hhead⟩ := Bool.and_eq_true_iff.mp hs
    obtain ⟨q, rest, hq⟩ := List.exists_cons_of_ne_nil (h.1 hsending)
    have hsent : l.sent = [q] := by simp [Lane.sent, hsending, hq]
    have hne : l.queue ≠ [] := h.1 hsending
    rw [Lane.silenced_begun h ht, if_neg hne, hsent]
    refine ⟨Bool.and_eq_true_iff.mpr ⟨hsending, ?_⟩, List.mem_cons_self⟩
    rw [hq] at hhead
    exact hhead

end

theorem Lane.Awaits.mono {l : Lane} {p q p' q' : Bool} (h : l.Awaits p q) (hp : p' = true → p = true)
    (hq : q' = true → q = true) : l.Awaits p' q' := ⟨fun h' => h.pending (hp h'), fun h' => h.stale (hq h')⟩

theorem Lane.awaits_nothing (l : Lane) : l.Awaits false false := ⟨nofun, nofun⟩

/-! ## A voice that a lane is cleared from (R68) -/

theorem Voice.cleared_apart {y : Voice} (h : y.Coherent) (n : LaneNo) :
    LaneSet.has (y.cleared n).lanes n = false ∧ LaneSet.has (y.cleared n).owed n = false := by
  by_cases hf : y.state = .free
  · obtain ⟨-, hlanes, howed⟩ := h.1 hf
    rw [Voice.cleared_free n hf, hlanes, howed]
    exact ⟨LaneSet.not_has_zero n, LaneSet.not_has_zero n⟩
  · rw [Voice.cleared_not_free n hf, LaneSet.has_remove, LaneSet.has_remove]
    simp

theorem Voice.cleared_other (y : Voice) {n k : LaneNo} (h : k ≠ n) :
    LaneSet.has (y.cleared n).lanes k = LaneSet.has y.lanes k ∧ LaneSet.has (y.cleared n).owed k = LaneSet.has y.owed k := by
  by_cases hf : y.state = .free
  · rw [Voice.cleared_free n hf]
    exact ⟨rfl, rfl⟩
  · rw [Voice.cleared_not_free n hf, LaneSet.has_remove, LaneSet.has_remove]
    simp [h]

/-- The voices' sets hold the same of lane n, and the same voice sounds. -/
theorem Lane.Agrees.alike {n : LaneNo} {l : Lane} {v : Slot} {y z : Voice} (h : Lane.Agrees n l v y)
    (hstate : z.state = .sounding ↔ y.state = .sounding) (hlanes : LaneSet.has z.lanes n = LaneSet.has y.lanes n)
    (howed : LaneSet.has z.owed n = LaneSet.has y.owed n) : Lane.Agrees n l v z where
  lanes hz := h.lanes (hlanes ▸ hz)
  owed hz := h.owed (howed ▸ hz)
  owes := howed ▸ h.owes
  once := h.once
  starts hl := by rw [hstate, hlanes]; exact h.starts hl

theorem Lane.Agrees.clearedOther {n k : LaneNo} {l : Lane} {v : Slot} {y : Voice} (h : Lane.Agrees k l v y) (hk : k ≠ n) :
    Lane.Agrees k l v (y.cleared n) :=
  h.alike (y.cleared_sounding n) (y.cleared_other hk).1 (y.cleared_other hk).2

/-! ## The completion of a record (R152, R153, R67) -/

theorem Voice.delivered_owed (y : Voice) (n k : LaneNo) :
    LaneSet.has (y.delivered n).owed k = (LaneSet.has y.owed k && !decide (k = n)) := LaneSet.has_remove y.owed n k

theorem Lane.Agrees.deliveredOther {n k : LaneNo} {l : Lane} {v : Slot} {y : Voice} (h : Lane.Agrees k l v y) (hk : k ≠ n) :
    Lane.Agrees k l v (y.delivered n) := by
  refine h.alike (y.delivered_sounding n) rfl ?_
  rw [Voice.delivered_owed]
  simp [hk]

section
variable {l : Lane} (h : l.Sound) {r : LaneRecord} {rest : List LaneRecord} (hs : l.sending = true) (hq : l.queue = r :: rest)
include h hs

/-- A lane that is sending transmits. -/
theorem Lane.Sound.sends : l.state = .live ∨ l.state = .closing := by
  cases hstate : l.state with
  | live => exact .inl rfl
  | closing => exact .inr rfl
  | off | dead => exact (Bool.false_ne_true ((h.coherent.1 (by simp [hstate])).2.1.symm.trans hs)).elim

omit h hs in
/-- What a completion leaves on the lane: the records behind, then the Stops that are delivered (R152). -/
def Lane.carriedOn (l : Lane) (rest : List LaneRecord) : Lane :=
  l.next (rest ++ (l.deliveries rest).map .stop) (l.owed.drop (l.deliveries rest).length)

theorem Lane.carriedOn_eq : l.carriedOn rest
    = ({ l with queue := rest ++ (l.deliveries rest).map .stop, sending := false
                owed := l.owed.drop (l.deliveries rest).length } : Lane).beginOrWait := by
  refine (Lane.beginOrWait_eq_next hs (h.sends hs) fun he => ?_).symm
  rw [List.append_eq_nil_iff, List.map_eq_nil_iff] at he
  rw [he.2, List.length_nil, List.drop_zero]

include hq

theorem Lane.carriedOn_keeps : (l.carriedOn rest).state = l.state
    ∧ (l.carriedOn rest).queue = rest ++ (l.deliveries rest).map .stop
    ∧ (l.carriedOn rest).owed = l.owed.drop (l.deliveries rest).length
    ∧ (l.carriedOn rest).unsent.Sublist (l.unsent ++ (l.deliveries rest).map .stop) := by
  rw [Lane.carriedOn_eq h hs]
  refine ⟨Lane.beginOrWait_state _, Lane.beginOrWait_queue _, Lane.beginOrWait_owed _, ?_⟩
  have hunsent : l.unsent = rest := by simp [Lane.unsent, hs, hq]
  rw [hunsent]
  exact Lane.beginOrWait_unsent _

/-- Of the records that are not Stops no more are unsent than before. -/
theorem Lane.carriedOn_countP {p : LaneRecord → Bool} (hp : ∀ v, p (.stop v) = false) :
    (l.carriedOn rest).unsent.countP p ≤ l.unsent.countP p := by
  refine (Lane.carriedOn_keeps h hs hq).2.2.2.countP_le.trans (Nat.le_of_eq ?_)
  rw [List.countP_append, Nat.add_eq_left, List.countP_eq_zero]
  intro q hq hstop
  obtain ⟨w, -, rfl⟩ := List.mem_map.mp hq
  exact Bool.false_ne_true ((hp w).symm.trans hstop)

/-- A lane is sound after a completion, unless the record was the Silence that a CLOSING lane ends with. -/
theorem Lane.carriedOn_sound (hc : r = .silence → ¬ (l.state = .closing ∧ .silence ∉ rest)) : (l.carriedOn rest).Sound := by
  obtain ⟨hstate, hqueue, howed, -⟩ := Lane.carriedOn_keeps h hs hq
  obtain ⟨hlen, hswells, htiers⟩ := h.bounded
  refine ⟨⟨?_, (Lane.carriedOn_countP h hs hq fun _ => rfl).trans hswells,
    (Lane.carriedOn_countP h hs hq fun _ => rfl).trans htiers⟩, ?_, ⟨fun ho => ?_, fun ho => ?_⟩, ?_⟩
  · have hroom : (l.deliveries rest).length ≤ 32 - rest.length := by
      unfold Lane.deliveries
      split
      · exact List.length_take_le _ _
      · exact Nat.zero_le _
    unfold Lane.occupancy at hlen ⊢
    rw [hq, List.length_cons] at hlen
    rw [hqueue, List.length_append, List.length_map]
    omega
  · rw [Lane.carriedOn_eq h hs]
    refine Lane.beginOrWait_driven nofun fun _ => h.driven.idle ?_
    unfold Lane.hasWork
    rw [hs]
    simp
  · rw [hstate] at ho
    rcases h.sends hs with hl | hl <;> simp [hl] at ho
  · rw [hstate] at ho
    obtain ⟨hnone, hlast⟩ := h.coherent.2 ho
    have hnotlive : l.state ≠ .live := by simp [ho]
    have hdeliveries : l.deliveries rest = [] := if_neg hnotlive
    rw [howed, hqueue, hdeliveries, hnone]
    refine ⟨rfl, ?_⟩
    rw [List.map_nil, List.append_nil]
    rw [hq] at hlast
    cases rest with
    | nil =>
      cases hlast
      exact (hc rfl ⟨ho, nofun⟩).elim
    | cons q rest => rwa [List.getLast?_cons_cons] at hlast
  · rw [howed]
    exact h.owedOnce.sublist (List.drop_sublist _ _)

/-- After a completion the lane agrees with every voice, those among them whose Stop it has delivered. -/
theorem Lane.Agrees.carriedOn {n : LaneNo} {v : Slot} {y : Voice} (ha : Lane.Agrees n l v y) :
    Lane.Agrees n (l.carriedOn rest) v (if v ∈ l.deliveries rest then y.delivered n else y) := by
  obtain ⟨hstate, -, howed, -⟩ := Lane.carriedOn_keeps h hs hq
  have hcount := Lane.carriedOn_countP h hs hq (p := LaneRecord.isStartOf v) fun _ => rfl
  obtain ⟨later, hsplit⟩ : ∃ later, l.owed = l.deliveries rest ++ later := by
    unfold Lane.deliveries
    split
    · exact ⟨_, (List.take_append_drop _ _).symm⟩
    · exact ⟨_, rfl⟩
  have hlater : (l.carriedOn rest).owed = later := by rw [howed, hsplit, List.drop_left]
  have hnodup := List.nodup_append.mp (hsplit ▸ h.owedOnce)
  split
  · next hv =>
    refine ⟨fun hl => hstate.trans (ha.lanes hl), fun ho => ?_, ?_, hcount.trans ha.once, fun hstart => ?_⟩
    · rw [Voice.delivered_owed] at ho
      simp at ho
    · rw [Voice.delivered_owed, hlater]
      exact iff_of_false (by simp) fun hl => hnodup.2.2 v hv v hl rfl
    · rw [y.delivered_sounding]
      exact ha.starts (Nat.lt_of_lt_of_le hstart hcount)
  · next hv =>
    refine ⟨fun hl => hstate.trans (ha.lanes hl), fun ho => hstate.trans (ha.owed ho), ?_, hcount.trans ha.once,
      fun hstart => ha.starts (Nat.lt_of_lt_of_le hstart hcount)⟩
    rw [ha.owes, hlater, hsplit, List.mem_append]
    exact ⟨fun ho => ho.resolve_left hv, .inr⟩

/-- What the silence-pending set and the stale marks promise after a completion (R137). -/
theorem Lane.Awaits.carriedOn {p q : Bool} (ha : l.Awaits p q) :
    (l.carriedOn rest).Awaits (p && !(r == .silence && !q)) (q && !(r == .silence)) := by
  obtain ⟨hstate, hqueue, -, -⟩ := Lane.carriedOn_keeps h hs hq
  have hstale (hst : q = true) : r = .silence ∧ .silence ∈ rest := by
    obtain ⟨hsends, htail⟩ := ha.stale hst
    have hhead := (Bool.and_eq_true_iff.mp hsends).2
    rw [hq] at hhead htail
    exact ⟨Option.some.inj (beq_iff_eq.mp hhead), htail⟩
  refine ⟨fun hp => ?_, fun hst => ?_⟩
  · obtain ⟨hpend, hr⟩ := Bool.and_eq_true_iff.mp hp
    obtain ⟨ht, hmem⟩ := ha.pending hpend
    rw [transmits_of_state hstate, hqueue]
    refine ⟨ht, List.mem_append_left _ ?_⟩
    by_cases hst : q = true
    · exact (hstale hst).2
    · rw [hq] at hmem
      refine (List.mem_cons.mp hmem).resolve_left fun he => ?_
      rw [← he, Bool.eq_false_of_not_eq_true hst] at hr
      cases hr
  · obtain ⟨hst, hr⟩ := Bool.and_eq_true_iff.mp hst
    rw [(hstale hst).1] at hr
    cases hr

end

end Sys2Proof.Machine

/-! PROOF. Voices and lanes in agreement: what the steps keep of them together, and how it survives the end of a voice, an
allocation, a join and a leave (R64, R65, R69 to R73). -/

namespace Sys2Proof.Machine

/-- Voices and lanes are sound and agree, no two SOUNDING LIVE voices stand for the same entry, the silence-pending set
names lanes with a Silence to send, and every holder satisfies p (R60, R62, R69, R134, R137, R144 to R154). -/
structure State.Concord (p : Crosspoint → Prop) (s : State) : Prop where
  voices : s.VoicesSound
  distinct : s.vtb.LiveDistinct
  lanes : ∀ n : LaneNo, s.lanes[n].Sound
  agree : ∀ (n : LaneNo) (v : Slot), Lane.Agrees n s.lanes[n] v s.vtb.voices[v]
  awaits : ∀ n : LaneNo, s.lanes[n].Awaits (LaneSet.has s.slc.pending n) (LaneSet.has s.slc.stale n)
  held : ∀ v : Slot, ∀ x ∈ s.vtb.voices[v].holders, p x

/-- Voice z is what is left of voice y: no crosspoint holds it that did not hold y, and if it sounds LIVE, y did, for the
same entry. -/
structure Voice.Fades (y z : Voice) : Prop where
  live : z.soundsLive = true → y.soundsLive = true ∧ z.layer = y.layer ∧ z.pitch = y.pitch
  holders : ∀ x ∈ z.holders, x ∈ y.holders

theorem Voice.Fades.refl (y : Voice) : y.Fades y := ⟨fun h => ⟨h, rfl, rfl⟩, fun _ => id⟩

theorem Voice.soundsLive_iff (y : Voice) : y.soundsLive = true ↔ y.state = .sounding ∧ y.origin = .live := by
  unfold Voice.soundsLive
  simp

/-- A voice that no longer sounds is a faded one if its holders are. -/
theorem Voice.Fades.silent {y z : Voice} (h : z.state ≠ .sounding) (hholders : ∀ x ∈ z.holders, x ∈ y.holders) : y.Fades z :=
  ⟨fun hz => (h (z.soundsLive_iff.mp hz).1).elim, hholders⟩

theorem LiveDistinct.fades {s t : VoiceTable} (h : s.LiveDistinct) (hf : ∀ v : Slot, s.voices[v].Fades t.voices[v]) :
    t.LiveDistinct := by
  intro v w hv hw hlayer hpitch
  obtain ⟨hsv, hlv, hpv⟩ := (hf v).live hv
  obtain ⟨hsw, hlw, hpw⟩ := (hf w).live hw
  exact h v w hsv hsw (hlv ▸ hlw ▸ hlayer) (hpv ▸ hpw ▸ hpitch)

section
variable {p : Crosspoint → Prop} {s t : State} (h : s.Concord p)
include h

theorem State.Concord.of_parts (hvoices : t.vtb.voices = s.vtb.voices) (hlanes : t.lanes = s.lanes)
    (hpending : t.slc.pending = s.slc.pending) (hstale : t.slc.stale = s.slc.stale) : t.Concord p where
  voices v := by rw [hvoices]; exact h.voices v
  distinct v w := by rw [hvoices]; exact h.distinct v w
  lanes n := by rw [hlanes]; exact h.lanes n
  agree n v := by rw [hvoices, hlanes]; exact h.agree n v
  awaits n := by rw [hlanes, hpending, hstale]; exact h.awaits n
  held v := by rw [hvoices]; exact h.held v

theorem State.Concord.mono {q : Crosspoint → Prop} (hq : ∀ x, p x → q x) : s.Concord q :=
  { h with held := fun v x hx => hq x (h.held v x hx) }

/-- Each lane has made a change of its own. -/
theorem State.Concord.updated (hvoices : t.vtb.voices = s.vtb.voices) (hpending : t.slc.pending = s.slc.pending)
    (hstale : t.slc.stale = s.slc.stale) (hlanes : ∀ n : LaneNo, s.lanes[n].Updates t.lanes[n]) : t.Concord p where
  voices v := by rw [hvoices]; exact h.voices v
  distinct v w := by rw [hvoices]; exact h.distinct v w
  lanes n := (hlanes n).sound (h.lanes n)
  agree n v := by rw [hvoices]; exact (h.agree n v).carried (hlanes n).toCarries
  awaits n := by
    rw [hpending, hstale]
    exact (h.awaits n).kept (fun ht => (transmits_of_state (hlanes n).state).trans ht) (hlanes n).toHoldsSilences
  held v := by rw [hvoices]; exact h.held v

/-- Lane n has been emptied behind the record being sent, and cleared from every voice (R68, R150, R155). -/
theorem State.Concord.clearedLane {n : LaneNo} (hvoices : ∀ v : Slot, t.vtb.voices[v] = s.vtb.voices[v].cleared n)
    (hother : ∀ k : LaneNo, k ≠ n → t.lanes[k] = s.lanes[k] ∧ LaneSet.has t.slc.pending k = LaneSet.has s.slc.pending k
      ∧ LaneSet.has t.slc.stale k = LaneSet.has s.slc.stale k)
    (hsound : t.lanes[n].Sound) (howed : t.lanes[n].owed = [])
    (hstarts : ∀ v, t.lanes[n].unsent.countP (LaneRecord.isStartOf v) = 0)
    (hawaits : t.lanes[n].Awaits (LaneSet.has t.slc.pending n) (LaneSet.has t.slc.stale n)) : t.Concord p where
  voices v := by rw [hvoices]; exact (h.voices v).cleared n
  distinct := LiveDistinct.fades h.distinct fun v => by
    rw [hvoices]
    refine ⟨fun hl => ?_, fun x hx => by rwa [Voice.cleared_holders] at hx⟩
    obtain ⟨hs, ho⟩ := (Voice.soundsLive_iff _).mp hl
    have hsounds := (Voice.cleared_sounding _ n).mp hs
    rw [Voice.cleared_not_free n (by rw [hsounds]; nofun)] at ho ⊢
    exact ⟨(Voice.soundsLive_iff _).mpr ⟨hsounds, ho⟩, rfl, rfl⟩
  lanes k := by
    by_cases hk : k = n
    · rw [hk]
      exact hsound
    · rw [(hother k hk).1]
      exact h.lanes k
  agree k v := by
    rw [hvoices]
    by_cases hk : k = n
    · subst hk
      obtain ⟨hl, ho⟩ := Voice.cleared_apart (h.voices v) k
      exact .apart hl ho (by rw [howed]; exact List.not_mem_nil) (hstarts v)
    · rw [(hother k hk).1]
      exact (h.agree k v).clearedOther hk
  awaits k := by
    by_cases hk : k = n
    · rw [hk]
      exact hawaits
    · obtain ⟨hl, hpending, hstale⟩ := hother k hk
      rw [hl, hpending, hstale]
      exact h.awaits k
  held v := by
    rw [hvoices, Voice.cleared_holders]
    exact h.held v

end

/-! ## The end of a voice (R65) -/

section
variable {p : Crosspoint → Prop} {s : State} (h : s.Concord p)
include h

theorem State.Concord.endVoice (v : Slot) : (endVoice s v).Concord p := by
  by_cases hv : s.vtb.voices[v].state = .sounding
  · have howed : s.vtb.voices[v].owed = 0 := ((h.voices v).2.1 hv).2.2.2
    have hnone (n : LaneNo) : LaneSet.has s.vtb.voices[v].owed n = false := howed ▸ LaneSet.not_has_zero n
    obtain ⟨owed, hvoice, hsets⟩ := endVoice_voice hv
    have hlane := endVoice_lane hv
    have hsilent := endVoice_state_ne s v
    have hslc : (Machine.endVoice s v).slc = s.slc := by rw [endVoice_frame]
    have hvoices := h.voices.endVoice v
    have hholders : (Machine.endVoice s v).vtb.voices[v].holders = [] := by rw [hvoice]; rfl
    have hother {w : Slot} (hw : w ≠ v) := endVoice_voice_ne s hw
    generalize Machine.endVoice s v = t at hvoice hlane hsilent hslc hvoices hholders hother ⊢
    have hfades (w : Slot) : s.vtb.voices[w].Fades t.vtb.voices[w] := by
      by_cases hw : w = v
      · rw [hw]
        exact .silent hsilent (by rw [hholders]; nofun)
      · rw [hother hw]
        exact .refl _
    refine ⟨hvoices, LiveDistinct.fades h.distinct hfades, fun n => ?_, fun n w => ?_, fun n => ?_,
      fun w x hx => h.held w x ((hfades w).holders x hx)⟩
    · rw [hlane]
      split
      · next hn => exact (h.lanes n).settled ((h.agree n v).lanes hn) ((h.agree n v).not_owed (hnone n))
      · exact h.lanes n
    · by_cases hw : w = v
      · rw [hw, hlane, hvoice]
        refine (h.agree n v).ended (h.lanes n) (hnone n) (LaneSet.not_has_zero n) ((hsets n).trans ?_)
        rw [hnone n, Bool.false_or]
      · rw [hother hw, hlane]
        split
        · exact (h.agree n w).settled (h.lanes n).driven (h.agree n v).once hw
        · exact h.agree n w
    · rw [hlane, hslc]
      split
      · exact (h.awaits n).kept (fun ht => (transmits_of_state (Lane.settled_keeps _ v).1).trans ht)
          (Lane.settled_starts (h.lanes n).driven (h.agree n v).once).2.2
      · exact h.awaits n
  · rw [endVoice_not_sounding hv]
    exact h

theorem State.Concord.raise (n : Notice) : (s.raise n).Concord p := h.of_parts rfl rfl rfl rfl

/-! ## Allocation and joins (R69 to R73) -/

/-- A FREE slot is filled for an entry that no SOUNDING LIVE voice stands for. -/
theorem State.Concord.fillSlot {x : Crosspoint} (hx : p x) (e : LayerPos × Pitch) (l : Layer) {v : Slot}
    (hfree : s.vtb.voices[v].state = .free)
    (hnew : ∀ w : Slot, s.vtb.voices[w].soundsLive = true → ¬ (s.vtb.voices[w].layer = e.1 ∧ s.vtb.voices[w].pitch = e.2)) :
    (fillSlot x e l s v).Concord p := by
  obtain ⟨lanes, hlanes, hvoice⟩ := fillSlot_voice x e l s v
  have howed : s.vtb.voices[v].owed = 0 := ((h.voices v).1 hfree).2.2
  have hnone (n : LaneNo) : LaneSet.has s.vtb.voices[v].owed n = false := howed ▸ LaneSet.not_has_zero n
  have hsilent : s.vtb.voices[v].state ≠ .sounding := by rw [hfree]; nofun
  have hlane (n : LaneNo) : (Machine.fillSlot x e l s v).lanes[n]
      = if s.takers l n = true then s.lanes[n].append (.start v l.program e.2 s.tierCode) else s.lanes[n] := by
    rw [fillSlot_lane, startVoice_lane]
    split
    · next hn =>
      have hlive := (Lane.takesStart_iff _).mp (Bool.and_eq_true_iff.mp hn).2
      rw [Lane.append_eq_joined _ ((Lane.transmits_iff _).mpr (.inl hlive.1))]
    · rfl
  have hslc : (Machine.fillSlot x e l s v).slc = s.slc := (fillSlot_voiceWork x e l s v).slc
  have hvoices := h.voices.fillSlot x e l v
  have hother {w : Slot} (hw : w ≠ v) := fillSlot_voice_ne x e l s v hw
  generalize Machine.fillSlot x e l s v = t at hvoice hlane hslc hvoices hother ⊢
  have hentry : t.vtb.voices[v].layer = e.1 ∧ t.vtb.voices[v].pitch = e.2 := by
    rw [hvoice]
    exact ⟨rfl, rfl⟩
  refine ⟨hvoices, fun a b ha hb hlayer hpitch => ?_, fun n => ?_, fun n w => ?_, fun n => ?_, fun w y hy => ?_⟩
  · by_cases hav : a = v <;> by_cases hbv : b = v
    · rw [hav, hbv]
    · rw [hav, hentry.1, hother hbv] at hlayer
      rw [hav, hentry.2, hother hbv] at hpitch
      rw [hother hbv] at hb
      exact (hnew b hb ⟨hlayer.symm, hpitch.symm⟩).elim
    · rw [hbv, hentry.1, hother hav] at hlayer
      rw [hbv, hentry.2, hother hav] at hpitch
      rw [hother hav] at ha
      exact (hnew a ha ⟨hlayer, hpitch⟩).elim
    · rw [hother hav, hother hbv] at hlayer hpitch
      rw [hother hav] at ha
      rw [hother hbv] at hb
      exact h.distinct a b ha hb hlayer hpitch
  · rw [hlane]
    split
    · next hn =>
      obtain ⟨hlive, hroom⟩ := (Lane.takesStart_iff _).mp (Bool.and_eq_true_iff.mp hn).2
      exact (h.lanes n).append hlive (Nat.lt_trans hroom (by decide)) nofun nofun
    · exact h.lanes n
  · by_cases hw : w = v
    · rw [hw, hlane, hvoice]
      split
      · next hn =>
        obtain ⟨hlive, -⟩ := (Lane.takesStart_iff _).mp (Bool.and_eq_true_iff.mp hn).2
        exact (h.agree n v).started (h.lanes n).driven hlive hsilent (hnone n) (if_pos ⟨n, hn⟩) ((hlanes n).trans hn)
          (LaneSet.not_has_zero n) _ _ _
      · next hn =>
        exact .apart ((hlanes n).trans (Bool.eq_false_of_not_eq_true hn)) (LaneSet.not_has_zero n)
          ((h.agree n v).not_owed (hnone n)) ((h.agree n v).no_start (.inl hsilent))
    · rw [hother hw, hlane]
      split
      · exact (h.agree n w).startedOther (h.lanes n).driven hw _ _ _
      · exact h.agree n w
  · rw [hlane, hslc]
    split
    · exact (h.awaits n).kept (fun ht => (transmits_of_state (Lane.append_state _ _)).trans ht)
        (Lane.append_holds (h.lanes n).driven _)
    · exact h.awaits n
  · by_cases hw : w = v
    · rw [hw, hvoice] at hy
      simp only [] at hy
      split at hy
      · rw [List.mem_singleton.mp hy]
        exact hx
      · cases hy
    · rw [hother hw] at hy
      exact h.held w y hy

omit h in
theorem State.findLive_new {e : LayerPos × Pitch} (hfind : s.findLive e = none) (w : Slot) (hw : s.vtb.voices[w].soundsLive = true) :
    ¬ (s.vtb.voices[w].layer = e.1 ∧ s.vtb.voices[w].pitch = e.2) := by
  intro ⟨hlayer, hpitch⟩
  have hno := List.find?_eq_none.mp hfind w (List.mem_finRange w)
  rw [Bool.and_eq_true_iff, Voice.matchesEntry, Bool.and_eq_true_iff, beq_iff_eq, beq_iff_eq] at hno
  exact hno ⟨hw, hlayer, hpitch⟩

theorem State.Concord.allocate {x : Crosspoint} (hx : p x) {e : LayerPos × Pitch}
    (hnew : ∀ w : Slot, s.vtb.voices[w].soundsLive = true → ¬ (s.vtb.voices[w].layer = e.1 ∧ s.vtb.voices[w].pitch = e.2)) :
    (allocate x s e).Concord p := by
  rcases allocate_cases x s e with ⟨-, e'⟩ | ⟨l, v, -, hfree, e'⟩ | ⟨-, e'⟩ | ⟨l, v, -, -, hsounds, hfree, e'⟩ | ⟨v, -, -, e'⟩ <;>
    rw [e']
  · exact h
  · exact h.fillSlot hx e l hfree hnew
  · exact h.raise _
  · refine ((h.endVoice v).raise _).fillSlot hx e l hfree fun w hw => ?_
    have hne : w ≠ v := fun hwv => by
      rw [State.raise_vtb, hwv, Voice.soundsLive_iff, hfree] at hw
      cases hw.1
    rw [State.raise_vtb, endVoice_voice_ne s hne] at hw ⊢
    exact hnew w hw
  · exact (h.endVoice v).raise _

/-- A SOUNDING voice is held by other crosspoints of p, none twice and at most six. -/
theorem State.Concord.setHolders {v : Slot} {holders : List Crosspoint}
    (hvoice : ({ s.vtb.voices[v] with holders := holders } : Voice).Coherent) (hp : ∀ x ∈ holders, p x) :
    (s.setVoice v { s.vtb.voices[v] with holders := holders }).Concord p where
  voices := h.voices.setVoice v hvoice
  distinct a b ha hb hlayer hpitch := by
    have hsame (w : Slot) : (s.setVoice v { s.vtb.voices[v] with holders := holders }).vtb.voices[w].soundsLive = s.vtb.voices[w].soundsLive
        ∧ (s.setVoice v { s.vtb.voices[v] with holders := holders }).vtb.voices[w].layer = s.vtb.voices[w].layer
        ∧ (s.setVoice v { s.vtb.voices[v] with holders := holders }).vtb.voices[w].pitch = s.vtb.voices[w].pitch := by
      rw [State.setVoice_get]
      split
      · next hw => rw [hw]; exact ⟨rfl, rfl, rfl⟩
      · exact ⟨rfl, rfl, rfl⟩
    rw [(hsame a).1] at ha
    rw [(hsame b).1] at hb
    rw [(hsame a).2.1, (hsame b).2.1] at hlayer
    rw [(hsame a).2.2, (hsame b).2.2] at hpitch
    exact h.distinct a b ha hb hlayer hpitch
  lanes n := h.lanes n
  agree n w := by
    rw [State.setVoice_get]
    split
    · next hw => rw [hw]; exact (h.agree n v).same rfl rfl rfl
    · exact h.agree n w
  awaits n := h.awaits n
  held w x hx := by
    rw [State.setVoice_get] at hx
    split at hx
    · exact hp x hx
    · exact h.held w x hx

theorem State.Concord.joinEntry {x : Crosspoint} (hx : p x) (e : LayerPos × Pitch) : (joinEntry x s e).Concord p := by
  rcases joinEntry_cases x s e with ⟨v, -, -, e'⟩ | ⟨v, hfind, hnot, hlen, e'⟩ | ⟨v, -, -, -, e'⟩ | ⟨hfind, e'⟩ <;> rw [e']
  · exact h
  · refine h.setHolders ((h.voices v).join (State.findLive_some hfind).1 hnot hlen) fun y hy => ?_
    rcases List.mem_append.mp hy with hy | hy
    · exact h.held v y hy
    · rw [List.mem_singleton.mp hy]
      exact hx
  · exact h.raise _
  · exact h.allocate hx (State.findLive_new hfind)

/-! ## Leaves (R64) -/

omit h in
/-- The end of a voice does not look at its holders. -/
theorem endVoice_setHolders {v : Slot} (hv : s.vtb.voices[v].state = .sounding) (holders : List Crosspoint) :
    Machine.endVoice (s.setVoice v { s.vtb.voices[v] with holders := holders }) v = Machine.endVoice s v := by
  rw [endVoice_sounding hv, endVoice_sounding (by rw [State.setVoice_get_self]; exact hv)]
  simp only [State.setVoice_setVoice, State.setVoice_get_self]

theorem State.Concord.leaveVoice (x : Crosspoint) (v : Slot) : (leaveVoice x s v).Concord p := by
  rw [leaveVoice_eq]
  by_cases hv : s.vtb.voices[v].state = .sounding
  · split
    · rw [endVoice_setHolders hv]
      exact h.endVoice v
    · next hne => exact h.setHolders ((h.voices v).erase hne) fun y hy => h.held v y (List.mem_of_mem_erase hy)
  · have hnone : s.vtb.voices[v].holders = [] := by
      cases hstate : s.vtb.voices[v].state with
      | free => exact ((h.voices v).1 hstate).1
      | owed => exact ((h.voices v).2.2 hstate).1
      | sounding => exact (hv hstate).elim
    have hsame : ({ s.vtb.voices[v] with holders := [] } : Voice) = s.vtb.voices[v] := by rw [← hnone]
    rw [if_pos (by rw [hnone, List.erase_nil]), hsame, State.setVoice_same, endVoice_not_sounding hv]
    exact h

end

theorem State.Concord.foldl {α : Type} {p : Crosspoint → Prop} {f : State → α → State}
    (hf : ∀ a t, t.Concord p → (f t a).Concord p) (as : List α) {s : State} (h : s.Concord p) : (as.foldl f s).Concord p := by
  induction as generalizing s with
  | nil => exact h
  | cons a as ih => exact ih (hf a s h)

end Sys2Proof.Machine

/-! PROOF. The voices' work in parts keeps voices and lanes in agreement: presses and releases (R74, R75), re-expansions
(R76 to R79), the cue transfer (R80), the enable (R82, R83). -/

namespace Sys2Proof.Machine

/-- Voices and lanes are in agreement and the holders are voiced (R62). -/
def State.InConcord (s : State) : Prop := s.Concord fun x => s.vtb.voicedAs[x] ≠ none

section
variable {p : Crosspoint → Prop} {s : State} (h : s.Concord p)
include h

theorem State.Concord.setVoicedAs (xs : List Crosspoint) (d : Option Dir) : (s.setVoicedAs xs d).Concord p :=
  h.of_parts rfl rfl rfl rfl

theorem State.Concord.leaveAll (x : Crosspoint) (f : Voice → Bool) : (leaveAll x f s).Concord p :=
  State.Concord.foldl (fun v _ ht => ht.leaveVoice x v) _ h

theorem State.Concord.joins {x : Crosspoint} (hx : p x) (es : List (LayerPos × Pitch)) :
    (es.foldl (Machine.joinEntry x) s).Concord p :=
  State.Concord.foldl (fun e _ ht => ht.joinEntry hx e) es h

theorem State.Concord.leavePhase (orphans : Bool) (q : Crosspoint × List (LayerPos × Pitch)) :
    (leavePhase orphans s q).Concord p := by
  unfold Machine.leavePhase
  simp only []
  split
  · exact (h.leaveAll _ _).leaveAll _ _
  · exact h.leaveAll _ _

theorem State.Concord.reexpand {xs : List Crosspoint} (hxs : ∀ x ∈ xs, p x) (orphans : Bool) (d : Dir) :
    (reexpand orphans d xs s).Concord p := by
  rw [reexpand_eq]
  refine State.Concord.setVoicedAs ?_ xs _
  have hleft : (((xs.map fun x => (x, s.expand x d))).foldl (Machine.leavePhase orphans) s).Concord p :=
    State.Concord.foldl (fun q _ ht => ht.leavePhase orphans q) _ h
  generalize (xs.map fun x => (x, s.expand x d)).foldl (Machine.leavePhase orphans) s = t at hleft
  induction xs generalizing t with
  | nil => exact hleft
  | cons x xs ih =>
    exact ih (fun y hy => hxs y (List.mem_cons_of_mem x hy)) _ (hleft.joins (hxs x List.mem_cons_self) _)

theorem State.Concord.ends (vs : List Slot) : (vs.foldl Machine.endVoice s).Concord p :=
  State.Concord.foldl (fun v _ ht => ht.endVoice v) vs h

/-- With every voice ORPHAN no voice is SOUNDING and LIVE. -/
theorem State.Concord.orphaned : s.orphaned.Concord p where
  voices v := by
    rw [s.orphaned_voice]
    exact (h.voices v).orphaned
  distinct v w hv := by
    rw [s.orphaned_voice, Voice.soundsLive_iff] at hv
    obtain ⟨hs, ho⟩ := hv
    rw [Voice.orphaned_state] at hs
    unfold Voice.orphaned at ho
    rw [if_neg (by rw [hs]; nofun)] at ho
    cases ho
  lanes n := h.lanes n
  agree n v := by
    rw [s.orphaned_voice]
    refine (h.agree n v).same (Voice.orphaned_state _) ?_ ?_ <;> unfold Voice.orphaned <;> split <;> rfl
  awaits n := h.awaits n
  held v x hx := by
    rw [s.orphaned_voice] at hx
    refine h.held v x ?_
    unfold Voice.orphaned at hx
    split at hx <;> exact hx

theorem State.Concord.layersTransferred (hp : ∀ x, s.vtb.voicedAs[x] ≠ none → p x) : (layersTransferred s).Concord p := by
  rw [layersTransferred_eq]
  have hended : s.orphaned.carriedEnded.Concord p := h.orphaned.ends _
  have hvoiced : ∀ x ∈ s.orphaned.carriedEnded.voiced, p x := by
    intro x hx
    rw [State.carriedEnded_voiced] at hx
    exact hp x (Option.isSome_iff_ne_none.mp (List.mem_filter.mp hx).2)
  change (s.orphaned.carriedEnded.voiced.foldl joinCarried s.orphaned.carriedEnded).Concord p
  generalize s.orphaned.carriedEnded.voiced = xs at hvoiced
  generalize s.orphaned.carriedEnded = t at hended
  induction xs generalizing t with
  | nil => exact hended
  | cons x xs ih =>
    exact ih (fun y hy => hvoiced y (List.mem_cons_of_mem x hy)) _ (hended.joins (hvoiced x List.mem_cons_self) _)

/-- With no voice SOUNDING no voice has a holder. -/
theorem State.Concord.silent (hs : ∀ v : Slot, s.vtb.voices[v].state ≠ .sounding) (q : Crosspoint → Prop) : s.Concord q :=
  { h with
    held := fun v x hx => by
      have hnone : s.vtb.voices[v].holders = [] := by
        cases hstate : s.vtb.voices[v].state with
        | free => exact ((h.voices v).1 hstate).1
        | owed => exact ((h.voices v).2.2 hstate).1
        | sounding => exact (hs v hstate).elim
      rw [hnone] at hx
      cases hx }

theorem State.Concord.voicesFallen (q : Crosspoint → Prop) : s.voicesFallen.Concord q := by
  have hended := h.ends ((List.finRange 48).filter fun v => s.vtb.voices[v].state == .sounding)
  exact State.Concord.silent (hended.of_parts rfl rfl rfl rfl : s.voicesFallen.Concord p) (voicesFallen_not_sounding s) q

end

theorem Voice.Coherent.holders_nodup {y : Voice} (h : y.Coherent) : y.holders.Nodup := by
  cases hstate : y.state with
  | free => rw [(h.1 hstate).1]; exact List.nodup_nil
  | owed => rw [(h.2.2 hstate).1]; exact List.nodup_nil
  | sounding => exact (h.2.1 hstate).2.2.1

/-- A crosspoint that has left every voice holds none (R75). -/
theorem leaveAll_gone {s : State} (h : s.VoicesSound) (x : Crosspoint) (v : Slot) :
    x ∉ (leaveAll x (fun _ => true) s).vtb.voices[v].holders := by
  have hleft := leaves_voice x (heldSlots_nodup s x fun _ => true) s v
  unfold leaveAll
  by_cases hv : v ∈ s.heldSlots x fun _ => true
  · obtain ⟨u, hu, hvoice⟩ := hleft.2 hv
    rw [hvoice, leaveVoice_holders, hu]
    exact (h v).holders_nodup.not_mem_erase
  · rw [hleft.1 hv]
    exact fun hx => hv ((mem_heldSlots s x _ v).mpr ⟨hx, rfl⟩)

section
variable {s t : State} (h : s.InConcord)
include h

theorem State.InConcord.of_parts (hvtb : t.vtb = s.vtb) (hlanes : t.lanes = s.lanes)
    (hpending : t.slc.pending = s.slc.pending) (hstale : t.slc.stale = s.slc.stale) : t.InConcord := by
  unfold State.InConcord
  rw [hvtb]
  exact State.Concord.of_parts h (by rw [hvtb]) hlanes hpending hstale

theorem State.InConcord.updated (hvtb : t.vtb = s.vtb) (hpending : t.slc.pending = s.slc.pending)
    (hstale : t.slc.stale = s.slc.stale) (hlanes : ∀ n : LaneNo, s.lanes[n].Updates t.lanes[n]) : t.InConcord := by
  unfold State.InConcord
  rw [hvtb]
  exact State.Concord.updated h (by rw [hvtb]) hpending hstale hlanes

theorem State.InConcord.reexpand {xs : List Crosspoint} (hxs : ∀ x ∈ xs, s.vtb.voicedAs[x] ≠ none) (orphans : Bool) (d : Dir) :
    (reexpand orphans d xs s).InConcord := by
  refine (State.Concord.reexpand h hxs orphans d).mono fun x hx => ?_
  rw [reexpand_voicedAs]
  split
  · nofun
  · exact hx

theorem State.InConcord.sectionReexpand (p : Sect → Bool) : (sectionReexpand p s).InConcord := by
  rw [sectionReexpand_eq]
  refine h.reexpand (fun x hx => ?_) false _
  exact Option.isSome_iff_ne_none.mp (Bool.and_eq_true_iff.mp (List.mem_filter.mp hx).2).1

theorem State.InConcord.reversalReexpand : (reversalReexpand s).InConcord := by
  rw [reversalReexpand_eq]
  exact h.reexpand (fun x hx => of_decide_eq_true (List.mem_filter.mp hx).2) true _

theorem State.InConcord.layersTransferred : (layersTransferred s).InConcord := by
  unfold State.InConcord
  rw [layersTransferred_voicedAs]
  exact State.Concord.layersTransferred h fun _ hx => hx

theorem State.InConcord.pressKey (x : Crosspoint) : (pressKey s x).InConcord := by
  unfold Machine.pressKey
  split
  · have hmore : s.Concord fun y => y = x ∨ s.vtb.voicedAs[y] ≠ none := State.Concord.mono h fun _ hy => .inr hy
    refine ((hmore.joins (.inl rfl) _).setVoicedAs _ _).mono fun y hy => ?_
    rw [State.setVoicedAs_get, joins_voicedAs]
    split
    · nofun
    · next hne => exact hy.resolve_left fun he => hne (he ▸ List.mem_singleton_self x)
  · exact h

theorem State.InConcord.releaseKey (x : Crosspoint) : (releaseKey s x).InConcord := by
  have hleft := State.Concord.leaveAll h x fun _ => true
  have hvoicedAs := leaveAll_voicedAs x (fun _ => true) s
  refine State.Concord.setVoicedAs { hleft with held := fun v y hy => ?_ } [x] none
  change ((Machine.leaveAll x (fun _ => true) s).setVoicedAs [x] none).vtb.voicedAs[y] ≠ none
  rw [State.setVoicedAs_get, hvoicedAs]
  split
  · next hyx =>
    rw [List.mem_singleton.mp hyx] at hy
    exact (leaveAll_gone h.voices x v hy).elim
  · exact hleft.held v y hy

theorem State.InConcord.presses (xs : List Crosspoint) : (xs.foldl Machine.pressKey s).InConcord := by
  induction xs generalizing s with
  | nil => exact h
  | cons x xs ih => exact ih (h.pressKey x)

theorem State.InConcord.writeEnable (e sh : Bool) : (writeEnable e sh s).InConcord := by
  have hpair : (s.withPair e sh).InConcord := h.of_parts rfl rfl rfl rfl
  cases hs : s.slc.enable <;> cases e
  · rw [writeEnable_same hs.symm]
    exact hpair
  · rw [writeEnable_rose hs rfl]
    exact hpair.presses _
  · rw [writeEnable_fell hs rfl]
    exact State.Concord.voicesFallen hpair _
  · rw [writeEnable_same hs.symm]
    exact hpair

end

end Sys2Proof.Machine

/-! PROOF. The events of the lanes keep voices and lanes in agreement: the tier check and the swells (R112, R115), the ready
line and the timers (R151, R154), Silences, Panic and the HALTED state (R136 to R138, R150). -/

namespace Sys2Proof.Machine

/-! ## Tiers, swells, lines and timers -/

theorem State.InConcord.tierCheck {s : State} (h : s.InConcord) : (tierCheck s).InConcord := by
  refine h.updated (tierCheck_vtb s) (by rw [tierCheck_writes]) (by rw [tierCheck_writes]) fun n => ?_
  by_cases hc : s.dyn.lastCode = some s.tierCode
  · rw [tierCheck_same hc]
    exact .refl _
  · rw [(tierCheck_posts hc).1]
    split
    · next hlive => exact Lane.updates_offered (h.lanes n) hlive (.inl ⟨rfl, _, rfl⟩)
    · exact .refl _

theorem Lane.updates_swelled {l : Lane} (h : l.Sound) (posted x : Fin 128) (step : Nat) :
    l.Updates (l.swelled posted x step).1 := by
  unfold Lane.swelled
  split
  · next hdue =>
    have hoffered := Lane.updates_offered h hdue.1 (p := LaneRecord.isSwell) (.inr ⟨rfl, x, rfl⟩)
    change l.Updates ((l.takeSwell x).getD l) at hoffered
    cases htaken : l.takeSwell x with
    | some k =>
      rw [htaken] at hoffered
      exact hoffered
    | none => exact .refl l
  · exact .refl l

theorem State.InConcord.processSample {s : State} (h : s.InConcord) (m : Nat) : (processSample m s).InConcord := by
  have hwindowed : (s.windowed m).InConcord :=
    State.InConcord.tierCheck (s := s.setDyn (windowStage m (surgeStage m s.dyn))) (h.of_parts rfl rfl rfl rfl)
  have hswells := (processSample_swells m s).1
  have hlane := processSample_lane m s
  have hslc : (Machine.processSample m s).slc = (s.windowed m).slc := by rw [hswells]
  refine hwindowed.updated (by rw [hswells]) (by rw [hslc]) (by rw [hslc]) fun n => ?_
  have hswelled := (Prod.ext_iff.mp (hlane n)).1
  dsimp only at hswelled
  rw [hswelled]
  exact Lane.updates_swelled (hwindowed.lanes n) _ _ _

/-- One lane has made a change of its own. -/
theorem State.InConcord.setLane {s : State} (h : s.InConcord) (n : LaneNo) {l : Lane} (hl : s.lanes[n].Updates l) :
    (s.setLane n l).InConcord := by
  refine h.updated rfl rfl rfl fun k => ?_
  rw [State.setLane_get]
  split
  · next hk => rw [hk]; exact hl
  · exact .refl _

theorem State.InConcord.readyRise {s : State} (h : s.InConcord) (n : LaneNo) : (readyRise n s).InConcord := by
  unfold Machine.readyRise
  split
  · exact h
  · exact h.setLane n (s.lanes[n].updates_ready true)

theorem State.InConcord.readyFall {s : State} (h : s.InConcord) (n : LaneNo) : (readyFall n s).InConcord := by
  unfold Machine.readyFall
  split
  · exact h.setLane n (s.lanes[n].updates_ready false)
  · exact h

theorem State.InConcord.tick {s : State} (h : s.InConcord) : (tick s).InConcord := by
  refine h.updated rfl rfl rfl fun n => ?_
  have hlane : (Machine.tick s).lanes[n] = { s.lanes[n] with stall := Timer.tick s.lanes[n].stall } := get_tabulate _ n
  rw [hlane]
  exact s.lanes[n].updates_tick

/-! ## Silences (R150) -/

theorem Lane.behind_force (l : Lane) (c : TierCode) (x : Fin 128) :
    l.Behind (if l.state = .live then [.tier c, .swell x] else []) := by
  split
  · next hlive => exact .inr ⟨hlive, c, x, rfl⟩
  · exact .inl rfl

section
variable {p : Crosspoint → Prop} {s : State} (h : s.Concord p)
include h

/-- A Silence is queued on lane n, which has just taken a state in which it transmits (R150, R158, R159). -/
theorem State.Concord.silenceOn {n : LaneNo} {l : Lane} (hl : l.Driven) (ht : l.transmits = true)
    (hstale : LaneSet.has s.slc.stale n = true → l.sendsSilence = true) : ((s.setLane n l).silenceLane n).Concord p := by
  have hslc : ((s.setLane n l).silenceLane n).slc = s.slc := by rw [silenceOn_frame]
  have hlane := silenceOn_lane (s := s) (n := n) ht
  have hb := l.behind_force s.tierCode s.dyn.expr
  refine h.clearedLane (n := n) silenceOn_voice (fun k hk => ⟨silenceOn_lane_ne hk, by rw [hslc], by rw [hslc]⟩) ?_ ?_ ?_ ?_
  all_goals rw [hlane]
  · exact Lane.silenced_sound hl ht hb
  · exact l.silenced_owed _
  · exact Lane.silenced_no_start hl ht hb
  · rw [hslc]
    exact (Lane.silenced_awaits hl ht _).mono (fun _ => rfl) hstale

theorem State.Concord.silenceLane {n : LaneNo} (ht : s.lanes[n].transmits = true) : (s.silenceLane n).Concord p := by
  have hon := h.silenceOn (h.lanes n).driven ht fun hst => ((h.awaits n).stale hst).1
  rwa [State.setLane_same] at hon

theorem State.Concord.silenceLanes {ns : List LaneNo} (ht : ∀ n ∈ ns, s.lanes[n].transmits = true) :
    (ns.foldl State.silenceLane s).Concord p := by
  induction ns generalizing s with
  | nil => exact h
  | cons n ns ih =>
    refine ih (h.silenceLane (ht n List.mem_cons_self)) fun k hk => ?_
    have hkeeps := (silenceLanes_keeps [n] s k).1
    rw [List.foldl_cons, List.foldl_nil] at hkeeps
    rw [transmits_of_state hkeeps]
    exact ht k (List.mem_cons_of_mem n hk)

end

/-- Lanes silenced, the silence-pending set and the enable written, the voices fallen (R136, R138). -/
theorem State.InConcord.quieted {s : State} (h : s.InConcord) {ns : List LaneNo} (ht : ∀ n ∈ ns, s.lanes[n].transmits = true)
    {c : Silencing}
    (hc : ∀ n : LaneNo, (ns.foldl State.silenceLane s).lanes[n].Awaits (LaneSet.has c.pending n) (LaneSet.has c.stale n)) :
    (s.quieted ns c).InConcord := by
  have hvoicedAs : (ns.foldl State.silenceLane s).vtb.voicedAs = s.vtb.voicedAs := by rw [silenceLanes_frame]
  have hsilenced := State.Concord.silenceLanes h ht
  generalize hu : ns.foldl State.silenceLane s = u at hc hvoicedAs hsilenced
  have hset : (u.setSlc c).InConcord := by
    unfold State.InConcord
    rw [State.setSlc_vtb, hvoicedAs]
    exact { hsilenced with awaits := hc }
  unfold State.quieted
  rw [hu]
  split
  · exact State.Concord.voicesFallen hset _
  · exact hset

theorem State.InConcord.haltPart {s : State} (h : s.InConcord) : (haltPart s).InConcord := by
  have hset : (s.setSlc { s.slc with part := .halted }).InConcord := h.of_parts rfl rfl rfl rfl
  have ht := liveLanes_transmits s
  have hquiet : s.haltQuiet.InConcord := hset.quieted ht fun n => by
    have hawaits := (State.Concord.silenceLanes hset ht).awaits n
    rwa [silenceLanes_slc] at hawaits
  rw [haltPart_quiet]
  exact hquiet.of_parts rfl rfl rfl rfl

theorem State.InConcord.panicPart {s : State} (h : s.InConcord) : (panicPart s).InConcord := by
  have ht : ∀ n ∈ LaneSet.members s.joining, s.lanes[n].transmits = true := joining_transmits s
  have hquiet : s.panicQuiet.InConcord := by
    refine h.quieted ht fun n => ?_
    have hpending : LaneSet.has s.panicSilencing.pending n = _ := panic_pending s n
    have hstale : LaneSet.has s.panicSilencing.stale n = _ := panic_stale s n
    rw [silenceLanes_lane (LaneSet.members_nodup _) ht]
    by_cases hn : n ∈ LaneSet.members s.joining
    · have hstate := (mem_joining s n).mp hn
      rw [if_pos hn, hstale, if_pos hstate]
      exact (Lane.silenced_awaits (h.lanes n).driven (ht n hn) _).mono (fun _ => rfl) id
    · have hstate := fun hstate => hn ((mem_joining s n).mpr hstate)
      rw [if_neg hn, hstale, if_neg hstate]
      refine (h.awaits n).mono (fun hp => ?_) id
      rw [hpending, Bool.or_eq_true_iff, Bool.or_eq_true_iff, beq_iff_eq, beq_iff_eq, or_assoc] at hp
      exact hp.resolve_right hstate
  rw [panicPart_quiet]
  split
  · exact hquiet.of_parts rfl rfl rfl rfl
  · exact hquiet

end Sys2Proof.Machine

/-! PROOF. The completion of a record (R152), the stall's expiry (R155), Set Lane and Reset Lane (R157 to R159), RESTART and
power-on keep voices and lanes in agreement; then so does every step. -/

namespace Sys2Proof.Machine

theorem no_starts_of_empty {l : Lane} (h : l.queue = []) (v : Slot) : l.unsent.countP (LaneRecord.isStartOf v) = 0 := by
  unfold Lane.unsent
  split <;> simp [h]

theorem Lane.hasWork_of_empty {l : Lane} (h : l.queue = []) : l.hasWork = false := by
  unfold Lane.hasWork
  rw [h, List.isEmpty_nil, Bool.not_true, Bool.and_false, Bool.false_and]

/-- An empty lane is driven with its timer stopped. -/
theorem Lane.driven_of_empty {l : Lane} (hqueue : l.queue = []) (hsending : l.sending = false) (hstall : l.stall = none) :
    l.Driven := by
  rw [Lane.driven_iff, hstall]
  exact ⟨fun hs => (Bool.false_ne_true (hsending.symm.trans hs)).elim, fun _ hq => (hq hqueue).elim,
    fun hs => (Bool.false_ne_true hs).elim, fun hs => (hs.2.1 hqueue).elim⟩

/-- An empty lane with nothing owed that does not transmit. -/
theorem Lane.sound_of_empty {l : Lane} (hstate : l.state = .off ∨ l.state = .dead) (hqueue : l.queue = [])
    (hsending : l.sending = false) (howed : l.owed = []) (hstall : l.stall = none) : l.Sound := by
  have hunsent : l.unsent = [] := by simp [Lane.unsent, hqueue, hsending]
  refine ⟨⟨?_, ?_, ?_⟩, Lane.driven_of_empty hqueue hsending hstall, ⟨fun _ => ⟨hqueue, hsending, howed⟩, fun hc => ?_⟩, ?_⟩
  · simp [Lane.occupancy, hqueue]
  · simp [hunsent]
  · simp [hunsent]
  · rcases hstate with hs | hs <;> rw [hs] at hc <;> cases hc
  · rw [howed]
    exact List.nodup_nil

/-- A sound lane stays driven in a state in which it transmits. -/
theorem Lane.Sound.restated {l : Lane} (h : l.Sound) {st : LaneState} (hst : st = .live ∨ st = .closing) :
    ({ l with state := st } : Lane).Driven := by
  have htransmits : ({ l with state := st } : Lane).transmits = true := (Lane.transmits_iff _).mpr hst
  by_cases ht : l.transmits = true
  · exact h.driven.requeued (htransmits.trans ht.symm) rfl rfl rfl rfl .rfl
  · have hidle : l.state = .off ∨ l.state = .dead := by
      rw [Lane.transmits_iff] at ht
      cases hl : l.state <;> simp [hl] at ht ⊢
    obtain ⟨hqueue, hsending, -⟩ := h.coherent.1 hidle
    exact Lane.driven_of_empty hqueue hsending (h.driven.idle (Lane.hasWork_of_empty hqueue))

section
variable {s t : State} (h : s.InConcord)
include h

/-- Lane n, which no voice names, has been emptied and has left the silence-pending set (R152, R158). -/
theorem State.InConcord.closedLane {n : LaneNo} (hn : s.lanes[n].state ≠ .live) (hvtb : t.vtb = s.vtb)
    (hother : ∀ k : LaneNo, k ≠ n → t.lanes[k] = s.lanes[k]) (hsound : t.lanes[n].Sound) (hqueue : t.lanes[n].queue = [])
    (howed : t.lanes[n].owed = []) (hpending : t.slc.pending = LaneSet.remove s.slc.pending n)
    (hstale : t.slc.stale = LaneSet.remove s.slc.stale n) : t.InConcord := by
  unfold State.InConcord
  rw [hvtb]
  exact {
    voices := h.voices.of_vtb hvtb
    distinct := by rw [hvtb]; exact h.distinct
    lanes := fun k => by
      by_cases hk : k = n
      · rw [hk]; exact hsound
      · rw [hother k hk]; exact h.lanes k
    agree := fun k v => by
      rw [hvtb]
      by_cases hk : k = n
      · subst hk
        have ha := h.agree k v
        exact .apart (Bool.eq_false_of_not_eq_true fun hl => hn (ha.lanes hl))
          (Bool.eq_false_of_not_eq_true fun ho => hn (ha.owed ho)) (by rw [howed]; exact List.not_mem_nil)
          (no_starts_of_empty hqueue v)
      · rw [hother k hk]; exact h.agree k v
    awaits := fun k => by
      rw [hpending, hstale, LaneSet.has_remove, LaneSet.has_remove]
      by_cases hk : k = n
      · simpa [hk] using t.lanes[n].awaits_nothing
      · simpa [hk, hother k hk] using h.awaits k
    held := fun v => by rw [hvtb]; exact h.held v }

end

/-! ## The completion of a record (R152) -/

theorem State.pendingTo_blocks (s : State) (p q : LaneSet) : (s.pendingTo p q).vtb = s.vtb
    ∧ (s.pendingTo p q).lanes = s.lanes ∧ (s.pendingTo p q).slc = { s.slc with pending := p, stale := q } :=
  ⟨rfl, rfl, rfl⟩

/-- A CLOSING lane holds nothing behind its last Silence. -/
theorem Lane.Sound.closes {l : Lane} (h : l.Sound) (hc : l.state = .closing) {rest : List LaneRecord}
    (hq : l.queue = .silence :: rest) (hr : .silence ∉ rest) : rest = [] := by
  have hlast := (h.coherent.2 hc).2
  rw [hq] at hlast
  cases rest with
  | nil => rfl
  | cons r rest =>
    rw [List.getLast?_cons_cons] at hlast
    exact (hr (List.mem_of_getLast? hlast)).elim

section
variable {s : State} (h : s.InConcord) {n : LaneNo} {r : LaneRecord} {rest : List LaneRecord}
  (hs : s.lanes[n].sending = true) (hq : s.lanes[n].queue = r :: rest)
include h hs hq

theorem State.InConcord.completedStays (hstays : r = .silence → ¬ (s.lanes[n].state = .closing ∧ .silence ∉ rest)) :
    (completed n r rest s).InConcord := by
  have hl := h.lanes n
  have hlane : (completed n r rest s).lanes[n] = s.lanes[n].carriedOn rest := completed_lane hstays hs (hl.sends hs)
  have hother {k : LaneNo} (hk : k ≠ n) : (completed n r rest s).lanes[k] = s.lanes[k] := completed_lane_ne hstays hk
  have hvoice := completed_voice hstays
  have hpending := completed_pending hstays
  have hvoicedAs : (completed n r rest s).vtb.voicedAs = s.vtb.voicedAs := by
    rw [completed_frame hstays]
  unfold State.InConcord
  rw [hvoicedAs]
  generalize completed n r rest s = t at hlane hother hvoice hpending
  have hfades (v : Slot) : s.vtb.voices[v].Fades t.vtb.voices[v] := by
    rw [hvoice]
    split
    · refine ⟨fun hsounds => ?_, fun x hx => hx⟩
      obtain ⟨hstate, horigin⟩ := (Voice.soundsLive_iff _).mp hsounds
      exact ⟨(Voice.soundsLive_iff _).mpr ⟨(Voice.delivered_sounding _ n).mp hstate, horigin⟩, rfl, rfl⟩
    · exact .refl _
  refine ⟨fun v => ?_, LiveDistinct.fades h.distinct hfades, fun k => ?_, fun k v => ?_, fun k => ?_,
    fun v x hx => h.held v x ((hfades v).holders x hx)⟩
  · rw [hvoice]
    split
    · exact (h.voices v).delivered n
    · exact h.voices v
  · by_cases hk : k = n
    · rw [hk, hlane]
      exact Lane.carriedOn_sound hl hs hq hstays
    · rw [hother hk]
      exact h.lanes k
  · rw [hvoice]
    by_cases hk : k = n
    · subst hk
      rw [hlane]
      exact Lane.Agrees.carriedOn hl hs hq (h.agree k v)
    · rw [hother hk]
      split
      · exact (h.agree k v).deliveredOther hk
      · exact h.agree k v
  · rw [(hpending k).1, (hpending k).2]
    by_cases hk : k = n
    · subst hk
      rw [hlane, beq_self_eq_true, Bool.true_and]
      exact Lane.Awaits.carriedOn hl hs hq (h.awaits k)
    · rw [hother hk, beq_eq_false_iff_ne.mpr hk, Bool.false_and, Bool.false_and, Bool.not_false, Bool.and_true, Bool.and_true]
      exact h.awaits k

theorem State.InConcord.completed : (completed n r rest s).InConcord := by
  rcases completed_cases n r rest s with ⟨rfl, hc, hr⟩ | hstays
  · obtain rfl := (h.lanes n).closes hc hq hr
    have howed := ((h.lanes n).coherent.2 hc).1
    rw [completed_closes hc hr]
    obtain ⟨hvtb, hlanes, hslc⟩ := s.pendingTo_blocks (LaneSet.remove s.slc.pending n) (LaneSet.remove s.slc.stale n)
    generalize s.pendingTo (LaneSet.remove s.slc.pending n) (LaneSet.remove s.slc.stale n) = t at hvtb hlanes hslc
    refine h.closedLane (n := n) (by rw [hc]; nofun) hvtb (fun k hk => ?_) ?_ ?_ ?_ (by rw [State.setLane_slc, hslc])
      (by rw [State.setLane_slc, hslc])
    · rw [State.setLane_get_ne _ _ hk, hlanes]
    all_goals rw [State.setLane_get_self]
    · exact Lane.sound_of_empty (.inl rfl) rfl rfl howed rfl
    · exact howed
  · exact h.completedStays hs hq hstays

end

section
variable {s : State} (h : s.InConcord)
include h

theorem State.InConcord.arbitrate : s.arbitrate.InConcord :=
  h.of_parts s.arbitrate_vtb s.arbitrate_lanes (by rw [s.arbitrate_slc]) (by rw [s.arbitrate_slc])

theorem State.InConcord.recordCompletion (n : LaneNo) : (recordCompletion n s).InConcord := by
  rcases recordCompletion_cases n s with e | ⟨r, rest, hs, hq, e⟩ <;> rw [e]
  · exact h
  · exact (h.completed hs hq).arbitrate

/-! ## The stall's expiry, Set Lane and Reset Lane (R155, R157 to R159) -/

theorem State.InConcord.stallExpiry (n : LaneNo) : (stallExpiry n s).InConcord := by
  by_cases hdue : s.lanes[n].waiting = true ∧ s.lanes[n].stallDue = true
  · rw [stallExpiry_due hdue.1 hdue.2]
    obtain ⟨hvtb, hlanes, hslc⟩ := ((s.setLane n s.lanes[n].dead).clearLane n).pendingTo_blocks
      (LaneSet.remove s.slc.pending n) (LaneSet.remove s.slc.stale n)
    generalize ((s.setLane n s.lanes[n].dead).clearLane n).pendingTo (LaneSet.remove s.slc.pending n)
      (LaneSet.remove s.slc.stale n) = t at hvtb hlanes hslc
    have hidle : s.lanes[n].sending = false := ((Lane.hasWork_iff _).mp (Bool.and_eq_true_iff.mp hdue.1).1).2.2
    have hlane : t.lanes[n] = s.lanes[n].dead := by
      rw [hlanes, State.clearLane_lanes, State.setLane_get_self]
    have hother {k : LaneNo} (hk : k ≠ n) : t.lanes[k] = s.lanes[k] := by
      rw [hlanes, State.clearLane_lanes, State.setLane_get_ne _ _ hk]
    have hcleared : t.Concord fun x => s.vtb.voicedAs[x] ≠ none := by
      refine State.Concord.clearedLane h (n := n) (fun v => by rw [hvtb, State.clearLane_get]; rfl) (fun k hk => ⟨hother hk, ?_, ?_⟩)
        ?_ ?_ ?_ ?_
      · rw [hslc, LaneSet.has_remove]
        simp [hk]
      · rw [hslc, LaneSet.has_remove]
        simp [hk]
      all_goals rw [hlane]
      · exact Lane.sound_of_empty (.inr rfl) rfl hidle rfl rfl
      · rfl
      · exact no_starts_of_empty rfl
      · rw [hslc, LaneSet.has_remove, LaneSet.has_remove]
        simpa using Lane.awaits_nothing _
    have hconcord : t.InConcord := by
      unfold State.InConcord
      rw [hvtb]
      exact hcleared
    exact (hconcord.of_parts rfl rfl rfl rfl : (t.raise (.laneDead n)).InConcord).arbitrate
  · have hearly : Machine.stallExpiry n s = s := if_neg fun hc => hdue (Bool.and_eq_true_iff.mp hc)
    rw [hearly]
    exact h

/-- A Silence on a lane that has just taken a state in which it transmits. -/
theorem State.InConcord.silenceOn {n : LaneNo} {l : Lane} (hl : l.Driven) (ht : l.transmits = true)
    (hstale : LaneSet.has s.slc.stale n = true → l.sendsSilence = true) : ((s.setLane n l).silenceLane n).InConcord := by
  have hvoicedAs : ((s.setLane n l).silenceLane n).vtb.voicedAs = s.vtb.voicedAs := by rw [silenceOn_frame]
  unfold State.InConcord
  rw [hvoicedAs]
  exact State.Concord.silenceOn h hl ht hstale

theorem State.InConcord.laneSet (n : LaneNo) (enable : Bool) (timeout : Nat)
    (hdead : ¬ (s.lanes[n].state = .dead ∧ enable = true)) : (s.laneSet n enable timeout).InConcord := by
  have hset := s.lanes[n].updates_setTimeout timeout
  have hsound := hset.sound (h.lanes n)
  rcases laneSet_cases timeout hdead with ⟨-, e⟩ | ⟨-, -, hst, e⟩ | ⟨hstate, e⟩ <;> rw [e]
  · exact h.setLane n hset
  · refine h.silenceOn (hsound.restated hst) ((Lane.transmits_iff _).mpr hst) fun hstale => ?_
    exact (((h.awaits n).kept (fun ht => (transmits_of_state hset.state).trans ht) hset.toHoldsSilences).stale hstale).1
  · have hstate' : (s.lanes[n].setTimeout timeout).state = .dead := hset.state.trans hstate
    obtain ⟨hqueue, hsending, howed⟩ := hsound.coherent.1 (.inr hstate')
    have hstall := hsound.driven.idle (Lane.hasWork_of_empty hqueue)
    have hlane : ((s.setLane n { s.lanes[n].setTimeout timeout with state := .off }).leavePending n).lanes[n]
        = { s.lanes[n].setTimeout timeout with state := .off } := by
      rw [leavePending_lanes, State.setLane_get_self]
    refine h.closedLane (n := n) (by rw [hstate]; nofun) (by rw [State.leavePending_vtb, State.setLane_vtb]) (fun k hk => ?_)
      ?_ ?_ ?_ (by rw [State.leavePending_frame]; rfl) (by rw [State.leavePending_frame]; rfl)
    · rw [leavePending_lanes, State.setLane_get_ne _ _ hk]
    all_goals rw [hlane]
    · exact Lane.sound_of_empty (.inl rfl) hqueue hsending howed hstall
    · exact hqueue
    · exact howed

theorem State.InConcord.reviveLane (n : LaneNo) : (reviveLane s n).InConcord := by
  have hon : ((s.setLane n { s.lanes[n] with state := .live }).silenceLane n).InConcord :=
    h.silenceOn ((h.lanes n).restated (.inl rfl)) rfl fun hstale => ((h.awaits n).stale hstale).1
  exact hon.setLane n (Lane.updates_beginOrWait _)

end

end Sys2Proof.Machine

/-! PROOF. RESTART and power-on bring voices and lanes into agreement (R164, R180), every command keeps them so, and with the
promises of E = 0 and HALTED that is what every step keeps. -/

namespace Sys2Proof.Machine

/-! ## RESTART and power-on -/

/-- A lane that owes nothing, with no unsent Start. -/
structure Lane.Fresh (l : Lane) : Prop where
  sound : l.Sound
  owed : l.owed = []
  starts : ∀ v, l.unsent.countP (LaneRecord.isStartOf v) = 0

/-- With every voice FREE and every lane fresh there is nothing to disagree about. -/
theorem State.Concord.afresh {s : State} (p : Crosspoint → Prop)
    (hvoice : ∀ v : Slot, s.vtb.voices[v].state = .free ∧ s.vtb.voices[v].holders = [] ∧ s.vtb.voices[v].lanes = 0
      ∧ s.vtb.voices[v].owed = 0) (hlane : ∀ n : LaneNo, s.lanes[n].Fresh) (hpending : s.slc.pending = 0)
    (hstale : s.slc.stale = 0) : s.Concord p where
  voices v := by
    obtain ⟨hstate, hrest⟩ := hvoice v
    refine ⟨fun _ => hrest, fun hs => ?_, fun hs => ?_⟩ <;> cases hstate.symm.trans hs
  distinct v _ hv := by
    rw [Voice.soundsLive_iff, (hvoice v).1] at hv
    cases hv.1
  lanes n := (hlane n).sound
  agree n v := by
    obtain ⟨-, -, hlanes, howed⟩ := hvoice v
    exact .apart (by rw [hlanes]; exact LaneSet.not_has_zero n) (by rw [howed]; exact LaneSet.not_has_zero n)
      (by rw [(hlane n).owed]; exact List.not_mem_nil) ((hlane n).starts v)
  awaits n := by
    rw [hpending, hstale, LaneSet.not_has_zero]
    exact s.lanes[n].awaits_nothing
  held v x hx := by
    rw [(hvoice v).2.1] at hx
    cases hx

theorem Lane.Sound.fresh_of_off {l : Lane} (h : l.Sound) (hoff : l.state = .off) : l.Fresh := by
  obtain ⟨hqueue, -, howed⟩ := h.coherent.1 (.inl hoff)
  exact ⟨h, howed, no_starts_of_empty hqueue⟩

/-- A lane that has been revived is fresh (R159, R164). -/
theorem reviveLane_fresh {s : State} {n : LaneNo} (h : s.lanes[n].Sound) : (reviveLane s n).lanes[n].Fresh := by
  have hdriven := h.restated (st := .live) (.inl rfl)
  have hb := ({ s.lanes[n] with state := .live } : Lane).behind_force s.tierCode s.dyn.expr
  unfold reviveLane
  simp only []
  rw [State.setLane_get_self, silenceOn_lane rfl]
  have hbegun := Lane.updates_beginOrWait (({ s.lanes[n] with state := .live } : Lane).silenced
    (if LaneState.live = .live then [.tier s.tierCode, .swell s.dyn.expr] else []))
  refine ⟨hbegun.sound (Lane.silenced_sound hdriven rfl hb), hbegun.owed.trans (Lane.silenced_owed _ _), fun v => ?_⟩
  exact Nat.eq_zero_of_le_zero ((hbegun.starts v).trans (Lane.silenced_no_start hdriven rfl hb v).le)

theorem restarted_inConcord {s : State} (h : s.InConcord) : s.restarted.InConcord := by
  have hframe := restarted_frame s
  have hvoice := restarted_voice s
  have hlane (n : LaneNo) : s.restarted.lanes[n].Fresh := by
    rw [restarted_lane]
    have hkept : s.restartCleared.lanes[n] = s.lanes[n] := rfl
    by_cases hoff : s.lanes[n].state = .off
    · rw [restartLane_off (hkept ▸ hoff), hkept]
      exact (h.lanes n).fresh_of_off hoff
    · rw [restartLane_on (hkept ▸ hoff)]
      exact reviveLane_fresh (hkept ▸ h.lanes n)
  have hpending : s.restarted.slc.pending = 0 ∧ s.restarted.slc.stale = 0 := by
    generalize s.restarted = t at hframe
    rw [hframe]
    exact ⟨rfl, rfl⟩
  exact .afresh _ (fun v => by rw [hvoice]; exact ⟨rfl, rfl, rfl, rfl⟩) hlane hpending.1 hpending.2

theorem powerOnReset_inConcord (s : State) : (powerOnReset s).InConcord := by
  refine .afresh _ (fun v => ?_) (fun n => ?_) rfl rfl
  · have hvoice : (powerOnReset s).vtb.voices[v] = Voice.blank := reset_voice v
    rw [hvoice]
    exact ⟨rfl, rfl, rfl, rfl⟩
  · rw [powerOnReset_lane]
    exact Lane.Sound.fresh_of_off (Lane.sound_of_empty (.inl rfl) rfl rfl rfl rfl) rfl

/-! ## Every command -/

theorem inConcord_kept : KeptByEvents State.InConcord where
  same h hw := h.of_parts hw.vtb hw.lanes (by rw [hw.slc]) (by rw [hw.slc])
  tierCheck h := h.tierCheck
  sectionReexpand p h := h.sectionReexpand p
  layersTransferred h := h.layersTransferred
  pressKey x h _ := h.pressKey x
  releaseKey x h := h.releaseKey x
  writeEnable e sh h := h.writeEnable e sh
  haltPart h := h.haltPart
  blind h hvtb hlanes hslc := h.of_parts hvtb hlanes (by rw [hslc]) (by rw [hslc])
  reversalReexpand h := h.reversalReexpand
  processSample m h := h.processSample m
  panicPart h := h.panicPart
  readyRise n h := h.readyRise n
  readyFall n h := h.readyFall n
  recordCompletion n h := h.recordCompletion n
  stallExpiry n h := h.stallExpiry n
  laneSet n enable timeout hdead h := h.laneSet n enable timeout hdead
  reviveLane n _ h := h.reviveLane n
  restarted h := restarted_inConcord h
  tick h := h.tick
  powerOn := powerOnReset_inConcord

/-! ## The agreement in the statement's words -/

theorem voicesAndLanesAgree_iff (s : State) : s.VoicesAndLanesAgree
    ↔ ∀ n : LaneNo, s.lanes[n].owed.Nodup ∧ ∀ v : Slot, Lane.Agrees n s.lanes[n] v s.vtb.voices[v] :=
  forall_congr' fun _ => and_congr_right fun _ => forall_congr' fun _ =>
    ⟨fun ⟨a, b, c, d, e⟩ => ⟨a, b, c, d, e⟩, fun ⟨a, b, c, d, e⟩ => ⟨a, b, c, d, e⟩⟩

/-- An unsent Start is some voice's. -/
theorem no_start_of_each {rs : List LaneRecord} (h : ∀ v, rs.countP (LaneRecord.isStartOf v) = 0) :
    rs.countP LaneRecord.isStart = 0 := by
  rw [List.countP_eq_zero]
  intro r hr hstart
  cases r with
  | start v _ _ _ => exact List.countP_eq_zero.mp (h v) _ hr (beq_self_eq_true v)
  | _ => cases hstart

/-- What the steps keep together is agreement, the promises of E = 0 and HALTED, and voiced keys. -/
theorem voicesLanesCoherent_iff (s : State) :
    s.VoicesLanesCoherent ↔ (s.Promised ∧ s.KeysVoiced []) ∧ s.InConcord := by
  rw [State.keysVoiced_iff]
  constructor
  · intro ⟨hvoices, hdistinct, hlanes, hagree, ⟨hheld, hkeys⟩, hpending, hdisabled, hhalted⟩
    have hagrees := (voicesAndLanesAgree_iff s).mp hagree
    refine ⟨⟨⟨fun he => ?_, hhalted⟩, hkeys⟩, ?_⟩
    · obtain ⟨hsilent, hunvoiced, -⟩ := hdisabled he
      exact ⟨hsilent, hunvoiced⟩
    · exact ⟨hvoices, hdistinct, fun n => ⟨(hlanes n).1, (hlanes n).2.1, (hlanes n).2.2, (hagrees n).1⟩,
        fun n v => (hagrees n).2 v, fun n => ⟨(hpending n).1, (hpending n).2⟩, hheld⟩
  · intro ⟨⟨⟨hdisabled, hhalted⟩, hkeys⟩, hconcord⟩
    have hagrees := (voicesAndLanesAgree_iff s).mpr fun n => ⟨(hconcord.lanes n).owedOnce, hconcord.agree n⟩
    refine ⟨hconcord.voices, hconcord.distinct,
      fun n => ⟨(hconcord.lanes n).bounded, (hconcord.lanes n).driven, (hconcord.lanes n).coherent⟩, hagrees,
      ⟨hconcord.held, hkeys⟩, fun n => ⟨(hconcord.awaits n).pending, (hconcord.awaits n).stale⟩, fun he => ?_, hhalted⟩
    obtain ⟨hsilent, hunvoiced⟩ := hdisabled he
    exact ⟨hsilent, hunvoiced, fun n => no_start_of_each fun v => (hconcord.agree n v).no_start (.inl (hsilent v))⟩

/-- Settles O56: the promises are kept by themselves, and with the agreement of voices, lanes and voiced keys. -/
theorem stepKeepsSilenceWhenDisabled : Obligations.StepKeepsSilenceWhenDisabled := by
  unfold Obligations.StepKeepsSilenceWhenDisabled
  refine ⟨fun s t hdisabled hhalted hstep => promised_kept.step_keeps ⟨hdisabled, hhalted⟩ hstep, fun s t hs hstep => ?_⟩
  rw [voicesLanesCoherent_iff] at hs ⊢
  exact (keysVoiced_kept.and inConcord_kept.kept).step_keeps hs hstep

end Sys2Proof.Machine
